-- ==== Sys2Proof/Word.lean ====
section
/-! DEFINITION. The words of the device and the fixed-size bank of like things. -/

namespace Sys2Proof

/-- One byte of a frame, of a record or of a module's memory. -/
abbrev Byte := BitVec 8

/-- An Ethernet address, most significant byte first on the wire (R168). -/
abbrev MacAddress := BitVec 48

/-- A cage, 0 to 15 (0.6). -/
abbrev CageId := Fin 16
/-- A link id, cage × 4 + slot (R75). -/
abbrev LinkId := Fin 64
/-- A slot of a cage, 0 to 3 (R75). -/
abbrev SlotId := Fin 4
/-- A park class, 0 to 3 (0.6). -/
abbrev ClassId := Fin 4
/-- A module-side or fabric-side lane of a cage, 0 to 7 (0.6). -/
abbrev LaneId := Fin 8
/-- A module bus controller; controller k serves cages 4k to 4k+3 (R7). -/
abbrev ControllerId := Fin 4
/-- A snapshot channel (12). -/
abbrev ChannelId := Fin 4
/-- A parameter set, 0 to 31 (R36). -/
abbrev SetId := Fin 32

/-- `n` like things, one for each index below `n`. -/
structure Bank (n : Nat) (α : Type) where
  items : List α
  size : items.length = n
deriving DecidableEq, Repr

/-- The thing at index `i`. -/
def Bank.get {n : Nat} {α : Type} (b : Bank n α) (i : Fin n) : α :=
  b.items[i.val]'(by rw [b.size]; exact i.isLt)

/-- The bank with the thing at index `i` replaced. -/
def Bank.set {n : Nat} {α : Type} (b : Bank n α) (i : Fin n) (x : α) : Bank n α :=
  ⟨b.items.set i.val x, by rw [List.length_set]; exact b.size⟩

/-- The same thing at every index. -/
def Bank.fill (n : Nat) {α : Type} (x : α) : Bank n α :=
  ⟨List.replicate n x, List.length_replicate⟩

/-- The bank whose thing at index `i` is `f i`. -/
def Bank.tabulate {n : Nat} {α : Type} (f : Fin n → α) : Bank n α :=
  ⟨(List.finRange n).map f, by rw [List.length_map, List.length_finRange]⟩

end Sys2Proof
end

