-- ==== Sys2Proof/Syntax.lean ====
section
/-! DEFINITION. The commands: one constructor of `Instr` for each row of spec/opcode_table.json, with the row's operands.
A request carries its requester and the fields of its body as R168 lays them out, unchecked; an event carries what the
outside shows with it. -/

namespace Sys2Proof

/-- Where a request arrived and where its reply leaves (R160, R161). -/
inductive Port where
  | service
  | fabric (link : LinkId)
deriving DecidableEq, Repr

/-- What a reply needs of its request: the arrival port, the source address and the tag (R161). -/
structure Requester where
  port : Port
  source : MacAddress
  tag : BitVec 16
deriving DecidableEq, Repr

/-- A request as the queue holds it: its arrival port and what the engine reads of its frame (R159, R160). `body` is every
byte the frame carries after the header and before the frame check sequence. -/
structure Request where
  port : Port
  source : MacAddress
  version : Byte
  tag : BitVec 16
  code : Byte
  bodyLength : Nat
  body : List Byte
deriving DecidableEq, Repr

/-- What a loss of lock loses (R88). -/
inductive LockLoss where
  | marker (lane : LaneId)
  | fec
deriving DecidableEq, Repr

/-- An equaliser's report that it has converged: its lane, and the bring-up epoch of the attempt in which it did, which
tells a late report from one of the running attempt (R79, R81; log 17). -/
structure Convergence where
  lane : LaneId
  attempt : BitVec 16
deriving DecidableEq, Repr

/-- The commands of the block. -/
inductive Instr where
  /-- RESET_N, with the levels of the PRESENT and ALERT inputs (bit n for cage n) and the POSITION straps it finds. -/
  | powerOnReset (present alert : BitVec 16) (straps : BitVec 4)
  | presentAssertion (cage : CageId)
  | presentDeassertionInSeating (cage : CageId)
  | removal (cage : CageId)
  | alertAssertion (cage : CageId)
  | seatingTimerExpiry (cage : CageId)
  | readyTimerExpiry (cage : CageId)
  /-- `selected`: the module acknowledged the page select write of the failed attempt (R9). -/
  | moduleBusAttemptFailure (controller : ControllerId) (selected : Bool)
  | busStretchTimeout (controller : ControllerId)
  /-- `data`: the bytes a READ delivers, in offset order; not used by a WRITE. -/
  | moduleBusTransactionEnd (controller : ControllerId) (data : List Byte)
  | searchEnd
  | guardTimerExpiry (cage : CageId)
  | pollTimerExpiry (cage : CageId)
  | powerUpTimerExpiry (cage : CageId)
  | laneConverged (link : LinkId) (report : Convergence)
  | adaptationTimerExpiry (link : LinkId)
  /-- `offset`: the lane's marker offset in symbols (R83). -/
  | markerLock (link : LinkId) (lane : LaneId) (offset : Nat)
  | fecLock (link : LinkId)
  | alignmentTimerExpiry (link : LinkId)
  | lossOfLock (link : LinkId) (what : LockLoss)
  | lockLossTimerExpiry (link : LinkId)
  | windowTimerExpiry (link : LinkId)
  | probeIntervalExpiry (link : LinkId)
  | decayTickExpiry
  | holdTimerExpiry (link : LinkId)
  | pauseRefreshExpiry (link : LinkId) (cls : ClassId)
  /-- `frame`: every byte from the destination address to the frame check sequence (R129). -/
  | frameFromSwitch (link : LinkId) (frame : List Byte)
  | frameFromModule (link : LinkId) (frame : List Byte)
  | fabricEgressFree (link : LinkId)
  | tokenTick (link : LinkId)
  | moduleEgressTransitEnd (link : LinkId)
  | rampTimerExpiry (link : LinkId)
  | servicePortFrame (frame : List Byte)
  | readStateDevice (rq : Requester)
  | readStateCage (rq : Requester) (cage : Byte)
  | readStateLink (rq : Requester) (link : Byte)
  | readCounters (rq : Requester) (link : Byte)
  | readDiscards (rq : Requester)
  | seatingTime (rq : Requester) (value : BitVec 16)
  | managementReadyTime (rq : Requester) (value : BitVec 16)
  | identityReadList (rq : Requester) (value : List Byte)
  | serialLocation (rq : Requester) (page offset : Byte)
  | pageSelectLocation (rq : Requester) (value : Byte)
  | fabricLayout (rq : Requester) (cage value : Byte)
  | alertEnable (rq : Requester) (cage value : Byte)
  | lockLossConfirmTime (rq : Requester) (value : BitVec 16)
  | lossIncrement (rq : Requester) (value : BitVec 16)
  | removalIncrement (rq : Requester) (value : BitVec 16)
  | ceiling (rq : Requester) (value : BitVec 16)
  | suppressThreshold (rq : Requester) (value : BitVec 16)
  | reuseThreshold (rq : Requester) (value : BitVec 16)
  | decayFactor (rq : Requester) (value : BitVec 16)
  | decayTick (rq : Requester) (value : BitVec 16)
  | pausable (rq : Requester) (cls value : Byte)
  | pauseTime (rq : Requester) (value : BitVec 16)
  | pauseOnHold (rq : Requester) (value : Byte)
  | dscpMapEnable (rq : Requester) (value : Byte)
  | dscpMap (rq : Requester) (value : List Byte)
  | defaultPriority (rq : Requester) (value : Byte)
  | classMap (rq : Requester) (value : List Byte)
  | classLimit (rq : Requester) (value : BitVec 16)
  | criticalLevel (rq : Requester) (value : BitVec 16)
  | resumeLevel (rq : Requester) (value : BitVec 16)
  | linkLimit (rq : Requester) (value : BitVec 16)
  | poolLowMark (rq : Requester) (value : BitVec 16)
  | managementAddress (rq : Requester) (value : MacAddress)
  | managementTypeValue (rq : Requester) (value : BitVec 16)
  | noticeLevel (rq : Requester) (kind value : Byte)
  | noticeGap (rq : Requester) (value : Byte)
  | engage (rq : Requester)
  | disengage (rq : Requester)
  | deviceRestart (rq : Requester)
  | cageRestart (rq : Requester) (cage : Byte)
  | tableEdit (rq : Requester)
  | tableAppend (rq : Requester) (key attr : BitVec 32)
  | tableReplace (rq : Requester) (index : Byte) (key attr : BitVec 32)
  | tableTruncate (rq : Requester) (count : BitVec 16)
  | tableCommit (rq : Requester) (checksum : BitVec 32)
  | commitChecksumDone
  | tableRead (rq : Requester) (start : BitVec 16) (number : Byte)
  | setWrite (rq : Requester) (set : Byte) (contents : List Byte)
  | setRead (rq : Requester) (set : Byte)
  | moduleRead (rq : Requester) (cage page offset length : Byte)
  | moduleWrite (rq : Requester) (cage page offset length : Byte) (data : List Byte)
  | forceGateOff (rq : Requester) (cage : Byte)
  | reArmGate (rq : Requester) (cage : Byte)
  | extendHold (rq : Requester) (link : Byte) (extension : BitVec 16)
  | forceAdmit (rq : Requester) (link : Byte)
  | acceptPeer (rq : Requester) (link : Byte)
  | linkRetry (rq : Requester) (link : Byte)
  | clearPenalty (rq : Requester) (link : Byte)
  | flushPark (rq : Requester) (link : Byte)
  | forgetCage (rq : Requester) (number : BitVec 32)
  | forgetDigest (rq : Requester) (digest : BitVec 32)
  | forgetPeer (rq : Requester) (number : BitVec 32)
  | forgetAll (rq : Requester)
  | readMemoryCageRecords (rq : Requester)
  | readMemoryCache (rq : Requester)
  | readMemoryPeerRecords (rq : Requester)
  | snapArm (rq : Requester) (channel kind source count mode : Byte)
  | snapStart (rq : Requester) (channel source : Byte)
  | snapDisarm (rq : Requester) (channel : Byte)
  | gapTimerExpiry
  | servicePortFree
  /-- The two stored words of the entry after the damage, laid out as R168 lays out an entry. -/
  | entryDamage (index : Fin 256) (key attr : BitVec 32)
  /-- The symbols the decoder corrected in the codeword, and whether it was uncorrectable (R92). -/
  | codewordDecoded (link : LinkId) (corrected : Nat) (uncorrectable : Bool)
  | alertDeassertion (cage : CageId)
deriving DecidableEq, Repr

end Sys2Proof
end

