-- ==== Sys2Proof/Machine/Bytes.lean ====
section
/-! DEFINITION. Byte order (R168: most significant byte first) and the units of time (log 3). -/

namespace Sys2Proof.Machine

/-- One microsecond in units of 0.32 ns (log 3). -/
def microsecond : Nat := 3125

/-- One millisecond in units of 0.32 ns (log 3). -/
def millisecond : Nat := 3125000

/-- `n` as one byte. -/
def byteOf (n : Nat) : Byte := BitVec.ofNat 8 n

/-- `n` as `k` bytes, most significant first (R168). -/
def bytesOf : Nat → Nat → List Byte
  | 0, _ => []
  | k + 1, n => byteOf (n / 256 ^ k) :: bytesOf k n

/-- A mark as a byte: 1 for set (R168). -/
def markByte (b : Bool) : Byte := if b then 1 else 0

/-- The number that bytes spell, most significant first (R168). -/
def numberOf (bytes : List Byte) : Nat := bytes.foldl (fun n b => n * 256 + b.toNat) 0

/-- The byte at offset `i`; 0 beyond the end. -/
def byteAt (bytes : List Byte) (i : Nat) : Byte := bytes.getD i 0

/-- The `k` bytes from offset `i`. -/
def slice (bytes : List Byte) (i k : Nat) : List Byte := (bytes.drop i).take k

/-- The 16-bit field at offset `i`. -/
def field16 (bytes : List Byte) (i : Nat) : BitVec 16 := byteAt bytes i ++ byteAt bytes (i + 1)

/-- The 32-bit field at offset `i`. -/
def field32 (bytes : List Byte) (i : Nat) : BitVec 32 := field16 bytes i ++ field16 bytes (i + 2)

/-- The 48-bit address at offset `i`. -/
def field48 (bytes : List Byte) (i : Nat) : MacAddress := field16 bytes i ++ field32 bytes (i + 2)

/-- A 16-bit word as two bytes. -/
def bytes16 (w : BitVec 16) : List Byte := [w.extractLsb' 8 8, w.extractLsb' 0 8]

/-- A 32-bit word as four bytes. -/
def bytes32 (w : BitVec 32) : List Byte := bytes16 (w.extractLsb' 16 16) ++ bytes16 (w.extractLsb' 0 16)

/-- An address as six bytes. -/
def bytes48 (w : MacAddress) : List Byte := bytes16 (w.extractLsb' 32 16) ++ bytes32 (w.extractLsb' 0 32)

/-- A byte with bit `n` set where `f n` holds (R168, "bit n for …"). -/
def bitsByte (k : Nat) (f : Nat → Bool) : Byte :=
  byteOf ((List.range k).foldl (fun n i => if f i then n + 2 ^ i else n) 0)

/-- `n` modulo a bank's size, as an index of it; used where `n` has been checked against the size. -/
def indexOf (k n : Nat) (h : 0 < k := by decide) : Fin k := ⟨n % k, Nat.mod_lt n h⟩

end Sys2Proof.Machine
end

