-- ==== Sys2Proof/Config.lean ====
section
/-! DEFINITION. The free values: what the manual leaves open while the device goes on. None has a body, so no proof can
rest on what it is (log 2). Each is applied to a counter the step advances, so each use is a fresh value. -/

namespace Sys2Proof.Config

/-- Setting `k` that the equaliser of module-side lane `lane` holds when it is read at use `n`: it tracks the signal
(R81), so its value is the outside's; the six bits are a signed integer −32 to 31 (log 5). -/
opaque trackedSetting (n : Nat) (lane : Fin 8) (k : Fin 5) : BitVec 6

/-- Whether the page select write of the attempt in flight is still to be acknowledged as the cage's page record becomes
unknown at use `n` (R10): how far the attempt has come is the module bus's (log 11). -/
opaque selectsLater (n : Nat) : Bool

/-- The layout field of a cage record made at use `n`, while its valid flag is clear (R58, R65): it carries no meaning
(log 13). -/
opaque freshLayout (n : Nat) : Fin 3

/-- The lane map field of a cage record made at use `n`, while its valid flag is clear: a permutation of 0 to 7, as every
value of the field is (R58; log 13). -/
opaque freshLaneMap (n : Nat) : Equiv.Perm (Fin 8)

/-- Whether a search or a checksum in progress reads an entry damaged at use `n` as it stands after the damage
(R34, R21): it may have read it before (log 12). -/
opaque damageSeen (n : Nat) : Bool

/-- The frame check sequence of a frame the device sends, over the bytes before it: its computation is not in the manual
(log 14). -/
opaque frameCheck (bytes : List (BitVec 8)) : BitVec 32

end Sys2Proof.Config
end

