-- ==== Sys2Proof/Machine/Types.lean ====
section
/-! DEFINITION. The names and records of the device's state, block by block, in the manual's own terms. A running timer is
held as the moment it expires, in units of `now` (log 3); `none` is stopped. -/

namespace Sys2Proof.Machine

/-- A moment of `now`, in units of 0.32 ns (log 3). -/
abbrev Moment := Nat

/-- A timer: stopped, or running until the moment it expires (log 3). -/
abbrev Timer := Option Moment

/-! ### Cages and modules (chapters 1 and 3) -/

/-- The cage states, in the order of section 1.1. -/
inductive CageMode where
  | absent | seating | waitEngage | waking | identifying | profiling | profileWait | powering | serving | tripped
  | forcedOff | failed
deriving DecidableEq, Repr

/-- The FAILED causes (R50). -/
inductive FailedCause where
  | none | layoutMismatch | powerUpFailed | identFailed
deriving DecidableEq, Repr

/-- The layouts (R75). -/
inductive Layout where
  | l1 | l2 | l4
deriving DecidableEq, Repr

/-- The peer modes (R101, R102). -/
inductive PeerMode where
  | off | learn | enforce
deriving DecidableEq, Repr

/-- For each fabric-side lane the module-side lane that carries it (section 2.5). -/
abbrev LaneMap := Bank 8 LaneId

/-- A parameter set: the fields of section 2.5, times in milliseconds. -/
structure ParameterSet where
  layout : Layout
  laneMap : LaneMap
  receiveInversion : BitVec 8
  transmitInversion : BitVec 8
  readyPage : Byte
  readyOffset : Byte
  readyMask : Byte
  readyValue : Byte
  powerUpLimit : Nat
  guardInterval : Nat
  flagPage : Byte
  flagOffset : Byte
  flagLength : Nat
  tripMask : Bank 4 Byte
  coldLimit : Nat
  warmLimit : Nat
  alignmentLimit : Nat
  maxSkew : Nat
  retries : Nat
  windowLength : Nat
  passRunNeeded : Nat
  failRunLimit : Nat
  allowance : Nat
  degradedAllowance : Nat
  degradedAdmission : Bool
  peerMode : PeerMode
  holdOff : Nat
  initialRate : Nat
  rampStep : Nat
  burstSize : Nat
  ageLimit : Nat
deriving DecidableEq, Repr

/-- What a cage monitor's module bus request is for (R7). -/
inductive Purpose where
  | identification | readyPoll | flagRead
deriving DecidableEq, Repr

/-- Who asked for a transaction: a cage monitor in one visit, or the management engine (section 1.3, R12). -/
inductive BusRequester where
  | monitor (purpose : Purpose) (visit : BitVec 16)
  | passThrough
deriving DecidableEq, Repr

/-- READ or WRITE (R8). -/
inductive BusKind where
  | read | write
deriving DecidableEq, Repr

/-- A waiting module bus request (R7, R8). -/
structure BusRequest where
  requester : BusRequester
  cage : CageId
  kind : BusKind
  page : Byte
  offset : Byte
  length : Nat
  data : List Byte
deriving DecidableEq, Repr

/-- The transaction in flight (R7 to R10). `selectLocation` is the page select location read at its start (R6);
`selecting` says that the attempt begins with a page select write; `discarded` that its outcome is already void (R12);
`wiped` that the cage's page record became unknown in the running attempt, after any page select write of it (R10); and
`forgotten` that a new page select location was taken while it ran, so that the record ends unknown (R6; log 11). -/
structure Transaction where
  request : BusRequest
  attempt : Nat
  selectLocation : Byte
  selecting : Bool
  discarded : Bool
  wiped : Bool
  forgotten : Bool
deriving DecidableEq, Repr

/-- The outcomes of a transaction (R8). -/
inductive BusOutcome where
  | done | nack | stretched | absent
deriving DecidableEq, Repr

/-- One module bus controller (R7); its cage request lists and page records are held with the cages. -/
structure Controller where
  inFlight : Option Transaction
  slot : Option BusRequest
  bypass : Nat
  lastServed : Fin 4
deriving DecidableEq, Repr

/-- One cage monitor (sections 1.1 and 3.1), with its input lines, its request list and its page record (R7).
The line fields are true when the line is asserted. -/
structure Cage where
  present : Bool
  alert : Bool
  mode : CageMode
  failedCause : FailedCause
  resetLine : Bool
  lowPower : Bool
  seatingTimer : Timer
  readyTimer : Timer
  identityKey : Option (BitVec 32)
  serialDigest : Option (BitVec 32)
  visit : BitVec 16
  readList : List (Byte × Byte)
  serialLocation : Byte × Byte
  identityBytes : List Byte
  workingCopy : Option (SetId × ParameterSet)
  guardOrigin : Moment
  guardTimer : Timer
  powerUpTimer : Timer
  pollTimer : Timer
  flagRequested : Bool
  readAgain : Bool
  fabricLayout : Layout
  alertEnable : Bool
  busRequests : List BusRequest
  lastPage : Option Byte
deriving DecidableEq, Repr

/-! ### Profile table and search unit (chapter 2) -/

/-- An entry of the profile table (R20). `intact` is the result of comparing its stored check bits with those recomputed
from the other fields (R21, log 10). -/
structure ProfileEntry where
  key : BitVec 32
  width : Nat
  cageSet : BitVec 16
  setIndex : SetId
  intact : Bool
deriving DecidableEq, Repr

/-- The table modes (section 2.2). -/
inductive TableMode where
  | active | edit
deriving DecidableEq, Repr

/-- The profile table (section 2.1). -/
structure ProfileTable where
  entries : List ProfileEntry
  mode : TableMode
  fault : Option (Nat × CageId)
deriving DecidableEq, Repr

/-- The search in flight (section 2.3); `view` is the entries as it reads them (log 12). -/
structure Search where
  cage : CageId
  visit : BitVec 16
  key : BitVec 32
  next : Nat
  view : List ProfileEntry
deriving DecidableEq, Repr

/-- The table search unit (section 2.3). -/
structure SearchUnit where
  inFlight : Option Search
  waiting : Bank 16 Bool
  lastServed : CageId
  editPending : Bool
deriving DecidableEq, Repr

/-! ### Recovery memory (chapter 4) -/

/-- Five equaliser settings, each an integer −32 to 31 in six bits, two's complement (R58). -/
abbrev LaneSettings := Bank 5 (BitVec 6)

/-- A cage record (R58). -/
structure CageRecord where
  key : BitVec 32
  digest : BitVec 32
  home : CageId
  valid : Bool
  layout : Layout
  laneMap : LaneMap
  seeds : Bank 8 LaneSettings
  skews : Bank 4 Nat
  seeded : Bank 4 Bool
deriving DecidableEq, Repr

/-- A peer identity (R71). -/
structure PeerIdentity where
  address : MacAddress
  cage : CageId
  slot : SlotId
deriving DecidableEq, Repr

/-- Recovery memory (section 4.1). -/
structure RecoveryMemory where
  positions : Bank 16 (Option CageRecord)
  held : Bank 16 Bool
  cache : List CageRecord
  peers : Bank 64 (Option PeerIdentity)
deriving DecidableEq, Repr

/-! ### Link engines (chapters 5 and 6) -/

/-- The recovery states, in the order of section 5.2. -/
inductive RecoveryState where
  | inactive | down | adapting | aligning | qualifying | peerHold | damped | up | failed
deriving DecidableEq, Repr

/-- The causes of an attempt failure (R85), and none. -/
inductive FailureCause where
  | none | adaptTimeout | alignTimeout | skew | skewShift | lockLost | qualFailed
deriving DecidableEq, Repr

/-- The module-side lane carrying one fabric-side lane, with its inversions (R80). -/
structure LaneConnection where
  lane : LaneId
  receiveInverted : Bool
  transmitInverted : Bool
deriving DecidableEq, Repr

/-- Seeds in use: the five settings of each module-side lane of the slot, and the remembered skew (R68). -/
structure SeedsInUse where
  settings : List (LaneId × LaneSettings)
  skew : Nat
deriving DecidableEq, Repr

/-- The verdicts (R93). -/
inductive Verdict where
  | pass | marginal | fail
deriving DecidableEq, Repr

/-- The verdict reasons (R93). -/
inductive VerdictReason where
  | none | noBlocks | uncorrectable | rate | marginalRefused
deriving DecidableEq, Repr

/-- The last window (R92). -/
structure Window where
  codewords : Nat
  corrected : Nat
  uncorrectable : Nat
  verdict : Verdict
  reason : VerdictReason
deriving DecidableEq, Repr

/-- The admission grades (R95). -/
inductive Grade where
  | none | full | degraded
deriving DecidableEq, Repr

/-- The heard peer (R100). -/
structure HeardPeer where
  identity : PeerIdentity
  epoch : BitVec 16
deriving DecidableEq, Repr

/-- One link engine (sections 5.2 and 6.1). `hadMarker`, `fecReached`, `skewAccepted` and `markerOffset` say what the
attempt has reached (R83, R84, R88; log 6); `equaliser` is the settings of each module-side lane of the slot (R81; log 5);
`probeTimer` spaces the probes (R99) and `probeSent` is the body of the last probe sent. -/
structure LinkEngine where
  recovery : RecoveryState
  laneMap : Option (List LaneConnection)
  warm : Bool
  seeds : Option SeedsInUse
  equaliser : List (LaneId × LaneSettings)
  converged : Bank 8 Bool
  retryCount : Nat
  epoch : BitVec 16
  adaptationTimer : Timer
  alignmentTimer : Timer
  markerLock : Bank 8 Bool
  hadMarker : Bank 8 Bool
  markerOffset : Bank 8 Nat
  skewAccepted : Bool
  fecLock : Bool
  fecReached : Bool
  lockLossTimer : Timer
  measuredSkew : Option Nat
  lastFailure : FailureCause
  windowTimer : Timer
  probeTimer : Timer
  codewords : Nat
  corrected : Nat
  uncorrectable : Nat
  lastWindow : Option Window
  passRun : Nat
  failRun : Nat
  cleanRun : Nat
  marginal : Bool
  grade : Grade
  degraded : Bool
  heardPeer : Option HeardPeer
deriving DecidableEq, Repr

/-! ### Hold unit, park store, meter (chapters 7, 8 and 9) -/

/-- The service states (section 7.1). -/
inductive ServiceState where
  | pass | replay | hold | shed | off
deriving DecidableEq, Repr

/-- The loss causes (R114), and none. -/
inductive LossCause where
  | none | removed | signal | errors | gate | restart
deriving DecidableEq, Repr

/-- The hold unit's state for one link (section 7.1). A paused class holds the expiry of its refresh timer. -/
structure HoldState where
  service : ServiceState
  holdTimer : Timer
  lastLoss : LossCause
  paused : Bank 4 Timer
deriving DecidableEq, Repr

/-- The discard reasons, in the order of their codes (R143, R168). -/
inductive DiscardReason where
  | classFull | linkFull | poolFull | stale | expired | shed | flushed | oversize | notAdmitted
deriving DecidableEq, Repr

/-- A parked-frame record (R134). -/
structure ParkedFrame where
  frame : List Byte
  length : Nat
  blocks : Nat
  priority : Fin 8
  cls : ClassId
  stamp : BitVec 32
deriving DecidableEq, Repr

/-- The park store's state for one link (section 8.2). -/
structure ParkState where
  fifos : Bank 4 (List ParkedFrame)
  critical : Bank 4 Bool
deriving DecidableEq, Repr

/-- The meter modes (R146). -/
inductive MeterMode where
  | stopped | metered | unmetered
deriving DecidableEq, Repr

/-- One re-admission meter (section 9.1). `lastTick` is the whole microsecond its tokens were last counted at (log 4). -/
structure Meter where
  mode : MeterMode
  burst : Nat
  tokens : Nat
  rate : Nat
  rateCeiling : Nat
  degraded : Bool
  rampTimer : Timer
  lastTick : Nat
deriving DecidableEq, Repr

/-- The counters of one link (section 10.6). -/
structure Counters where
  parked : Nat
  replayed : Nat
  losses : Nat
  discards : Bank 9 Nat
deriving DecidableEq, Repr

/-- A discard record (R143, R167). -/
structure DiscardRecord where
  reason : DiscardReason
  link : LinkId
  cls : Option ClassId
  length : Nat
  stamp : BitVec 32
deriving DecidableEq, Repr

/-! ### Frames the device sends (chapters 7 and 10) -/

/-- The kinds of a management header (R168). -/
inductive FrameKind where
  | request | reply | notice | snapshot | probe
deriving DecidableEq, Repr

/-- A management frame the device sends (R161, R168, R173, R179, R99). -/
structure ManagementFrame where
  destination : MacAddress
  source : MacAddress
  typeValue : BitVec 16
  kind : FrameKind
  tag : BitVec 16
  code : Byte
  outcome : Byte
  body : List Byte
deriving DecidableEq, Repr

/-- A pause frame: the priorities named (bit n for priority n) and the pause time in quanta (R124). -/
structure PauseFrame where
  priorities : BitVec 8
  quanta : Nat
deriving DecidableEq, Repr

/-- A frame on a link's fabric-side egress (R113). -/
inductive FabricFrame where
  | pause (frame : PauseFrame)
  | reply (frame : ManagementFrame)
  | forwarded (frame : List Byte)
deriving DecidableEq, Repr

/-- A link's fabric-side egress: the frame being sent and those waiting (R113, log 8). `urgent` holds what leaves before
link-fault signalling shows: pause frames, and the reply to DEVICE-RESTART (R122, R165). -/
structure FabricEgress where
  sending : Option FabricFrame
  urgent : List FabricFrame
  replies : List ManagementFrame
  forwards : List (List Byte)
deriving DecidableEq, Repr

/-- A link's module-side egress: the frame in transit (R149) and the frames waiting for it (log 9). -/
structure ModuleEgress where
  transit : Option (List Byte)
  waiting : List (List Byte)
deriving DecidableEq, Repr

/-- Everything held for one link id, block by block. -/
structure Link where
  engine : LinkEngine
  penalty : Nat
  suppressed : Bool
  hold : HoldState
  park : ParkState
  meter : Meter
  counters : Counters
  discardMark : Bool
  fabricSide : FabricEgress
  moduleSide : ModuleEgress
  probeSent : Option ManagementFrame
deriving DecidableEq, Repr

/-! ### Events, notices, snapshots (chapters 11 and 12) -/

/-- The event kinds, in the order of their codes 1 to 23 (R169). -/
inductive EventKind where
  | removed | inserted | identFailed | noProfile | tableFault | layoutMismatch | powerUpFailed | gateTripped
  | warmFallback | linkLost | holdExpired | linkFailed | qualFailed | peerChanged | peerSilent | suppressed | reused
  | linkUp | degraded | classCritical | poolLow | discard | snapshotDone
deriving DecidableEq, Repr

/-- An event: its kind, its source and its detail (R170). -/
structure Event where
  kind : EventKind
  source : Nat
  detail : Nat
deriving DecidableEq, Repr

/-- What the blocks raise while a step runs: an event; a discard, from which DISCARD may be raised (R171); the end of a
window, which only a running series sees (R176). -/
inductive Signal where
  | event (e : Event)
  | discard (link : LinkId)
  | windowEnd (link : LinkId)
deriving DecidableEq, Repr

/-- An entry of the pending set (R170). -/
structure PendingEntry where
  kind : EventKind
  source : Nat
  detail : Nat
  count : Nat
deriving DecidableEq, Repr

/-- The notice unit (section 11.1); the notice gap is with the settings and the DISCARD marks with the links. -/
structure NoticeUnit where
  levels : Bank 23 Nat
  entries : List PendingEntry
  gapTimer : Timer
deriving DecidableEq, Repr

/-- The link part of a snapshot record (R177). -/
structure LinkCapture where
  recovery : RecoveryState
  service : ServiceState
  warm : Bool
  penalty : Nat
  suppressed : Bool
  window : Option Window
  passRun : Nat
  failRun : Nat
  retryCount : Nat
  occupancy : Bank 4 Nat
  tokens : Nat
  rate : Nat
  holdRemaining : Option Nat
  heardPeer : Option HeardPeer
deriving DecidableEq, Repr

/-- A captured snapshot record (R177). `link` is absent for a source that is not a link. -/
structure SnapshotRecord where
  channel : ChannelId
  trigger : EventKind
  source : Nat
  index : Nat
  link : Option LinkCapture
deriving DecidableEq, Repr

/-- The trigger of a channel: an event kind, and a source or ANY (section 12.1). -/
structure Trigger where
  kind : EventKind
  source : Option Nat
deriving DecidableEq, Repr

/-- The modes of a channel (section 12.1). -/
inductive ChannelMode where
  | single | series
deriving DecidableEq, Repr

/-- One snapshot channel (section 12.1). -/
structure Channel where
  armed : Bool
  trigger : Option Trigger
  mode : ChannelMode
  remaining : Nat
  seriesLink : Option LinkId
  sequence : Nat
  slot : Option SnapshotRecord
  superseded : Nat
deriving DecidableEq, Repr

/-- The service port's outbound side: the frame being sent and the replies waiting (R161, R172; log 8). -/
structure ServicePort where
  sending : Option ManagementFrame
  replies : List ManagementFrame
deriving DecidableEq, Repr

/-! ### Management engine and configuration (chapter 10) -/

/-- The request in execution, and whether it holds the engine until an operation ends (R161). -/
structure Execution where
  request : Request
  holding : Bool
deriving DecidableEq, Repr

/-- The management engine (section 10.2). `commitView` is the table as a checksum in progress sums it (R34, log 12). -/
structure ManagementEngine where
  queue : List Request
  executing : Option Execution
  commitView : Option (List ProfileEntry)
deriving DecidableEq, Repr

/-- The outcomes of a request (R168). -/
inductive RequestOutcome where
  | done | adjusted | busy | badRequest | badArgument | wrongState | order | full | tooLate | notPresent | busFault
  | checksumMismatch
deriving DecidableEq, Repr

/-- The device configuration of section 10.4, but for the fabric layouts and alert enables, held with the cages, and the
notice levels, held with the notice unit. -/
structure Settings where
  seatingTime : Nat
  managementReadyTime : Nat
  identityReadList : List (Byte × Byte)
  serialLocation : Byte × Byte
  pageSelectLocation : Byte
  lockLossConfirmTime : Nat
  lossIncrement : Nat
  removalIncrement : Nat
  ceiling : Nat
  suppressThreshold : Nat
  reuseThreshold : Nat
  decayFactor : Nat
  decayTick : Nat
  pausable : Bank 4 Bool
  pauseTime : Nat
  pauseOnHold : Bool
  dscpMapEnable : Bool
  dscpMap : Bank 64 (Fin 8)
  defaultPriority : Fin 8
  classMap : Bank 8 ClassId
  classLimit : Nat
  criticalLevel : Nat
  resumeLevel : Nat
  linkLimit : Nat
  poolLowMark : Nat
  managementAddress : MacAddress
  managementType : BitVec 16
  noticeGap : Nat
deriving DecidableEq, Repr

end Sys2Proof.Machine
end

