-- ==== Sys2Proof/Decode.lean ====
section
/-! DEFINITION. Decoding. The opcode table gives no row any bits, so no word spells a command; what the device does decode
is the body of a management request (R159, R163, R168), and the other direction lays a request out. -/

namespace Sys2Proof

open Machine

/-- The command that a word spells by the table's bits: none, since no row has any. -/
def decodeTableWord (_nbits _w : Nat) : Option Instr := none

/-- A body of at least `n` bytes, as its outline asks; a shorter one is answered BAD-REQUEST (R159). -/
def withOutline (n : Nat) (body : List Byte) (i : Instr) : Except RequestOutcome Instr :=
  if body.length < n then .error .badRequest else .ok i

/-- A SET-CONFIG body: the item code, the index, then the value in the width section 10.4 gives. An unknown item code is
refused with BAD-ARGUMENT once the item code and the index are there (R163). -/
def decodeSetConfig (q : Requester) (b : List Byte) : Except RequestOutcome Instr :=
  let index := byteAt b 1
  let byte := byteAt b 2
  let word := field16 b 2
  match (byteAt b 0).toNat with
  | 0x01 => withOutline 4 b (.seatingTime q word)
  | 0x02 => withOutline 4 b (.managementReadyTime q word)
  | 0x03 => withOutline 10 b (.identityReadList q (slice b 2 8))
  | 0x04 => withOutline 4 b (.serialLocation q byte (byteAt b 3))
  | 0x05 => withOutline 3 b (.pageSelectLocation q byte)
  | 0x06 => withOutline 3 b (.fabricLayout q index byte)
  | 0x07 => withOutline 3 b (.alertEnable q index byte)
  | 0x08 => withOutline 4 b (.lockLossConfirmTime q word)
  | 0x10 => withOutline 4 b (.lossIncrement q word)
  | 0x11 => withOutline 4 b (.removalIncrement q word)
  | 0x12 => withOutline 4 b (.ceiling q word)
  | 0x13 => withOutline 4 b (.suppressThreshold q word)
  | 0x14 => withOutline 4 b (.reuseThreshold q word)
  | 0x15 => withOutline 4 b (.decayFactor q word)
  | 0x16 => withOutline 4 b (.decayTick q word)
  | 0x18 => withOutline 3 b (.pausable q index byte)
  | 0x19 => withOutline 4 b (.pauseTime q word)
  | 0x1A => withOutline 3 b (.pauseOnHold q byte)
  | 0x20 => withOutline 3 b (.dscpMapEnable q byte)
  | 0x21 => withOutline 66 b (.dscpMap q (slice b 2 64))
  | 0x22 => withOutline 3 b (.defaultPriority q byte)
  | 0x23 => withOutline 10 b (.classMap q (slice b 2 8))
  | 0x28 => withOutline 4 b (.classLimit q word)
  | 0x29 => withOutline 4 b (.criticalLevel q word)
  | 0x2A => withOutline 4 b (.resumeLevel q word)
  | 0x2B => withOutline 4 b (.linkLimit q word)
  | 0x2C => withOutline 4 b (.poolLowMark q word)
  | 0x30 => withOutline 8 b (.managementAddress q (field48 b 2))
  | 0x31 => withOutline 4 b (.managementTypeValue q word)
  | 0x38 => withOutline 3 b (.noticeLevel q index byte)
  | 0x39 => withOutline 3 b (.noticeGap q byte)
  | _ => .error .badArgument

/-- A request's code and body (R168). An unknown code, scope, FORGET target or READ-MEMORY part is answered BAD-REQUEST
(R159, R162, R72, R73). -/
def decodeBody (q : Requester) (code : Byte) (b : List Byte) : Except RequestOutcome Instr :=
  match code.toNat with
  | 0x01 => do
    let _ ← withOutline 2 b (.readStateDevice q)
    match (byteAt b 0).toNat with
    | 0 => .ok (.readStateDevice q)
    | 1 => .ok (.readStateCage q (byteAt b 1))
    | 2 => .ok (.readStateLink q (byteAt b 1))
    | _ => .error .badRequest
  | 0x02 => withOutline 1 b (.readCounters q (byteAt b 0))
  | 0x03 => .ok (.readDiscards q)
  | 0x10 => if b.length < 2 then .error .badRequest else decodeSetConfig q b
  | 0x11 => .ok (.engage q)
  | 0x12 => .ok (.disengage q)
  | 0x13 => .ok (.deviceRestart q)
  | 0x14 => withOutline 1 b (.cageRestart q (byteAt b 0))
  | 0x20 => .ok (.tableEdit q)
  | 0x21 => withOutline 8 b (.tableAppend q (field32 b 0) (field32 b 4))
  | 0x22 => withOutline 9 b (.tableReplace q (byteAt b 0) (field32 b 1) (field32 b 5))
  | 0x23 => withOutline 2 b (.tableTruncate q (field16 b 0))
  | 0x24 => withOutline 4 b (.tableCommit q (field32 b 0))
  | 0x25 => withOutline 3 b (.tableRead q (field16 b 0) (byteAt b 2))
  | 0x28 => withOutline 57 b (.setWrite q (byteAt b 0) (slice b 1 56))
  | 0x29 => withOutline 1 b (.setRead q (byteAt b 0))
  | 0x30 => withOutline 4 b (.moduleRead q (byteAt b 0) (byteAt b 1) (byteAt b 2) (byteAt b 3))
  | 0x31 => withOutline 12 b
      (.moduleWrite q (byteAt b 0) (byteAt b 1) (byteAt b 2) (byteAt b 3) (slice b 4 8))
  | 0x38 => withOutline 1 b (.forceGateOff q (byteAt b 0))
  | 0x39 => withOutline 1 b (.reArmGate q (byteAt b 0))
  | 0x40 => withOutline 3 b (.extendHold q (byteAt b 0) (field16 b 1))
  | 0x41 => withOutline 1 b (.forceAdmit q (byteAt b 0))
  | 0x42 => withOutline 1 b (.acceptPeer q (byteAt b 0))
  | 0x43 => withOutline 1 b (.linkRetry q (byteAt b 0))
  | 0x44 => withOutline 1 b (.clearPenalty q (byteAt b 0))
  | 0x45 => withOutline 1 b (.flushPark q (byteAt b 0))
  | 0x50 => do
    let _ ← withOutline 5 b (.forgetAll q)
    match (byteAt b 0).toNat with
    | 0 => .ok (.forgetCage q (field32 b 1))
    | 1 => .ok (.forgetDigest q (field32 b 1))
    | 2 => .ok (.forgetPeer q (field32 b 1))
    | 3 => .ok (.forgetAll q)
    | _ => .error .badRequest
  | 0x51 => do
    let _ ← withOutline 1 b (.readMemoryCache q)
    match (byteAt b 0).toNat with
    | 0 => .ok (.readMemoryCageRecords q)
    | 1 => .ok (.readMemoryCache q)
    | 2 => .ok (.readMemoryPeerRecords q)
    | _ => .error .badRequest
  | 0x60 => withOutline 5 b (.snapArm q (byteAt b 0) (byteAt b 1) (byteAt b 2) (byteAt b 3) (byteAt b 4))
  | 0x61 => withOutline 2 b (.snapStart q (byteAt b 0) (byteAt b 1))
  | 0x62 => withOutline 1 b (.snapDisarm q (byteAt b 0))
  | _ => .error .badRequest

/-- What a request's reply is addressed by. -/
def requesterOf (r : Request) : Requester := ⟨r.port, r.source, r.tag⟩

/-- The command a request asks for, or the outcome that refuses it: the header check of R159, then the body. -/
def decodeRequest (r : Request) : Except RequestOutcome Instr :=
  if r.version ≠ 1 then .error .badRequest
  else if r.body.length < r.bodyLength then .error .badRequest
  else decodeBody (requesterOf r) r.code (r.body.take r.bodyLength)

/-- A SET-CONFIG body: item code, index and value (R168). -/
def configBody (item index : Byte) (value : List Byte) : Byte × List Byte := (0x10, item :: index :: value)

/-- The requester, code and body of a request command, as R168 lays them out; none for an event. -/
def requestParts : Instr → Option (Requester × Byte × List Byte)
  | .readStateDevice q => some (q, 0x01, [0, 0])
  | .readStateCage q cage => some (q, 0x01, [1, cage])
  | .readStateLink q link => some (q, 0x01, [2, link])
  | .readCounters q link => some (q, 0x02, [link])
  | .readDiscards q => some (q, 0x03, [])
  | .seatingTime q v => some (q, configBody 0x01 0 (bytes16 v))
  | .managementReadyTime q v => some (q, configBody 0x02 0 (bytes16 v))
  | .identityReadList q v => some (q, configBody 0x03 0 v)
  | .serialLocation q page offset => some (q, configBody 0x04 0 [page, offset])
  | .pageSelectLocation q v => some (q, configBody 0x05 0 [v])
  | .fabricLayout q cage v => some (q, configBody 0x06 cage [v])
  | .alertEnable q cage v => some (q, configBody 0x07 cage [v])
  | .lockLossConfirmTime q v => some (q, configBody 0x08 0 (bytes16 v))
  | .lossIncrement q v => some (q, configBody 0x10 0 (bytes16 v))
  | .removalIncrement q v => some (q, configBody 0x11 0 (bytes16 v))
  | .ceiling q v => some (q, configBody 0x12 0 (bytes16 v))
  | .suppressThreshold q v => some (q, configBody 0x13 0 (bytes16 v))
  | .reuseThreshold q v => some (q, configBody 0x14 0 (bytes16 v))
  | .decayFactor q v => some (q, configBody 0x15 0 (bytes16 v))
  | .decayTick q v => some (q, configBody 0x16 0 (bytes16 v))
  | .pausable q cls v => some (q, configBody 0x18 cls [v])
  | .pauseTime q v => some (q, configBody 0x19 0 (bytes16 v))
  | .pauseOnHold q v => some (q, configBody 0x1A 0 [v])
  | .dscpMapEnable q v => some (q, configBody 0x20 0 [v])
  | .dscpMap q v => some (q, configBody 0x21 0 v)
  | .defaultPriority q v => some (q, configBody 0x22 0 [v])
  | .classMap q v => some (q, configBody 0x23 0 v)
  | .classLimit q v => some (q, configBody 0x28 0 (bytes16 v))
  | .criticalLevel q v => some (q, configBody 0x29 0 (bytes16 v))
  | .resumeLevel q v => some (q, configBody 0x2A 0 (bytes16 v))
  | .linkLimit q v => some (q, configBody 0x2B 0 (bytes16 v))
  | .poolLowMark q v => some (q, configBody 0x2C 0 (bytes16 v))
  | .managementAddress q v => some (q, configBody 0x30 0 (bytes48 v))
  | .managementTypeValue q v => some (q, configBody 0x31 0 (bytes16 v))
  | .noticeLevel q kind v => some (q, configBody 0x38 kind [v])
  | .noticeGap q v => some (q, configBody 0x39 0 [v])
  | .engage q => some (q, 0x11, [])
  | .disengage q => some (q, 0x12, [])
  | .deviceRestart q => some (q, 0x13, [])
  | .cageRestart q cage => some (q, 0x14, [cage])
  | .tableEdit q => some (q, 0x20, [])
  | .tableAppend q key attr => some (q, 0x21, bytes32 key ++ bytes32 attr)
  | .tableReplace q index key attr => some (q, 0x22, index :: (bytes32 key ++ bytes32 attr))
  | .tableTruncate q count => some (q, 0x23, bytes16 count)
  | .tableCommit q checksum => some (q, 0x24, bytes32 checksum)
  | .tableRead q start number => some (q, 0x25, bytes16 start ++ [number])
  | .setWrite q set contents => some (q, 0x28, set :: contents)
  | .setRead q set => some (q, 0x29, [set])
  | .moduleRead q cage page offset length => some (q, 0x30, [cage, page, offset, length])
  | .moduleWrite q cage page offset length data => some (q, 0x31, [cage, page, offset, length] ++ data)
  | .forceGateOff q cage => some (q, 0x38, [cage])
  | .reArmGate q cage => some (q, 0x39, [cage])
  | .extendHold q link extension => some (q, 0x40, link :: bytes16 extension)
  | .forceAdmit q link => some (q, 0x41, [link])
  | .acceptPeer q link => some (q, 0x42, [link])
  | .linkRetry q link => some (q, 0x43, [link])
  | .clearPenalty q link => some (q, 0x44, [link])
  | .flushPark q link => some (q, 0x45, [link])
  | .forgetCage q number => some (q, 0x50, 0 :: bytes32 number)
  | .forgetDigest q digest => some (q, 0x50, 1 :: bytes32 digest)
  | .forgetPeer q number => some (q, 0x50, 2 :: bytes32 number)
  | .forgetAll q => some (q, 0x50, [3, 0, 0, 0, 0])
  | .readMemoryCageRecords q => some (q, 0x51, [0])
  | .readMemoryCache q => some (q, 0x51, [1])
  | .readMemoryPeerRecords q => some (q, 0x51, [2])
  | .snapArm q channel kind source count mode => some (q, 0x60, [channel, kind, source, count, mode])
  | .snapStart q channel source => some (q, 0x61, [channel, source])
  | .snapDisarm q channel => some (q, 0x62, [channel])
  | .powerOnReset .. | .presentAssertion .. | .presentDeassertionInSeating .. | .removal .. | .alertAssertion ..
  | .seatingTimerExpiry .. | .readyTimerExpiry .. | .moduleBusAttemptFailure .. | .busStretchTimeout ..
  | .moduleBusTransactionEnd .. | .searchEnd | .guardTimerExpiry .. | .pollTimerExpiry .. | .powerUpTimerExpiry ..
  | .laneConverged .. | .adaptationTimerExpiry .. | .markerLock .. | .fecLock .. | .alignmentTimerExpiry ..
  | .lossOfLock .. | .lockLossTimerExpiry .. | .windowTimerExpiry .. | .probeIntervalExpiry .. | .decayTickExpiry
  | .holdTimerExpiry .. | .pauseRefreshExpiry .. | .frameFromSwitch .. | .frameFromModule .. | .fabricEgressFree ..
  | .tokenTick .. | .moduleEgressTransitEnd .. | .rampTimerExpiry .. | .servicePortFrame .. | .commitChecksumDone
  | .gapTimerExpiry | .servicePortFree | .entryDamage .. | .codewordDecoded .. | .alertDeassertion .. => none

/-- A request command as the request that asks for it: version 1, its code, its body (R168). -/
def encodeRequest (i : Instr) : Option Request :=
  (requestParts i).map fun (q, code, body) =>
    { port := q.port, source := q.source, version := 1, tag := q.tag, code := code, bodyLength := body.length,
      body := body }

end Sys2Proof
end

