-- ==== Sys2Proof/Machine/ResetValues.lean ====
section
/-! DEFINITION. The power-on reset value of each block's state, as its chapter gives it. -/

namespace Sys2Proof.Machine

/-- The map that carries fabric-side lane n on module-side lane n (section 2.5). -/
def identityLaneMap : LaneMap := Bank.tabulate id

/-- The factory values of a parameter set (section 2.5, R36). -/
def factorySet : ParameterSet where
  layout := .l1
  laneMap := identityLaneMap
  receiveInversion := 0
  transmitInversion := 0
  readyPage := 0
  readyOffset := 2
  readyMask := 0
  readyValue := 0
  powerUpLimit := 2000
  guardInterval := 20
  flagPage := 0
  flagOffset := 9
  flagLength := 0
  tripMask := Bank.fill 4 0
  coldLimit := 1500
  warmLimit := 200
  alignmentLimit := 100
  maxSkew := 32
  retries := 3
  windowLength := 100
  passRunNeeded := 3
  failRunLimit := 2
  allowance := 300
  degradedAllowance := 1000
  degradedAdmission := true
  peerMode := .learn
  holdOff := 200
  initialRate := 3125
  rampStep := 10
  burstSize := 65536
  ageLimit := 500

/-- The management address at reset: 02-F0-A0-00-00-nn, nn the POSITION straps (section 10.4). -/
def resetAddress (straps : BitVec 4) : MacAddress := 0x02F0A0000000#48 ||| straps.zeroExtend 48

/-- The class map at reset (section 8.1). -/
def resetClassMap : Bank 8 ClassId := ⟨[0, 0, 1, 1, 2, 2, 3, 3], rfl⟩

/-- The device configuration at power-on reset (section 10.4). -/
def resetSettings (straps : BitVec 4) : Settings where
  seatingTime := 300
  managementReadyTime := 250
  identityReadList := [(0, 0), (0, 1), (0, 2), (0, 3)]
  serialLocation := (0, 196)
  pageSelectLocation := 127
  lockLossConfirmTime := 100
  lossIncrement := 1000
  removalIncrement := 0
  ceiling := 12000
  suppressThreshold := 3000
  reuseThreshold := 750
  decayFactor := 57344
  decayTick := 1000
  pausable := Bank.fill 4 false
  pauseTime := 65535
  pauseOnHold := false
  dscpMapEnable := false
  dscpMap := Bank.fill 64 0
  defaultPriority := 0
  classMap := resetClassMap
  classLimit := 256
  criticalLevel := 192
  resumeLevel := 64
  linkLimit := 512
  poolLowMark := 512
  managementAddress := resetAddress straps
  managementType := 0xA17E
  noticeGap := 10

/-- A cage monitor at a reset taken at `now`, with its input lines as the reset finds them (R1, sections 1.1 and 3.1).
`seatingTime` is the seating time in force. -/
def resetCage (now : Moment) (seatingTime : Nat) (present alert : Bool) : Cage where
  present := present
  alert := alert
  mode := if present then .seating else .absent
  failedCause := .none
  resetLine := true
  lowPower := true
  seatingTimer := if present then some (now + seatingTime * millisecond) else none
  readyTimer := none
  identityKey := none
  serialDigest := none
  visit := 0
  readList := []
  serialLocation := (0, 0)
  identityBytes := []
  workingCopy := none
  guardOrigin := now
  guardTimer := none
  powerUpTimer := none
  pollTimer := none
  flagRequested := false
  readAgain := false
  fabricLayout := .l1
  alertEnable := false
  busRequests := []
  lastPage := none

/-- A module bus controller at reset: the last cage served is its highest (R7). -/
def resetController : Controller where
  inFlight := none
  slot := none
  bypass := 0
  lastServed := 3

/-- The profile table at power-on reset (R22). -/
def resetTable : ProfileTable where
  entries := []
  mode := .active
  fault := none

/-- The search unit at reset (section 2.3). -/
def resetSearch : SearchUnit where
  inFlight := none
  waiting := Bank.fill 16 false
  lastServed := 15
  editPending := false

/-- Recovery memory at power-on reset (R59). -/
def resetMemory : RecoveryMemory where
  positions := Bank.fill 16 none
  held := Bank.fill 16 false
  cache := []
  peers := Bank.fill 64 none

/-- A link engine at reset in the given recovery state (sections 5.2 and 6.1). -/
def resetEngine (recovery : RecoveryState) : LinkEngine where
  recovery := recovery
  laneMap := none
  warm := false
  seeds := none
  equaliser := []
  converged := Bank.fill 8 false
  retryCount := 0
  epoch := 0
  adaptationTimer := none
  alignmentTimer := none
  markerLock := Bank.fill 8 false
  hadMarker := Bank.fill 8 false
  markerOffset := Bank.fill 8 0
  skewAccepted := false
  fecLock := false
  fecReached := false
  lockLossTimer := none
  measuredSkew := none
  lastFailure := .none
  windowTimer := none
  probeTimer := none
  codewords := 0
  corrected := 0
  uncorrectable := 0
  lastWindow := none
  passRun := 0
  failRun := 0
  cleanRun := 0
  marginal := false
  grade := .none
  degraded := false
  heardPeer := none

/-- The hold unit's state of a link at reset (R122). -/
def resetHold : HoldState where
  service := .off
  holdTimer := none
  lastLoss := .none
  paused := Bank.fill 4 none

/-- The park store's state of a link at reset (R142). -/
def resetPark : ParkState where
  fifos := Bank.fill 4 []
  critical := Bank.fill 4 false

/-- A STOPPED meter (R146). -/
def stoppedMeter : Meter where
  mode := .stopped
  burst := 0
  tokens := 0
  rate := 0
  rateCeiling := 0
  degraded := false
  rampTimer := none
  lastTick := 0

/-- Counters at 0 (section 10.6). -/
def zeroCounters : Counters where
  parked := 0
  replayed := 0
  losses := 0
  discards := Bank.fill 9 0

/-- An idle fabric-side egress. -/
def idleFabric : FabricEgress where
  sending := none
  urgent := []
  replies := []
  forwards := []

/-- An idle module-side egress. -/
def idleModuleSide : ModuleEgress where
  transit := none
  waiting := []

/-- A link at power-on reset: DOWN for slot 0, INACTIVE for slots 1 to 3 (section 5.2). -/
def resetLink (j : LinkId) : Link where
  engine := resetEngine (if j.val % 4 = 0 then .down else .inactive)
  penalty := 0
  suppressed := false
  hold := resetHold
  park := resetPark
  meter := stoppedMeter
  counters := zeroCounters
  discardMark := false
  fabricSide := idleFabric
  moduleSide := idleModuleSide
  probeSent := none

/-- The blocks of the pool (R133). -/
def poolSize : Nat := 8192

/-- The reset levels of the event kinds 1 to 23 (R169). -/
def resetLevels : Bank 23 Nat :=
  ⟨[4, 3, 5, 4, 6, 5, 5, 6, 2, 5, 5, 6, 3, 5, 4, 4, 3, 3, 3, 2, 5, 1, 2], rfl⟩

/-- The notice unit at power-on reset (R174). -/
def resetNotices : NoticeUnit where
  levels := resetLevels
  entries := []
  gapTimer := none

/-- A snapshot channel at reset (section 12.1). -/
def resetChannel : Channel where
  armed := false
  trigger := none
  mode := .single
  remaining := 0
  seriesLink := none
  sequence := 0
  slot := none
  superseded := 0

/-- The service port with nothing to send. -/
def idleService : ServicePort where
  sending := none
  replies := []

/-- The management engine at reset (section 10.2). -/
def resetManagement : ManagementEngine where
  queue := []
  executing := none
  commitView := none

end Sys2Proof.Machine
end

