-- ==== Sys2Proof/Machine/State.lean ====
section
/-! DEFINITION. The state of the device, its reset, and the reasons a step could stop (there is none but a command without
a meaning). -/

namespace Sys2Proof.Machine

/-- The whole device, block by block (section 0.3), with the queue of waiting commands. -/
structure State where
  /-- The commands waiting, first in first out. -/
  pending : List Instr
  /-- The device's time, in units of 0.32 ns since power-on reset (log 3). -/
  now : Moment
  /-- The counter that the free values of Config are applied to (log 2). -/
  freeCount : Nat
  /-- What the running step has raised and not yet offered; empty between steps (log 7). -/
  raised : List Signal
  settings : Settings
  cages : Bank 16 Cage
  controllers : Bank 4 Controller
  table : ProfileTable
  sets : Bank 32 ParameterSet
  search : SearchUnit
  memory : RecoveryMemory
  links : Bank 64 Link
  /-- The damping unit's tick timer, which always runs (section 6.7). -/
  tickTimer : Moment
  engaged : Bool
  poolFree : Nat
  poolLow : Bool
  management : ManagementEngine
  slotA : Option DiscardRecord
  slotB : Option DiscardRecord
  notices : NoticeUnit
  channels : Bank 4 Channel
  service : ServicePort
deriving DecidableEq, Repr

/-- The faults of a step: none. The manual's failures are states, outcomes and events (INVENTORY.md, Faults), so no
command stops the device. -/
inductive Fault where
deriving DecidableEq, Repr

/-- The refusals of a step. -/
inductive Refusal where
  /-- A command without a meaning in this model: raised by no arm of exec (safe). -/
  | notModelled (mnemonic : String)
deriving DecidableEq, Repr

/-- The device right after power-on reset, found with the given input levels and straps (R1 and the reset column of every
state table). -/
def State.atReset (present alert : BitVec 16) (straps : BitVec 4) : State where
  pending := []
  now := 0
  freeCount := 0
  raised := []
  settings := resetSettings straps
  cages := Bank.tabulate fun c => resetCage 0 (resetSettings straps).seatingTime (present.getLsbD c) (alert.getLsbD c)
  controllers := Bank.fill 4 resetController
  table := resetTable
  sets := Bank.fill 32 factorySet
  search := resetSearch
  memory := resetMemory
  links := Bank.tabulate resetLink
  tickTimer := (resetSettings straps).decayTick * millisecond
  engaged := false
  poolFree := poolSize
  poolLow := false
  management := resetManagement
  slotA := none
  slotB := none
  notices := resetNotices
  channels := Bank.fill 4 resetChannel
  service := idleService

/-- The device right after power-on reset, with no module present, no alert and straps at 0 (log 1). -/
def State.reset : State := State.atReset 0 0 0

end Sys2Proof.Machine
end

