-- ==== Sys2Proof/Machine/Operands.lean ====
section
/-! DEFINITION. What operands and frames stand for: link ids and layouts (R75), codes (R168), frames (R129, R130, R158),
ranges and clamps (0.7). Pure functions of their arguments. -/

namespace Sys2Proof.Machine

/-! ### Link ids, cages, layouts (R75) -/

/-- The cage of a link id. -/
def cageOf (j : LinkId) : CageId := ⟨j.val / 4, by omega⟩

/-- The slot of a link id. -/
def slotOf (j : LinkId) : SlotId := ⟨j.val % 4, by omega⟩

/-- The link id of a slot of a cage: cage × 4 + slot. -/
def linkOf (c : CageId) (k : SlotId) : LinkId := ⟨c.val * 4 + k.val, by omega⟩

/-- The four link ids of a cage, by slot. -/
def linksOf (c : CageId) : List LinkId := [linkOf c 0, linkOf c 1, linkOf c 2, linkOf c 3]

/-- Every link id, ascending. -/
def allLinks : List LinkId := List.finRange 64

/-- Every cage, ascending. -/
def allCages : List CageId := List.finRange 16

/-- The module bus controller of a cage (section 1.3). -/
def controllerOf (c : CageId) : ControllerId := ⟨c.val / 4, by omega⟩

/-- A cage's place among its controller's four. -/
def placeOf (c : CageId) : Fin 4 := ⟨c.val % 4, by omega⟩

/-- The cage at a place of a controller. -/
def cageAt (k : ControllerId) (p : Fin 4) : CageId := ⟨k.val * 4 + p.val, by omega⟩

/-- The number of links of a layout. -/
def Layout.slots : Layout → Nat
  | .l1 => 1
  | .l2 => 2
  | .l4 => 4

/-- The number of lanes per link. -/
def Layout.lanesPerLink : Layout → Nat
  | .l1 => 8
  | .l2 => 4
  | .l4 => 2

/-- Whether a layout uses a slot. -/
def Layout.uses (l : Layout) (k : SlotId) : Bool := k.val < l.slots

/-- The fabric-side lanes of a slot, ascending; none for an unused slot. -/
def Layout.fabricLanes (l : Layout) (k : SlotId) : List LaneId :=
  (List.finRange 8).filter fun n => n.val / l.lanesPerLink = k.val

/-- A link's line rate in bytes per microsecond: lanes × 6,250 (0.6, R75). -/
def Layout.lineRate (l : Layout) : Nat := l.lanesPerLink * 6250

/-- One quantum, 512 bit times at the line rate, in units of `now`: 4, 8 or 16 (R125, log 3). -/
def Layout.quantum : Layout → Nat
  | .l1 => 4
  | .l2 => 8
  | .l4 => 16

/-! ### Codes (R168) -/

/-- The layout of a code: 1, 2 or 4. -/
def layoutOfCode (n : Nat) : Option Layout :=
  if n = 1 then some .l1 else if n = 2 then some .l2 else if n = 4 then some .l4 else none

/-- The code of a layout. -/
def Layout.code (l : Layout) : Nat := l.slots

/-- The peer mode of a code. -/
def peerModeOfCode (n : Nat) : Option PeerMode :=
  if n = 0 then some .off else if n = 1 then some .learn else if n = 2 then some .enforce else none

/-- The code of a peer mode. -/
def PeerMode.code : PeerMode → Nat
  | .off => 0
  | .learn => 1
  | .enforce => 2

/-- The code of a request outcome. -/
def RequestOutcome.code : RequestOutcome → Nat
  | .done => 0
  | .adjusted => 1
  | .busy => 2
  | .badRequest => 3
  | .badArgument => 4
  | .wrongState => 5
  | .order => 6
  | .full => 7
  | .tooLate => 8
  | .notPresent => 9
  | .busFault => 10
  | .checksumMismatch => 11

/-- The code of a cage state: its place in section 1.1. -/
def CageMode.code : CageMode → Nat
  | .absent => 0
  | .seating => 1
  | .waitEngage => 2
  | .waking => 3
  | .identifying => 4
  | .profiling => 5
  | .profileWait => 6
  | .powering => 7
  | .serving => 8
  | .tripped => 9
  | .forcedOff => 10
  | .failed => 11

/-- The code of a FAILED cause. -/
def FailedCause.code : FailedCause → Nat
  | .none => 0
  | .layoutMismatch => 1
  | .powerUpFailed => 2
  | .identFailed => 3

/-- The code of a recovery state: its place in section 5.2. -/
def RecoveryState.code : RecoveryState → Nat
  | .inactive => 0
  | .down => 1
  | .adapting => 2
  | .aligning => 3
  | .qualifying => 4
  | .peerHold => 5
  | .damped => 6
  | .up => 7
  | .failed => 8

/-- The code of a service state. -/
def ServiceState.code : ServiceState → Nat
  | .pass => 0
  | .replay => 1
  | .hold => 2
  | .shed => 3
  | .off => 4

/-- The code of a loss cause. -/
def LossCause.code : LossCause → Nat
  | .none => 0
  | .removed => 1
  | .signal => 2
  | .errors => 3
  | .gate => 4
  | .restart => 5

/-- The code of a discard reason, 1 to 9. -/
def DiscardReason.code : DiscardReason → Nat
  | .classFull => 1
  | .linkFull => 2
  | .poolFull => 3
  | .stale => 4
  | .expired => 5
  | .shed => 6
  | .flushed => 7
  | .oversize => 8
  | .notAdmitted => 9

/-- A discard reason's place among the nine counters, in the order of the codes (R168). -/
def DiscardReason.place (r : DiscardReason) : Fin 9 := ⟨r.code - 1, by cases r <;> decide⟩

/-- The code of a verdict. -/
def Verdict.code : Verdict → Nat
  | .pass => 1
  | .marginal => 2
  | .fail => 3

/-- The code of a verdict reason. -/
def VerdictReason.code : VerdictReason → Nat
  | .none => 0
  | .noBlocks => 1
  | .uncorrectable => 2
  | .rate => 3
  | .marginalRefused => 4

/-- The code of a table mode. -/
def TableMode.code : TableMode → Nat
  | .active => 0
  | .edit => 1

/-- The code of a last failure cause. -/
def FailureCause.code : FailureCause → Nat
  | .none => 0
  | .adaptTimeout => 1
  | .alignTimeout => 2
  | .skew => 3
  | .skewShift => 4
  | .lockLost => 5
  | .qualFailed => 6

/-- The code of an admission grade. -/
def Grade.code : Grade → Nat
  | .none => 0
  | .full => 1
  | .degraded => 2

/-- The code of a meter mode. -/
def MeterMode.code : MeterMode → Nat
  | .stopped => 0
  | .metered => 1
  | .unmetered => 2

/-- The code of a frame kind. -/
def FrameKind.code : FrameKind → Nat
  | .request => 1
  | .reply => 2
  | .notice => 3
  | .snapshot => 4
  | .probe => 5

/-- The code of an event kind, 1 to 23 (R169). -/
def EventKind.code : EventKind → Nat
  | .removed => 1
  | .inserted => 2
  | .identFailed => 3
  | .noProfile => 4
  | .tableFault => 5
  | .layoutMismatch => 6
  | .powerUpFailed => 7
  | .gateTripped => 8
  | .warmFallback => 9
  | .linkLost => 10
  | .holdExpired => 11
  | .linkFailed => 12
  | .qualFailed => 13
  | .peerChanged => 14
  | .peerSilent => 15
  | .suppressed => 16
  | .reused => 17
  | .linkUp => 18
  | .degraded => 19
  | .classCritical => 20
  | .poolLow => 21
  | .discard => 22
  | .snapshotDone => 23

/-- Every event kind, in the order of the codes. -/
def allEventKinds : List EventKind :=
  [.removed, .inserted, .identFailed, .noProfile, .tableFault, .layoutMismatch, .powerUpFailed, .gateTripped,
   .warmFallback, .linkLost, .holdExpired, .linkFailed, .qualFailed, .peerChanged, .peerSilent, .suppressed, .reused,
   .linkUp, .degraded, .classCritical, .poolLow, .discard, .snapshotDone]

/-- The event kind of a code 1 to 23. -/
def eventKindOfCode (n : Nat) : Option EventKind := allEventKinds.find? fun k => k.code = n

/-- An event kind's place among the 23 levels. -/
def EventKind.place (k : EventKind) : Fin 23 := ⟨k.code - 1, by cases k <;> decide⟩

/-- What an event kind's source is (R169). -/
inductive SourceRange where
  | cage | link | device | channel
deriving DecidableEq, Repr

/-- The source of each event kind (R169). -/
def EventKind.sourceRange : EventKind → SourceRange
  | .removed | .inserted | .identFailed | .noProfile | .tableFault | .layoutMismatch | .powerUpFailed | .gateTripped => .cage
  | .warmFallback | .linkLost | .holdExpired | .linkFailed | .qualFailed | .peerChanged | .peerSilent | .suppressed
  | .reused | .linkUp | .degraded | .classCritical | .discard => .link
  | .poolLow => .device
  | .snapshotDone => .channel

/-- The number of sources of a range (R169, R175). -/
def SourceRange.size : SourceRange → Nat
  | .cage => 16
  | .link => 64
  | .device => 1
  | .channel => 4

/-! ### Ranges (0.7) -/

/-- A number brought to the nearest end of its range, "clamped". -/
def clamp (low high n : Nat) : Nat := max low (min high n)

/-- Whether the range holds the number as it stands. -/
def inRange (low high n : Nat) : Bool := low ≤ n && n ≤ high

/-- A saturating 32-bit count one higher by `k` (0.7, R92, R166). -/
def saturate (n : Nat) : Nat := min 4294967295 n

/-! ### Frames (R129, R130, R158) -/

/-- The longest and the shortest frame the ports carry (0.9). -/
def longestFrame : Nat := 9216
def shortestFrame : Nat := 64

/-- The destination address of a frame. -/
def destinationOf (frame : List Byte) : MacAddress := field48 frame 0

/-- The source address of a frame. -/
def sourceOf (frame : List Byte) : MacAddress := field48 frame 6

/-- Whether a frame carries a priority tag: 8100h after the source address (R130). -/
def isTagged (frame : List Byte) : Bool := field16 frame 12 == 0x8100

/-- Where a frame's type value stands (R130). -/
def typeOffset (frame : List Byte) : Nat := if isTagged frame then 16 else 12

/-- The type value of a frame (R130). -/
def typeOf (frame : List Byte) : BitVec 16 := field16 frame (typeOffset frame)

/-- The management header's offset, after the type value (R168). -/
def headerOffset (frame : List Byte) : Nat := typeOffset frame + 2

/-- The kind byte of the management header (R168). -/
def kindOf (frame : List Byte) : Nat := (byteAt frame (headerOffset frame + 1)).toNat

/-- The request a frame carries, with its arrival port: the header's fields and the bytes between the header and the frame
check sequence (R159, R168). -/
def requestIn (port : Port) (frame : List Byte) : Request :=
  let h := headerOffset frame
  { port := port
    source := sourceOf frame
    version := byteAt frame h
    tag := field16 frame (h + 2)
    code := byteAt frame (h + 4)
    bodyLength := (field16 frame (h + 6)).toNat
    body := slice frame (h + 8) (frame.length - 4 - (h + 8)) }

/-- The DSCP of an untagged IP frame; none for any other frame (R130). -/
def dscpOf (frame : List Byte) : Option (Fin 64) :=
  if isTagged frame then none
  else if typeOf frame = 0x0800 then some (indexOf 64 ((byteAt frame 15).toNat / 4))
  else if typeOf frame = 0x86DD then
    some (indexOf 64 (((byteAt frame 14).toNat % 16 * 16 + (byteAt frame 15).toNat / 16) / 4))
  else none

/-- The priority of a data frame (R130). -/
def priorityOf (g : Settings) (frame : List Byte) : Fin 8 :=
  if isTagged frame then indexOf 8 ((byteAt frame 14).toNat / 32)
  else
    match dscpOf frame with
    | some d => if g.dscpMapEnable then g.dscpMap.get d else g.defaultPriority
    | none => g.defaultPriority

/-- The blocks a frame of `n` bytes takes: ceil(n / 256) (R133). -/
def blocksOf (n : Nat) : Nat := (n + 255) / 256

/-- The priorities that the class map sends to a class, bit n for priority n (R124, R131). -/
def prioritiesOf (g : Settings) (k : ClassId) : BitVec 8 :=
  bitsByte 8 fun n => g.classMap.get (indexOf 8 n) = k

/-! ### Outputs that follow from the state (R82, R113) -/

/-- What a link sends toward the module (R82). -/
inductive ModuleSignal where
  | nothing | idleWithMarkers | idleWithProbes | frames
deriving DecidableEq, Repr

/-- What a link sends on its module-side lanes in each recovery state (R82). -/
def RecoveryState.sends : RecoveryState → ModuleSignal
  | .inactive | .down => .nothing
  | .adapting | .aligning | .failed | .peerHold | .damped => .idleWithMarkers
  | .qualifying => .idleWithProbes
  | .up => .frames

/-- What the switch sees of a link (R113). -/
inductive SwitchView where
  | linkUp | linkUpIdle | linkFault
deriving DecidableEq, Repr

/-- What the switch sees in each service state (R113). -/
def ServiceState.seen : ServiceState → SwitchView
  | .pass | .replay => .linkUp
  | .hold => .linkUpIdle
  | .shed | .off => .linkFault

/-- Whether a link's fabric-side lanes are up toward the switch (R113, R158, R161). -/
def ServiceState.lanesUp : ServiceState → Bool
  | .pass | .replay | .hold => true
  | .shed | .off => false

/-- Whether the decoder's windows run and frames are received (R92, R100). -/
def RecoveryState.runsWindows : RecoveryState → Bool
  | .qualifying | .peerHold | .damped | .up => true
  | .inactive | .down | .adapting | .aligning | .failed => false

/-- Whether lock is watched (R88). -/
def RecoveryState.watchesLock : RecoveryState → Bool
  | .aligning | .qualifying | .peerHold | .damped | .up => true
  | .inactive | .down | .adapting | .failed => false

/-! ### Entries and records (R20, R168) -/

/-- The wildcard width in an attribute word: bits 25–21. -/
def widthOf (attr : BitVec 32) : Nat := (attr.extractLsb' 21 5).toNat

/-- The set index in an attribute word: bits 20–16. -/
def setIndexOf (attr : BitVec 32) : SetId := (attr.extractLsb' 16 5).toFin

/-- The cage set in an attribute word: bits 15–0. -/
def cageSetOf (attr : BitVec 32) : BitVec 16 := attr.extractLsb' 0 16

/-- The entry of a key word and an attribute word (R168); its check passes when `intact`. -/
def entryOf (key attr : BitVec 32) (intact : Bool) : ProfileEntry :=
  { key := key, width := widthOf attr, cageSet := cageSetOf attr, setIndex := setIndexOf attr, intact := intact }

/-- The attribute word of an entry, its check bits taken as 0 (R35, R168). -/
def ProfileEntry.attr (e : ProfileEntry) : BitVec 32 :=
  BitVec.ofNat 32 (e.width * 2 ^ 21 + e.setIndex.val * 2 ^ 16 + e.cageSet.toNat)

/-- The fields an entry must have: w is 0–16 and the low w bits of the key are 0 (R20, R30, R31); a set index in five bits
is always 0–31. -/
def ProfileEntry.fieldsGood (e : ProfileEntry) : Bool := e.width ≤ 16 && e.key.toNat % 2 ^ e.width == 0

end Sys2Proof.Machine
end

