-- ==== Sys2Proof/Machine/Flags.lean ====
section
/-! DEFINITION. The computations of status values: the serial digest, the checksum, a search's result, the skew judgement,
the verdict and the penalty's decay. Pure functions of their arguments. -/

namespace Sys2Proof.Machine

/-! ### Identity (R16, R17) -/

/-- The identity key: the byte of the first item is the most significant (R16). -/
def identityKeyOf (bytes : List Byte) : BitVec 32 := field32 bytes 0

/-- One byte of the serial digest: rotate left by 5, then exclusive-or into the low eight bits (R17). -/
def digestStep (d : BitVec 32) (b : Byte) : BitVec 32 := d.rotateLeft 5 ^^^ b.zeroExtend 32

/-- The serial digest of the serial bytes, from 0, in the order of their offsets (R17). -/
def serialDigestOf (bytes : List Byte) : BitVec 32 := bytes.foldl digestStep 0

/-! ### Table search (R26, R28) and checksum (R35) -/

/-- The results of a search (R27), with the index of a damaged entry. -/
inductive SearchResult where
  | found (set : SetId)
  | noCandidate
  | damaged (index : Nat)
deriving DecidableEq, Repr

/-- Whether an entry covers a key: k ≤ K ≤ k + 2^w − 1 (R26). -/
def ProfileEntry.covers (e : ProfileEntry) (key : BitVec 32) : Bool :=
  e.key.toNat ≤ key.toNat && key.toNat ≤ e.key.toNat + 2 ^ e.width - 1

/-- The search of the entries from index `at_` on, for one cage and its identity key (R26). -/
def searchFrom (cage : CageId) (key : BitVec 32) : Nat → List ProfileEntry → SearchResult
  | _, [] => .noCandidate
  | i, e :: rest =>
    if !e.intact then .damaged i
    else if key.toNat < e.key.toNat then .noCandidate
    else if e.covers key && e.cageSet.getLsbD cage then .found e.setIndex
    else searchFrom cage key (i + 1) rest

/-- The sum of all key words and attribute words (R35). -/
def wordSum (entries : List ProfileEntry) : Nat :=
  (entries.map fun e => e.key.toNat + e.attr.toNat).sum

/-- While the sum exceeds FFFFFFFFh, its part above the low 32 bits plus its low 32 bits; `fuel` bounds the rounds (R35). -/
def foldSum : Nat → Nat → Nat
  | 0, n => n
  | fuel + 1, n => if n ≤ 0xFFFFFFFF then n else foldSum fuel (n / 2 ^ 32 + n % 2 ^ 32)

/-- The checksum of the table (R35). -/
def tableChecksum (entries : List ProfileEntry) : BitVec 32 :=
  ~~~ BitVec.ofNat 32 (foldSum (entries.length + 2) (wordSum entries))

/-! ### Skew (R83) -/

/-- The largest offset minus the smallest, recorded as at most 1,023 (R83). -/
def skewOf (offsets : List Nat) : Nat :=
  min 1023 (offsets.foldl max 0 - offsets.foldl min (offsets.headD 0))

/-- The judgement of a measured skew: a failure cause, or none where the search for FEC lock begins (R83). -/
def judgeSkew (maxSkew : Nat) (warm : Bool) (remembered measured : Nat) : Option FailureCause :=
  if maxSkew < measured then some .skew
  else if warm && (remembered + 4 < measured || measured + 4 < remembered) then some .skewShift
  else none

/-! ### Verdicts (R93) and runs (R94) -/

/-- The verdict of a window and its reason, by the first condition that holds (R93). -/
def verdictOf (p : ParameterSet) (c e x : Nat) : Verdict × VerdictReason :=
  if c = 0 then (.fail, .noBlocks)
  else if 0 < x then (.fail, .uncorrectable)
  else if p.degradedAllowance * c < e * 1000000 then (.fail, .rate)
  else if p.allowance * c < e * 1000000 then
    if p.degradedAdmission then (.marginal, .none) else (.fail, .marginalRefused)
  else (.pass, .none)

/-- A run one longer, saturating at 255 (section 6.1). -/
def longerRun (n : Nat) : Nat := min 255 (n + 1)

/-- The runs and the marginal mark after a verdict (R94). -/
def LinkEngine.countVerdict (l : LinkEngine) : Verdict → LinkEngine
  | .pass => { l with passRun := longerRun l.passRun, failRun := 0, cleanRun := longerRun l.cleanRun }
  | .marginal => { l with passRun := longerRun l.passRun, marginal := true, failRun := 0, cleanRun := 0 }
  | .fail => { l with passRun := 0, marginal := false, failRun := min 15 (l.failRun + 1), cleanRun := 0 }

/-! ### Damping (R107, R108) -/

/-- A penalty after one tick: floor(P × D / 65,536) (R108). -/
def decayed (factor penalty : Nat) : Nat := penalty * factor / 65536

/-- A penalty after an increment, limited to the ceiling (R107). -/
def raisedPenalty (ceiling penalty increment : Nat) : Nat := min ceiling (penalty + increment)

/-! ### Meter (R147, R152) -/

/-- The rate ceiling: the line rate, or half of it for a degraded link (R147). -/
def rateCeilingOf (line : Nat) (degraded : Bool) : Nat := if degraded then line / 2 else line

/-- The first rate of a replay (R147). -/
def firstRateOf (line initial : Nat) (degraded : Bool) : Nat :=
  if degraded then max 1 (min initial line / 2) else min initial line

/-- The age of a frame: the microsecond count less its stamp, modulo 2^32 (R150). -/
def ageOf (now stamp : BitVec 32) : Nat := (now - stamp).toNat

end Sys2Proof.Machine
end

