-- ==== Sys2Proof/Machine/Ops.lean ====
section
/-! DEFINITION. The named operations every block uses: reading and updating one cage, one link or one controller; time;
raising events; the egresses; and the management engine's replies and queue. -/

namespace Sys2Proof.Machine

/-- What a step answers. -/
abbrev Result := Host.Outcome State Fault Refusal

/-! ### One cage, one link, one controller, one channel -/

/-- The cage monitor of cage `c`. -/
def State.cage (s : State) (c : CageId) : Cage := s.cages.get c

/-- Changes cage `c`. -/
def State.updCage (c : CageId) (f : Cage → Cage) (s : State) : State :=
  { s with cages := s.cages.set c (f (s.cages.get c)) }

/-- Everything held for link `j`. -/
def State.link (s : State) (j : LinkId) : Link := s.links.get j

/-- Changes what is held for link `j`. -/
def State.updLink (j : LinkId) (f : Link → Link) (s : State) : State :=
  { s with links := s.links.set j (f (s.links.get j)) }

/-- Changes the link engine of link `j`. -/
def State.updEngine (j : LinkId) (f : LinkEngine → LinkEngine) (s : State) : State :=
  s.updLink j fun l => { l with engine := f l.engine }

/-- Changes the hold unit's state of link `j`. -/
def State.updHold (j : LinkId) (f : HoldState → HoldState) (s : State) : State :=
  s.updLink j fun l => { l with hold := f l.hold }

/-- Changes the meter of link `j`. -/
def State.updMeter (j : LinkId) (f : Meter → Meter) (s : State) : State :=
  s.updLink j fun l => { l with meter := f l.meter }

/-- Changes the counters of link `j`. -/
def State.updCounters (j : LinkId) (f : Counters → Counters) (s : State) : State :=
  s.updLink j fun l => { l with counters := f l.counters }

/-- Module bus controller `k`. -/
def State.controller (s : State) (k : ControllerId) : Controller := s.controllers.get k

/-- Changes controller `k`. -/
def State.updController (k : ControllerId) (f : Controller → Controller) (s : State) : State :=
  { s with controllers := s.controllers.set k (f (s.controllers.get k)) }

/-- Snapshot channel `h`. -/
def State.channel (s : State) (h : ChannelId) : Channel := s.channels.get h

/-- Changes channel `h`. -/
def State.updChannel (h : ChannelId) (f : Channel → Channel) (s : State) : State :=
  { s with channels := s.channels.set h (f (s.channels.get h)) }

/-- Changes the device configuration. -/
def State.updSettings (f : Settings → Settings) (s : State) : State := { s with settings := f s.settings }

/-- Changes the search unit. -/
def State.updSearch (f : SearchUnit → SearchUnit) (s : State) : State := { s with search := f s.search }

/-- Changes recovery memory. -/
def State.updMemory (f : RecoveryMemory → RecoveryMemory) (s : State) : State := { s with memory := f s.memory }

/-- Changes the management engine. -/
def State.updManagement (f : ManagementEngine → ManagementEngine) (s : State) : State :=
  { s with management := f s.management }

/-- Changes the notice unit. -/
def State.updNotices (f : NoticeUnit → NoticeUnit) (s : State) : State := { s with notices := f s.notices }

/-- One change for each thing of a list, in its order. -/
def State.forEach {α : Type} (f : α → State → State) : List α → State → State
  | [], s => s
  | x :: rest, s => State.forEach f rest (f x s)

/-- The working copy's parameter set of a cage; a cage without one has the factory values in its place, which no rule
reads: every rule that reads a working copy runs in a cage that has one. -/
def State.workingSet (s : State) (c : CageId) : ParameterSet := ((s.cage c).workingCopy.map (·.2)).getD factorySet

/-- The working copy of a link's cage. -/
def State.linkSet (s : State) (j : LinkId) : ParameterSet := s.workingSet (cageOf j)

/-- The fabric layout of a link's cage. -/
def State.linkLayout (s : State) (j : LinkId) : Layout := (s.cage (cageOf j)).fabricLayout

/-- The line rate of a link, by its cage's fabric layout (R75). -/
def State.lineRate (s : State) (j : LinkId) : Nat := (s.linkLayout j).lineRate

/-- Whether a link's slot is active, by its cage's fabric layout (R75). -/
def State.isActive (s : State) (j : LinkId) : Bool := (s.linkLayout j).uses (slotOf j)

/-- The active links of a cage, by slot. -/
def State.activeLinks (s : State) (c : CageId) : List LinkId := (linksOf c).filter s.isActive

/-- The fabric-side lanes of a link's slot (R75). -/
def State.fabricLanes (s : State) (j : LinkId) : List LaneId := (s.linkLayout j).fabricLanes (slotOf j)

/-- The module-side lanes of a link's slot, in fabric-side lane order: those the working copy's lane map assigns (R75). -/
def State.moduleLanes (s : State) (j : LinkId) : List LaneId := (s.fabricLanes j).map (s.linkSet j).laneMap.get

/-- The blocks held by the frames of a FIFO (R134). -/
def blocksIn (fifo : List ParkedFrame) : Nat := (fifo.map ParkedFrame.blocks).sum

/-- The occupancy of a class on a link (R134). -/
def State.occupancy (s : State) (j : LinkId) (k : ClassId) : Nat := blocksIn ((s.link j).park.fifos.get k)

/-- The occupancy of a link: the sum over its four classes (R134). -/
def ParkState.occupancy (p : ParkState) : Nat := ((List.finRange 4).map fun k => blocksIn (p.fifos.get k)).sum

/-- Whether the store holds no frame of a link in any class. -/
def ParkState.isEmpty (p : ParkState) : Bool := (List.finRange 4).all fun k => (p.fifos.get k).isEmpty

/-! ### Time (0.7, log 3) -/

/-- The whole microseconds of `now`. -/
def State.microseconds (s : State) : Nat := s.now / microsecond

/-- The free-running 32-bit microsecond count (0.7). -/
def State.stamp (s : State) : BitVec 32 := BitVec.ofNat 32 s.microseconds

/-- The moment `n` milliseconds from now. -/
def State.inMs (s : State) (n : Nat) : Moment := s.now + n * millisecond

/-- Time has reached the moment `m`, at which a timer expires. -/
def State.reach (m : Moment) (s : State) : State := { s with now := max s.now m }

/-- The whole milliseconds a timer has left, a part of one counting as one. -/
def State.remainingMs (s : State) (t : Timer) : Option Nat :=
  t.map fun m => (m - s.now + (millisecond - 1)) / millisecond

/-- An expiry: where the timer runs, time reaches its moment and `f` follows; a stopped timer does not expire and the event
acts on nothing (log 17). -/
def State.onExpiry (t : Timer) (f : State → State) (s : State) : State :=
  match t with
  | none => s
  | some m => f (s.reach m)

/-! ### Raising events (R170, log 7) -/

/-- Raises a signal: it is offered when the step's change is made. -/
def State.signal (x : Signal) (s : State) : State := { s with raised := s.raised ++ [x] }

/-- Raises an event. -/
def State.raise (kind : EventKind) (source : Nat) (detail : Nat := 0) (s : State) : State :=
  s.signal (.event ⟨kind, source, detail⟩)

/-! ### Fabric-side egress (R113) -/

/-- A management frame as it is sent: every frame sent carries the address and the type value in force as its sending begins
(R164). -/
def ManagementFrame.sentUnder (g : Settings) (m : ManagementFrame) : ManagementFrame :=
  { m with source := g.managementAddress, typeValue := g.managementType }

/-- A pause frame as it is sent: one that pauses carries the pause time in force as its sending begins (R123), and a release
its 0. The priorities are those that mapped to the class when the frame became ready: a change of the class map takes effect
at the next refresh (R125; log 8). -/
def PauseFrame.sentUnder (g : Settings) (p : PauseFrame) : PauseFrame :=
  { p with quanta := if p.quanta = 0 then 0 else g.pauseTime }

/-- A frame of the fabric-side egress as it is sent (R123, R164). -/
def FabricFrame.sentUnder (g : Settings) : FabricFrame → FabricFrame
  | .reply m => .reply (m.sentUnder g)
  | .pause p => .pause (p.sentUnder g)
  | .forwarded bytes => .forwarded bytes

/-- The egress begins its next frame, when it is free: an urgent frame, then a reply, then a forwarded frame. While
link-fault signalling shows, replies and forwarded frames are dropped without a count (R113, R161; log 8). -/
def FabricEgress.begin (g : Settings) (lanesUp : Bool) (e : FabricEgress) : FabricEgress :=
  match e.sending, e.urgent, lanesUp, e.replies, e.forwards with
  | some _, _, _, _, _ => e
  | none, f :: rest, _, _, _ => { e with sending := some (f.sentUnder g), urgent := rest }
  | none, [], false, _, _ => { e with replies := [], forwards := [] }
  | none, [], true, m :: rest, _ => { e with sending := some (.reply (m.sentUnder g)), replies := rest }
  | none, [], true, [], f :: rest => { e with sending := some (.forwarded f), forwards := rest }
  | none, [], true, [], [] => e

/-- A frame joins link `j`'s fabric-side egress by `f`, and the egress begins it if it is free. -/
def State.toFabric (j : LinkId) (f : FabricEgress → FabricEgress) (s : State) : State :=
  s.updLink j fun l => { l with fabricSide := (f l.fabricSide).begin s.settings l.hold.service.lanesUp }

/-- A pause frame for the switch (R124). -/
def State.sendPause (j : LinkId) (p : PauseFrame) : State → State :=
  State.toFabric j fun e => { e with urgent := e.urgent ++ [.pause p] }

/-- A frame from the module, forwarded to the switch (R144). -/
def State.forwardFrame (j : LinkId) (frame : List Byte) : State → State :=
  State.toFabric j fun e => { e with forwards := e.forwards ++ [frame] }

/-! ### Module-side egress (R149, log 9) -/

/-- The egress begins the first waiting frame, when no frame is in transit. -/
def ModuleEgress.begin (e : ModuleEgress) : ModuleEgress :=
  match e.transit, e.waiting with
  | none, f :: rest => { transit := some f, waiting := rest }
  | _, _ => e

/-- Whether the egress has no frame in transit and none waiting. -/
def ModuleEgress.isFree (e : ModuleEgress) : Bool := e.transit.isNone && e.waiting.isEmpty

/-- A frame passes straight to the module-side egress (R132). -/
def State.passFrame (j : LinkId) (frame : List Byte) (s : State) : State :=
  s.updLink j fun l =>
    { l with moduleSide := { l.moduleSide with waiting := l.moduleSide.waiting ++ [frame] }.begin }

/-! ### Management frames and replies (R161, R168) -/

/-- The broadcast address (R99, R173, R179). -/
def broadcast : MacAddress := 0xFFFFFFFFFFFF#48

/-- A management frame from the address and with the type value in force (R161, R164). -/
def State.frameTo (s : State) (destination : MacAddress) (kind : FrameKind) (tag : BitVec 16) (code : Byte)
    (outcome : Nat) (body : List Byte) : ManagementFrame :=
  { destination := destination, source := s.settings.managementAddress, typeValue := s.settings.managementType,
    kind := kind, tag := tag, code := code, outcome := byteOf outcome, body := body }

/-- The bytes of a management frame on the wire: addresses, type value, header, body, padding to 64 bytes, and the frame
check sequence (R168). -/
def ManagementFrame.bytes (m : ManagementFrame) : List Byte :=
  let front := bytes48 m.destination ++ bytes48 m.source ++ bytes16 m.typeValue
    ++ [1, byteOf m.kind.code] ++ bytes16 m.tag ++ [m.code, m.outcome] ++ bytesOf 2 m.body.length ++ m.body
  let padded := front ++ List.replicate (60 - front.length) 0
  padded ++ bytes32 (Config.frameCheck padded)

/-- The field list that begins a reply's body: a count, then each field's offset in the request body (R168). -/
def fieldList (fields : List Nat) : List Byte := byteOf fields.length :: fields.flatMap (bytesOf 2)

/-- The reply to a request: its destination, tag and code are the request's (R161); its body is the field list and the
reply data (R168). -/
def State.replyFrame (s : State) (r : Request) (outcome : RequestOutcome) (fields : List Nat) (data : List Byte) :
    ManagementFrame :=
  s.frameTo r.source .reply r.tag r.code outcome.code (fieldList fields ++ data)

/-- A reply is sent on the request's arrival port (R161): on the service port as soon as it is free, on a fabric link in
its egress's order. -/
def State.sendReply (r : Request) (outcome : RequestOutcome) (fields : List Nat) (data : List Byte) (s : State) : State :=
  let m := s.replyFrame r outcome fields data
  match r.port with
  | .service => { s with service := { s.service with replies := s.service.replies ++ [m] } }
  | .fabric j => s.toFabric j fun e => { e with replies := e.replies ++ [m] }

/-! ### The request queue (R159, R160, R161) -/

/-- The engine takes requests from the queue's head: one that fails its header check is answered at once and the next is
taken; one that passes is in execution (R159, R161). -/
def State.takeFrom : List Request → State → State
  | [], s => s.updManagement fun m => { m with queue := [] }
  | r :: rest, s =>
    match decodeRequest r with
    | .ok _ => s.updManagement fun m => { m with queue := rest, executing := some ⟨r, false⟩ }
    | .error o => State.takeFrom rest (s.sendReply r o [] [])

/-- When no request is in execution the engine takes the next (R161). -/
def State.takeNext (s : State) : State :=
  if s.management.executing.isSome then s else State.takeFrom s.management.queue s

/-- The most requests that wait (R160). -/
def queueLimit : Nat := 8

/-- A request reaches the engine: it joins the tail of the queue, or is answered BUSY when 8 wait (R160); an engine with
nothing in execution takes the head (R161). -/
def State.arrive (r : Request) (s : State) : State :=
  if queueLimit ≤ s.management.queue.length then s.sendReply r .busy [] []
  else (s.updManagement fun m => { m with queue := m.queue ++ [r] }).takeNext

/-- The request in execution is answered, and the engine takes the next (R161). A request answers after the change it makes
(DESIGN CHOICE, log 28), but for DEVICE_RESTART (R165). -/
def State.respond (outcome : RequestOutcome) (fields : List Nat := []) (data : List Byte := []) (s : State) : State :=
  match s.management.executing with
  | none => s
  | some e =>
    ((s.sendReply e.request outcome fields data).updManagement fun m => { m with executing := none }).takeNext

/-- The request in execution holds the engine until its operation ends (R161). -/
def State.holdEngine (s : State) : State :=
  s.updManagement fun m => { m with executing := m.executing.map fun e => { e with holding := true } }

/-- Whether the request in execution is the one command `i` stands for and waits to be executed. -/
def State.isExecuting (i : Instr) (s : State) : Bool :=
  match s.management.executing with
  | none => false
  | some e =>
    !e.holding &&
      match decodeRequest e.request with
      | .ok c => decide (c = i)
      | .error _ => false

/-- A request command reaches the engine: if the engine has taken this very request already, it is the execution of that;
otherwise the request arrives (R160; log 16). -/
def State.receive (i : Instr) (s : State) : State :=
  if s.isExecuting i then s
  else
    match encodeRequest i with
    | none => s
    | some r => s.arrive r

/-- The outcome of a value that was taken: ADJUSTED where it was clamped, naming the field at `field`; otherwise DONE
(0.7, R168). -/
def State.respondTaken (clamped : Bool) (field : Nat) (s : State) : State :=
  if clamped then s.respond .adjusted [field] else s.respond .done

/-- The next free value's count is taken (log 2). -/
def State.spend (s : State) : State := { s with freeCount := s.freeCount + 1 }

end Sys2Proof.Machine
end

