-- ==== Sys2Proof/Machine/Layouts.lean ====
section
/-! DEFINITION. The record and frame layouts of section 10.7 (R168): records from bytes and to bytes, and the bodies of the
replies, notices, snapshots and probes. -/

namespace Sys2Proof.Machine

/-! ### Parameter set record, 56 bytes -/

/-- A parameter set record as its bytes spell it, its coded fields still codes. -/
structure RawSet where
  layout : Nat
  laneMap : List Nat
  peerMode : Nat
  rest : ParameterSet
deriving DecidableEq, Repr

/-- The fields a record's bytes spell (R168, Parameter set record); the coded fields are kept beside `rest`, in which they
have their factory values. -/
def rawSetOf (b : List Byte) : RawSet where
  layout := (byteAt b 0).toNat
  laneMap := (slice b 4 8).map BitVec.toNat
  peerMode := (byteAt b 1).toNat
  rest :=
    { factorySet with
      degradedAdmission := (byteAt b 2).getLsbD 0
      flagLength := (byteAt b 3).toNat
      receiveInversion := byteAt b 12
      transmitInversion := byteAt b 13
      readyPage := byteAt b 14
      readyOffset := byteAt b 15
      readyMask := byteAt b 16
      readyValue := byteAt b 17
      flagPage := byteAt b 18
      flagOffset := byteAt b 19
      tripMask := Bank.tabulate fun n => byteAt b (20 + n.val)
      powerUpLimit := numberOf (slice b 24 2)
      guardInterval := numberOf (slice b 26 2)
      coldLimit := numberOf (slice b 28 2)
      warmLimit := numberOf (slice b 30 2)
      alignmentLimit := numberOf (slice b 32 2)
      maxSkew := (byteAt b 34).toNat
      retries := (byteAt b 35).toNat
      windowLength := numberOf (slice b 36 2)
      passRunNeeded := (byteAt b 38).toNat
      failRunLimit := (byteAt b 39).toNat
      allowance := numberOf (slice b 40 2)
      degradedAllowance := numberOf (slice b 42 2)
      holdOff := numberOf (slice b 44 2)
      initialRate := numberOf (slice b 46 2)
      rampStep := numberOf (slice b 48 2)
      burstSize := numberOf (slice b 50 4)
      ageLimit := numberOf (slice b 54 2) }

/-- The clamped fields of a parameter set, with their offsets in the record, in record order (section 2.5). -/
def ParameterSet.clampedFields (p : ParameterSet) : List (Nat × Bool) :=
  [(3, inRange 0 4 p.flagLength), (24, inRange 10 10000 p.powerUpLimit), (26, inRange 1 1000 p.guardInterval),
   (28, inRange 10 10000 p.coldLimit), (30, inRange 10 10000 p.warmLimit), (32, inRange 1 1000 p.alignmentLimit),
   (34, inRange 0 63 p.maxSkew), (35, inRange 0 7 p.retries), (36, inRange 10 1000 p.windowLength),
   (38, inRange 1 15 p.passRunNeeded), (39, inRange 1 15 p.failRunLimit), (44, inRange 0 2000 p.holdOff),
   (46, inRange 1 50000 p.initialRate), (48, inRange 1 1000 p.rampStep), (50, inRange 2048 262144 p.burstSize),
   (54, inRange 1 2000 p.ageLimit)]

/-- The clamps of SET-WRITE (R37, section 2.5). -/
def ParameterSet.clamped (p : ParameterSet) : ParameterSet :=
  { p with
    flagLength := clamp 0 4 p.flagLength
    powerUpLimit := clamp 10 10000 p.powerUpLimit
    guardInterval := clamp 1 1000 p.guardInterval
    coldLimit := clamp 10 10000 p.coldLimit
    warmLimit := clamp 10 10000 p.warmLimit
    alignmentLimit := clamp 1 1000 p.alignmentLimit
    maxSkew := clamp 0 63 p.maxSkew
    retries := clamp 0 7 p.retries
    windowLength := clamp 10 1000 p.windowLength
    passRunNeeded := clamp 1 15 p.passRunNeeded
    failRunLimit := clamp 1 15 p.failRunLimit
    holdOff := clamp 0 2000 p.holdOff
    initialRate := clamp 1 50000 p.initialRate
    rampStep := clamp 1 1000 p.rampStep
    burstSize := clamp 2048 262144 p.burstSize
    ageLimit := clamp 1 2000 p.ageLimit }

/-- A lane map from eight numbers, if they hold each of 0 to 7 exactly once (R37). -/
def laneMapOf (ns : List Nat) : Option LaneMap :=
  if (List.range 8).all fun n => ns.count n = 1 then
    some (Bank.tabulate fun n => indexOf 8 (ns.getD n.val 0))
  else none

/-- The record offsets of the faults of a record as clamped, in the order in which R37 gives the checks: layout, lane map,
flag location, allowances, peer mode. A fault of two fields names the first of them, the flag page and the allowance; that,
and the order of the list, are the model's choices (DESIGN CHOICE, log 27). -/
def RawSet.faults (r : RawSet) : List Nat :=
  (if (layoutOfCode r.layout).isNone then [0] else [])
    ++ (if (laneMapOf r.laneMap).isNone then [4] else [])
    ++ (if 256 < r.rest.flagOffset.toNat + r.rest.clamped.flagLength then [18] else [])
    ++ (if r.rest.degradedAllowance < r.rest.allowance then [40] else [])
    ++ (if (peerModeOfCode r.peerMode).isNone then [1] else [])

/-- The parameter set of a record without faults: as clamped, with its coded fields. -/
def RawSet.toSet (r : RawSet) : ParameterSet :=
  { r.rest.clamped with
    layout := (layoutOfCode r.layout).getD .l1
    laneMap := (laneMapOf r.laneMap).getD identityLaneMap
    peerMode := (peerModeOfCode r.peerMode).getD .learn }

/-- The 56 bytes of a parameter set (R168). -/
def ParameterSet.bytes (p : ParameterSet) : List Byte :=
  [byteOf p.layout.code, byteOf p.peerMode.code, markByte p.degradedAdmission, byteOf p.flagLength]
    ++ p.laneMap.items.map (fun n => byteOf n.val)
    ++ [p.receiveInversion, p.transmitInversion, p.readyPage, p.readyOffset, p.readyMask, p.readyValue, p.flagPage,
        p.flagOffset]
    ++ p.tripMask.items
    ++ bytesOf 2 p.powerUpLimit ++ bytesOf 2 p.guardInterval ++ bytesOf 2 p.coldLimit ++ bytesOf 2 p.warmLimit
    ++ bytesOf 2 p.alignmentLimit ++ [byteOf p.maxSkew, byteOf p.retries] ++ bytesOf 2 p.windowLength
    ++ [byteOf p.passRunNeeded, byteOf p.failRunLimit] ++ bytesOf 2 p.allowance ++ bytesOf 2 p.degradedAllowance
    ++ bytesOf 2 p.holdOff ++ bytesOf 2 p.initialRate ++ bytesOf 2 p.rampStep ++ bytesOf 4 p.burstSize
    ++ bytesOf 2 p.ageLimit

/-! ### Recovery memory records -/

/-- The 63 bytes of a cage record (R168). -/
def CageRecord.bytes (r : CageRecord) : List Byte :=
  bytes32 r.key ++ bytes32 r.digest ++ [byteOf r.home.val]
    ++ [bitsByte 8 fun n => if n = 0 then r.valid else 4 ≤ n && r.seeded.get (indexOf 4 (n - 4))]
    ++ [byteOf r.layout.code] ++ r.laneMap.items.map (fun n => byteOf n.val)
    ++ r.seeds.items.flatMap (fun lane => lane.items.map (BitVec.signExtend 8))
    ++ r.skews.items.map byteOf

/-- A position in CAGE-RECORDS: the held mark, 1 for filled, and the record or 63 zero bytes (R168). -/
def positionBytes (held : Bool) (r : Option CageRecord) : List Byte :=
  markByte held :: markByte r.isSome :: (r.map CageRecord.bytes).getD (List.replicate 63 0)

/-- The eight bytes of a peer identity. -/
def PeerIdentity.bytes (p : PeerIdentity) : List Byte := bytes48 p.address ++ [byteOf p.cage.val, byteOf p.slot.val]

/-- The nine bytes of a peer record: valid, then the identity (R168). Of an invalid record outside READ-STATE the manual gives
no identity bytes: the model sends them as 0 (DESIGN CHOICE, log 27). -/
def peerBytes (p : Option PeerIdentity) : List Byte :=
  markByte p.isSome :: (p.map PeerIdentity.bytes).getD (List.replicate 8 0)

/-- A heard peer: present, the identity and the epoch, or zeros (R168). -/
def heardBytes (h : Option HeardPeer) : List Byte :=
  match h with
  | none => List.replicate 11 0
  | some h => 1 :: (h.identity.bytes ++ bytes16 h.epoch)

/-! ### Counters and discards -/

/-- The 48 bytes of a link's counters (R168). -/
def Counters.bytes (c : Counters) : List Byte :=
  bytesOf 4 c.parked ++ bytesOf 4 c.replayed ++ bytesOf 4 c.losses ++ c.discards.items.flatMap (bytesOf 4)

/-- The ten bytes of a discard record, or of an empty slot (R168). Of an empty slot R168 gives byte 0; the model sends the
other nine as 0, the class byte among them (DESIGN CHOICE, log 27). -/
def discardBytes (d : Option DiscardRecord) : List Byte :=
  match d with
  | none => List.replicate 10 0
  | some d =>
    [1, byteOf d.reason.code, byteOf d.link.val, (d.cls.map fun k => byteOf k.val).getD 0xFF]
      ++ bytesOf 2 d.length ++ bytes32 d.stamp

/-! ### Table -/

/-- A TABLE-READ entry: key word, attribute word and the mark byte, 1 for a damaged entry (R33, R168). -/
def ProfileEntry.bytes (e : ProfileEntry) : List Byte := bytes32 e.key ++ bytes32 e.attr ++ [markByte (!e.intact)]

/-- The fault record: valid, index, cage (R168). Of an invalid record in the reply to TABLE-READ the manual gives no index and
no cage: the model sends them as 0 (DESIGN CHOICE, log 27). -/
def faultBytes (f : Option (Nat × CageId)) : List Byte :=
  match f with
  | none => [0, 0, 0]
  | some (i, c) => [1, byteOf i, byteOf c.val]

/-! ### READ-STATE replies -/

/-- READ-STATE DEVICE, 19 bytes (R162, R168). -/
def State.deviceBytes (s : State) : List Byte :=
  [markByte s.engaged, byteOf s.table.mode.code] ++ bytesOf 2 s.table.entries.length ++ faultBytes s.table.fault
    ++ bytesOf 2 s.poolFree ++ [markByte s.poolLow, byteOf s.management.queue.length]
    ++ bytes48 s.settings.managementAddress ++ bytes16 s.settings.managementType

/-- READ-STATE CAGE, 75 bytes (R162, R168). -/
def State.cageBytes (s : State) (c : CageId) : List Byte :=
  let m := s.cage c
  [byteOf m.mode.code, byteOf m.failedCause.code, byteOf (m.resetLine.toNat + 2 * m.lowPower.toNat)] ++ bytes16 m.visit
    ++ [markByte m.identityKey.isSome] ++ bytes32 (m.identityKey.getD 0) ++ bytes32 (m.serialDigest.getD 0)
    ++ [markByte (s.memory.held.get c), byteOf m.fabricLayout.code, markByte m.alertEnable,
        markByte m.workingCopy.isSome]
    ++ (match m.workingCopy with
        | none => List.replicate 57 0
        | some (n, p) => byteOf n.val :: p.bytes)

/-- A timer's remaining milliseconds in two bytes, FFFFh for stopped (R168). -/
def State.timerBytes (s : State) (t : Timer) : List Byte := bytesOf 2 ((s.remainingMs t).getD 0xFFFF)

/-- The lane map in use: present, then one byte for each fabric-side lane of the slot, 0 beyond (R168). -/
def laneMapInUseBytes (m : Option (List LaneConnection)) : List Byte :=
  let ls := m.getD []
  markByte m.isSome ::
    (ls.map fun l => byteOf (l.lane.val + 16 * l.receiveInverted.toNat + 32 * l.transmitInverted.toNat))
      ++ List.replicate (8 - ls.length) 0

/-- The last window: present, verdict, reason, C, E and X (R168). -/
def windowBytes (w : Option Window) : List Byte :=
  match w with
  | none => List.replicate 15 0
  | some w =>
    [1, byteOf w.verdict.code, byteOf w.reason.code] ++ bytesOf 4 w.codewords ++ bytesOf 4 w.corrected
      ++ bytesOf 4 w.uncorrectable

/-- READ-STATE LINK, bytes 0 to 64: the link engine (R91, R112, R168). -/
def State.engineBytes (s : State) (j : LinkId) : List Byte :=
  let e := (s.link j).engine
  [byteOf e.recovery.code, markByte e.warm, byteOf e.retryCount] ++ bytes16 e.epoch ++ [byteOf e.lastFailure.code]
    ++ bytesOf 2 (e.measuredSkew.getD 0xFFFF) ++ laneMapInUseBytes e.laneMap
    ++ [bitsByte 8 fun n => e.converged.get (indexOf 8 n), bitsByte 8 fun n => e.markerLock.get (indexOf 8 n),
        byteOf (e.fecLock.toNat + 2 * e.lockLossTimer.isSome.toNat)]
    ++ windowBytes e.lastWindow
    ++ [markByte e.windowTimer.isSome] ++ bytesOf 4 e.codewords ++ bytesOf 4 e.corrected ++ bytesOf 4 e.uncorrectable
    ++ [byteOf e.passRun, byteOf e.failRun, byteOf e.cleanRun, markByte e.marginal, byteOf e.grade.code,
        markByte e.degraded]
    ++ heardBytes e.heardPeer

/-- READ-STATE LINK, bytes 65 to 81: peer record, damping and hold unit (R112, R127, R168). -/
def State.holdBytes (s : State) (j : LinkId) : List Byte :=
  let l := s.link j
  peerBytes (s.memory.peers.get j) ++ bytesOf 2 l.penalty ++ [markByte l.suppressed, byteOf l.hold.service.code]
    ++ s.timerBytes l.hold.holdTimer
    ++ [byteOf l.hold.lastLoss.code, bitsByte 4 fun n => (l.hold.paused.get (indexOf 4 n)).isSome]

/-- READ-STATE LINK, bytes 82 to 131: park store and meter (R145, R157, R168). -/
def State.storeBytes (s : State) (j : LinkId) : List Byte :=
  let l := s.link j
  let fifos := l.park.fifos.items
  (fifos.flatMap fun f => bytesOf 2 (blocksIn f)) ++ (fifos.flatMap fun f => bytesOf 2 f.length)
    ++ [bitsByte 4 fun n => l.park.critical.get (indexOf 4 n),
        bitsByte 4 fun n => !(l.park.fifos.get (indexOf 4 n)).isEmpty]
    ++ (fifos.flatMap fun f => bytes32 ((f.head?.map ParkedFrame.stamp).getD 0))
    ++ [byteOf l.meter.mode.code] ++ bytesOf 2 l.meter.rate ++ bytesOf 4 l.meter.tokens ++ bytesOf 4 l.meter.burst
    ++ bytesOf 2 l.meter.rateCeiling ++ [markByte l.meter.degraded] ++ s.timerBytes l.meter.rampTimer

/-- READ-STATE LINK, 132 bytes (R162, R168). -/
def State.linkBytes (s : State) (j : LinkId) : List Byte := s.engineBytes j ++ s.holdBytes j ++ s.storeBytes j

/-! ### Notices, snapshots, probes -/

/-- The notice body, 12 bytes, with the state of the source as it stands (R173, R168). -/
def State.noticeBody (s : State) (e : PendingEntry) : List Byte :=
  let front := [byteOf e.kind.code, byteOf (s.notices.levels.get e.kind.place), byteOf e.source, byteOf e.count,
    byteOf e.detail]
  match e.kind.sourceRange with
  | .cage => front ++ [byteOf (s.cage (indexOf 16 e.source)).mode.code] ++ List.replicate 6 0
  | .link =>
    let j : LinkId := indexOf 64 e.source
    let l := s.link j
    front ++ [byteOf (s.cage (cageOf j)).mode.code, byteOf l.engine.recovery.code, byteOf l.hold.service.code]
      ++ bytesOf 2 l.penalty ++ [markByte l.suppressed, byteOf l.hold.lastLoss.code]
  | .device | .channel => front ++ List.replicate 7 0

/-- The link part of a snapshot body, bytes 5 to 54; for a source that is no link every field is 0, the hold time stopped
and the heard peer none (R177, R168). -/
def captureBytes (l : Option LinkCapture) : List Byte :=
  match l with
  | none => List.replicate 36 0 ++ [0xFF, 0xFF] ++ List.replicate 12 0
  | some l =>
    let w := l.window
    [byteOf l.recovery.code, byteOf l.service.code, markByte l.warm] ++ bytesOf 2 l.penalty ++ [markByte l.suppressed]
      ++ [byteOf ((w.map fun w => w.verdict.code).getD 0)] ++ bytesOf 4 ((w.map Window.codewords).getD 0)
      ++ bytesOf 4 ((w.map Window.corrected).getD 0) ++ bytesOf 4 ((w.map Window.uncorrectable).getD 0)
      ++ [byteOf l.passRun, byteOf l.failRun, byteOf l.retryCount] ++ l.occupancy.items.flatMap (bytesOf 2)
      ++ bytesOf 4 l.tokens ++ bytesOf 2 l.rate ++ bytesOf 2 (l.holdRemaining.getD 0xFFFF) ++ heardBytes l.heardPeer
      ++ [byteOf ((w.map fun w => w.reason.code).getD 0)]

/-- The snapshot body, 55 bytes, with the superseded count in force when it is sent (R177, R179, R168). -/
def SnapshotRecord.body (r : SnapshotRecord) (superseded : Nat) : List Byte :=
  [byteOf r.channel.val, byteOf r.trigger.code, byteOf r.source, byteOf r.index, byteOf superseded]
    ++ captureBytes r.link

/-- The probe body, 10 bytes: the sender's address, the link's cage and slot, and its bring-up epoch (R99, R168). -/
def State.probeBody (s : State) (j : LinkId) : List Byte :=
  bytes48 s.settings.managementAddress ++ [byteOf (cageOf j).val, byteOf (slotOf j).val] ++ bytes16 (s.link j).engine.epoch

end Sys2Proof.Machine
end

