-- ==== Sys2Proof/Machine/Notices.lean ====
section
/-! DEFINITION. Events on their way out: the snapshot channels claim first (chapter 12), the notice unit takes the rest
(chapter 11), and the service port sends replies, snapshots and notices (R161, R172, R179). `State.settle` ends every
step (log 7). -/

namespace Sys2Proof.Machine

/-! ### Snapshot channels (R176 to R178) -/

/-- The link part of a capture, read as the link stands (R177). -/
def State.captureLink (s : State) (j : LinkId) : LinkCapture :=
  let l := s.link j
  { recovery := l.engine.recovery
    service := l.hold.service
    warm := l.engine.warm
    penalty := l.penalty
    suppressed := l.suppressed
    window := l.engine.lastWindow
    passRun := l.engine.passRun
    failRun := l.engine.failRun
    retryCount := l.engine.retryCount
    occupancy := Bank.tabulate fun k => blocksIn (l.park.fifos.get k)
    tokens := l.meter.tokens
    rate := l.meter.rate
    holdRemaining := s.remainingMs l.hold.holdTimer
    heardPeer := l.engine.heardPeer }

/-- The record a channel captures from a source (R177). -/
def State.captureRecord (s : State) (h : ChannelId) (trigger : EventKind) (source : Nat) : SnapshotRecord :=
  { channel := h
    trigger := trigger
    source := source
    index := (s.channel h).sequence + 1
    link := if trigger.sourceRange = .link then some (s.captureLink (indexOf 64 source)) else none }

/-- A capture fills the channel's slot, superseding a waiting snapshot, and counts down; at 0 the channel disarms
(R177, R178, R179). -/
def Channel.captured (c : Channel) (r : SnapshotRecord) : Channel :=
  let kept :=
    { c with
      sequence := c.sequence + 1
      slot := some r
      superseded := if c.slot.isSome then min 255 (c.superseded + 1) else c.superseded
      remaining := c.remaining - 1 }
  if c.remaining ≤ 1 then { kept with armed := false, trigger := none, seriesLink := none, mode := .single } else kept

/-- Channel `h` captures; the number of a channel whose count this brings to 0 raises SNAPSHOT-DONE (R178). -/
def State.capture (h : ChannelId) (trigger : EventKind) (source : Nat) (s : State) : State × Option Event :=
  let t := s.updChannel h fun c => c.captured (s.captureRecord h trigger source)
  (t, if (t.channel h).armed then none else some ⟨.snapshotDone, h.val, 0⟩)

/-- Whether an armed channel's trigger matches an event (R176). -/
def Channel.isFor (c : Channel) (kind : EventKind) (source : Nat) : Bool :=
  c.armed &&
    match c.trigger with
    | none => false
    | some t => t.kind = kind && (t.source = none || t.source = some source)

/-- Channel `h` acts on an event it claims, by its mode (R176). -/
def State.claim (h : ChannelId) (kind : EventKind) (source : Nat) (s : State) : State × Option Event :=
  match (s.channel h).mode with
  | .single => s.capture h kind source
  | .series =>
    if (s.channel h).seriesLink.isSome then (s, none)
    else (s.updChannel h fun c => { c with seriesLink := some (indexOf 64 source) }, none)

/-- The lowest-numbered armed channel that an event matches (R176). -/
def State.claimant (s : State) (kind : EventKind) (source : Nat) : Option ChannelId :=
  (List.finRange 4).find? fun h => (s.channel h).isFor kind source

/-! ### The pending set (R170, R171) -/

/-- The notice unit takes an event that no channel claimed, by the level of its kind (R170); a DISCARD that makes a new
entry sets its link's mark (R171). -/
def State.noticeEvent (e : Event) (s : State) : State :=
  if s.notices.levels.get e.kind.place = 0 then s
  else if s.notices.entries.any fun x => x.kind = e.kind && x.source = e.source then
    s.updNotices fun n =>
      { n with entries := n.entries.map fun x =>
          if x.kind = e.kind && x.source = e.source then { x with detail := e.detail, count := min 255 (x.count + 1) }
          else x }
  else
    let t := s.updNotices fun n => { n with entries := n.entries ++ [⟨e.kind, e.source, e.detail, 1⟩] }
    if e.kind = .discard then t.updLink (indexOf 64 e.source) fun l => { l with discardMark := true } else t

/-- An event is offered to the channels, then to the notice unit; a channel that disarms raises SNAPSHOT-DONE, which is
offered in turn (R170, R176, R178), at once: before what else the step raised is offered (DESIGN CHOICE, log 7). At most
four channels disarm, which bounds `fuel`. -/
def State.offer : Nat → Event → State → State
  | 0, e, s => s.noticeEvent e
  | fuel + 1, e, s =>
    match s.claimant e.kind e.source with
    | none => s.noticeEvent e
    | some h =>
      match s.claim h e.kind e.source with
      | (t, none) => t
      | (t, some done) => State.offer fuel done t

/-- An event, offered (R170). -/
def State.offerEvent (e : Event) (s : State) : State := State.offer 4 e s

/-- A window end of link `j` at channel `h`: captured where the channel's series link is `j` (R176). Where the capture disarms
the channel, its SNAPSHOT-DONE is offered before the next channel captures (DESIGN CHOICE, log 7). -/
def State.seriesCapture (j : LinkId) (h : ChannelId) (s : State) : State :=
  match (s.channel h).seriesLink, (s.channel h).trigger with
  | some i, some t =>
    if i = j then
      match s.capture h t.kind j.val with
      | (u, none) => u
      | (u, some done) => u.offerEvent done
    else s
  | _, _ => s

/-- A signal, offered: a discard raises DISCARD where its link's mark is clear (R171), and a window end is offered to the
channels in their order (R176; log 7). -/
def State.offerSignal (x : Signal) (s : State) : State :=
  match x with
  | .event e => s.offerEvent e
  | .discard j => if (s.link j).discardMark then s else s.offerEvent ⟨.discard, j.val, 0⟩
  | .windowEnd j => s.forEach (State.seriesCapture j) (List.finRange 4)

/-! ### The service port (R161, R172, R173, R179) -/

/-- Whether entry `a` goes before entry `b`: the higher level, then the lower code, then the lower source (R172). -/
def NoticeUnit.before (n : NoticeUnit) (a b : PendingEntry) : Bool :=
  let la := n.levels.get a.kind.place
  let lb := n.levels.get b.kind.place
  lb < la || (la = lb && (a.kind.code < b.kind.code || (a.kind.code = b.kind.code && a.source < b.source)))

/-- The entry the notice unit chooses (R172). -/
def NoticeUnit.choice (n : NoticeUnit) : Option PendingEntry :=
  match n.entries with
  | [] => none
  | e :: rest => some (rest.foldl (fun best x => if n.before x best then x else best) e)

/-- A frame begins to be sent on the service port, which starts the gap timer with the gap in force; a gap of 0 leaves it
stopped (R172). -/
def State.beginService (m : ManagementFrame) (s : State) : State :=
  { s with
    service := { s.service with sending := some m }
    notices := { s.notices with
      gapTimer := if s.settings.noticeGap = 0 then none else some (s.now + s.settings.noticeGap * (10 * microsecond)) } }

/-- The lowest-numbered channel that holds a pending snapshot (R179). -/
def State.snapshotWaiting (s : State) : Option (ChannelId × SnapshotRecord) :=
  (List.finRange 4).findSome? fun h => (s.channel h).slot.map fun r => (h, r)

/-- A snapshot leaves its slot with the superseded count in force, which returns to 0 (R179). -/
def State.sendSnapshot (h : ChannelId) (r : SnapshotRecord) (s : State) : State :=
  let m := s.frameTo broadcast .snapshot 0 0 0 (r.body (s.channel h).superseded)
  (s.updChannel h fun c => { c with slot := none, superseded := 0 }).beginService m

/-- A notice is built from its entry and the source's state, the entry leaves the set, and a DISCARD entry's mark is
cleared (R171, R172, R173). -/
def State.sendNotice (e : PendingEntry) (s : State) : State :=
  let m := s.frameTo broadcast .notice 0 0 0 (s.noticeBody e)
  let t := s.updNotices fun n =>
    { n with entries := n.entries.filter fun x => !(x.kind = e.kind && x.source = e.source) }
  let u := if e.kind = .discard then t.updLink (indexOf 64 e.source) fun l => { l with discardMark := false } else t
  u.beginService m

/-- The service port, when free, begins a waiting reply, with the address and type value then in force (R164); otherwise,
with the gap timer stopped, the lowest channel's snapshot, or else the chosen notice (R161, R172, R179). A reply goes
before a notice or a snapshot that is ready with it: the manual lets either go first (DESIGN CHOICE, log 8). -/
def State.serveOut (s : State) : State :=
  if s.service.sending.isSome then s
  else
    match s.service.replies with
    | m :: rest => { s with service := { s.service with replies := rest } }.beginService (m.sentUnder s.settings)
    | [] =>
      if s.notices.gapTimer.isSome then s
      else
        match s.snapshotWaiting with
        | some (h, r) => s.sendSnapshot h r
        | none =>
          match s.notices.choice with
          | some e => s.sendNotice e
          | none => s

/-- The end of a step: what it raised is offered in order, then the service port begins what it can (log 7, log 8). -/
def State.settle (s : State) : State :=
  (State.forEach State.offerSignal s.raised { s with raised := [] }).serveOut

/-- A step's answer: the change made, then settled. -/
def State.answer (s : State) : Result := .next s.settle

/-- A request command's step: the request reaches the engine, and `f` executes it if it is its turn (R160, R161; log 16). -/
def serve (i : Instr) (f : State → State) (s : State) : Result :=
  let t := s.receive i
  (if t.isExecuting i then f t else t).answer

end Sys2Proof.Machine
end

