-- ==== Sys2Proof/Machine/Bus.lean ====
section
/-! DEFINITION. The module bus controllers (section 1.3): requests placed and dropped, the arbiter's choice, the page record
and the end of an attempt. -/

namespace Sys2Proof.Machine

/-- A transaction as it starts: the page select location is read, and the page compared with the last written (R6, R8). -/
def State.transaction (s : State) (r : BusRequest) : Transaction where
  request := r
  attempt := 1
  selectLocation := s.settings.pageSelectLocation
  selecting := (s.cage r.cage).lastPage ≠ some r.page
  discarded := false
  wiped := false
  forgotten := false

/-- A controller starts a transaction. -/
def State.startTransaction (k : ControllerId) (r : BusRequest) (s : State) : State :=
  s.updController k fun c => { c with inFlight := some (s.transaction r) }

/-- The places of a controller's cages in cyclic order, after the last cage served (R11). -/
def cyclicAfter (p : Fin 4) : List (Fin 4) := [p + 1, p + 2, p + 3, p]

/-- The cage whose list the arbiter would serve next, with its oldest request (R11). -/
def State.nextCage (s : State) (k : ControllerId) : Option (Fin 4 × BusRequest) :=
  (cyclicAfter (s.controller k).lastServed).findSome? fun p =>
    (s.cage (cageAt k p)).busRequests.head?.map fun r => (p, r)

/-- The pass-through slot's request starts: the slot empties and the bypass count returns to 0 (R11). -/
def State.startPassThrough (k : ControllerId) (r : BusRequest) (s : State) : State :=
  (s.updController k fun c => { c with slot := none, bypass := 0 }).startTransaction k r

/-- A cage's oldest request starts: its cage is the last served, and a waiting pass-through is bypassed once more (R11). -/
def State.startCageRequest (k : ControllerId) (p : Fin 4) (r : BusRequest) (s : State) : State :=
  let t := s.updController k fun c =>
    { c with lastServed := p, bypass := if c.slot.isSome then c.bypass + 1 else c.bypass }
  (t.updCage (cageAt k p) fun c => { c with busRequests := c.busRequests.tail }).startTransaction k r

/-- The bypass count at which the pass-through goes first (R11). -/
def bypassLimit : Nat := 4

/-- A controller with no transaction in flight chooses among the waiting requests (R11). -/
def State.chooseBus (k : ControllerId) (s : State) : State :=
  let c := s.controller k
  if c.inFlight.isSome then s
  else
    match c.slot, s.nextCage k with
    | some r, none => s.startPassThrough k r
    | some r, some (p, q) => if bypassLimit ≤ c.bypass then s.startPassThrough k r else s.startCageRequest k p q
    | none, some (p, q) => s.startCageRequest k p q
    | none, none => s

/-- A cage monitor places a READ with its controller, for a purpose and within its present visit (R7, R11, R12). -/
def State.placeRead (c : CageId) (purpose : Purpose) (page offset : Byte) (length : Nat) (s : State) : State :=
  let r : BusRequest :=
    { requester := .monitor purpose (s.cage c).visit, cage := c, kind := .read, page := page, offset := offset,
      length := length, data := [] }
  (s.updCage c fun m => { m with busRequests := m.busRequests ++ [r] }).chooseBus (controllerOf c)

/-- A pass-through request enters its controller's slot (R14). -/
def State.placePassThrough (r : BusRequest) (s : State) : State :=
  (s.updController (controllerOf r.cage) fun k => { k with slot := some r, bypass := 0 }).chooseBus (controllerOf r.cage)

/-- Marks a controller's transaction for a cage, if one is in flight. -/
def Controller.markFor (c : CageId) (f : Transaction → Transaction) (k : Controller) : Controller :=
  { k with inFlight := k.inFlight.map fun t => if t.request.cage = c then f t else t }

/-- Whether a transaction is a cage monitor's. -/
def Transaction.isMonitors (t : Transaction) : Bool :=
  match t.request.requester with
  | .monitor .. => true
  | .passThrough => false

/-- The cage monitor leaves a state: its waiting requests are removed, and the outcome of its transaction in flight is
void (R12). -/
def State.dropRequests (c : CageId) (s : State) : State :=
  (s.updCage c fun m => { m with busRequests := [] }).updController (controllerOf c)
    (Controller.markFor c fun t => if t.isMonitors then { t with discarded := true } else t)

/-- The page record becomes unknown while a transaction's attempt runs. An attempt that makes no page select write has
none to come; `later` says of any other that its write is acknowledged after this (R10; log 11). -/
def Transaction.wipe (later : Bool) (t : Transaction) : Transaction :=
  { t with wiped := t.wiped || !(t.selecting && later) }

/-- A cage's page record becomes unknown (R10). A page select write that the attempt in flight has still to make will set
it; whether it has is the module's timing, a free value (log 11). -/
def State.forgetPage (c : CageId) (s : State) : State :=
  ((s.updCage c fun m => { m with lastPage := none }).updController (controllerOf c)
    (Controller.markFor c (Transaction.wipe (Config.selectsLater s.freeCount)))).spend

/-- A cage's page record becomes unknown as a new page select location is taken, and it stays so at the end of a transaction
in flight for the cage (R6). -/
def State.forgetLocation (c : CageId) (s : State) : State :=
  (s.forgetPage c).updController (controllerOf c) (Controller.markFor c fun t => { t with forgotten := true })

/-- Whether a transaction is a pass-through WRITE that covers the page select location (R10). -/
def Transaction.coversSelect (t : Transaction) : Bool :=
  t.request.requester = .passThrough && t.request.kind = .write
    && t.request.offset.toNat ≤ t.selectLocation.toNat
    && t.selectLocation.toNat < t.request.offset.toNat + t.request.length

/-- The page record of a transaction's cage at its end (R6, R10). -/
def Transaction.pageAfter (t : Transaction) (outcome : BusOutcome) : Option Byte :=
  if t.forgotten || t.wiped || outcome ≠ .done || t.coversSelect then none else some t.request.page

/-- An attempt fails short of the third: an acknowledged page select write stands in the record unless the record became
unknown after it, and the next attempt starts with the comparison again (R8, R9, R10). -/
def State.nextAttempt (k : ControllerId) (t : Transaction) (selected : Bool) (s : State) : State :=
  let page := if t.selecting && selected && !t.wiped then some t.request.page else (s.cage t.request.cage).lastPage
  (s.updCage t.request.cage fun m => { m with lastPage := page }).updController k fun c =>
    { c with inFlight := some { t with
        attempt := t.attempt + 1, selecting := page ≠ some t.request.page, wiped := false } }

end Sys2Proof.Machine
end

