-- ==== Sys2Proof/Machine/Memory.lean ====
section
/-! DEFINITION. Recovery memory (chapter 4): lookups and moves, the warm answer, refreshes and what FORGET removes. -/

namespace Sys2Proof.Machine

/-! ### Lookup (R60 to R66) -/

/-- Where a lookup for a cage finds a digest (R62). -/
inductive Found where
  | own (r : CageRecord)
  | cached (r : CageRecord)
  | other (d : CageId) (r : CageRecord)
  | nowhere
deriving DecidableEq, Repr

/-- Whether a position holds a record of the digest. -/
def holdsDigest (digest : BitVec 32) (p : Option CageRecord) : Bool :=
  match p with
  | none => false
  | some r => r.digest = digest

/-- The search for a digest: the cage's own position, the cache, the other positions (R62). -/
def RecoveryMemory.find (m : RecoveryMemory) (c : CageId) (digest : BitVec 32) : Found :=
  match (m.positions.get c).filter (·.digest = digest) with
  | some r => .own r
  | none =>
    match m.cache.find? (·.digest = digest) with
    | some r => .cached r
    | none =>
      match allCages.findSome? fun d =>
          if d = c then none else ((m.positions.get d).filter (·.digest = digest)).map fun r => (d, r) with
      | some (d, r) => .other d r
      | none => .nowhere

/-- Sets a position. -/
def RecoveryMemory.setPosition (c : CageId) (r : Option CageRecord) (m : RecoveryMemory) : RecoveryMemory :=
  { m with positions := m.positions.set c r }

/-- Sets a held mark. -/
def RecoveryMemory.setHeld (c : CageId) (b : Bool) (m : RecoveryMemory) : RecoveryMemory :=
  { m with held := m.held.set c b }

/-- Takes the record of a digest out of the cache. -/
def RecoveryMemory.uncache (digest : BitVec 32) (m : RecoveryMemory) : RecoveryMemory :=
  { m with cache := m.cache.filter fun r => r.digest ≠ digest }

/-- The most records in the roaming cache (R60). -/
def cacheLimit : Nat := 16

/-- Insertion at the head of the cache: a record of the same digest leaves first, and then the tail of a full cache
(R60). -/
def RecoveryMemory.insert (r : CageRecord) (m : RecoveryMemory) : RecoveryMemory :=
  { m with cache := r :: (m.cache.filter fun x => x.digest ≠ r.digest).take (cacheLimit - 1) }

/-- What a position holds is displaced: a valid record joins the cache, any other is discarded (R64). -/
def RecoveryMemory.displace (c : CageId) (m : RecoveryMemory) : RecoveryMemory :=
  match m.positions.get c with
  | none => m
  | some r => if r.valid then (m.setPosition c none).insert r else m.setPosition c none

/-- A record is placed in a cage's position, which is then held (R64, R65). -/
def RecoveryMemory.place (c : CageId) (r : CageRecord) (m : RecoveryMemory) : RecoveryMemory :=
  ((m.displace c).setPosition c (some { r with home := c })).setHeld c true

/-- The lookup for a cage (R62 to R66); `fresh` is the record made where none is found. -/
def RecoveryMemory.lookup (c : CageId) (fresh : CageRecord) (m : RecoveryMemory) : RecoveryMemory :=
  match m.find c fresh.digest with
  | .own r => if r.key = fresh.key then m.setHeld c true else (m.setPosition c none).place c fresh
  | .cached r => (m.uncache fresh.digest).place c (if r.key = fresh.key then r else fresh)
  | .other d r =>
    if m.held.get d then ((m.displace c).setPosition c none).setHeld c false
    else (m.setPosition d none).place c (if r.key = fresh.key then r else fresh)
  | .nowhere => m.place c fresh

/-- The record made for a key and a digest: valid flag and seeded marks clear, seeds and skews 0; its layout and lane map
carry no meaning (R58; log 13). -/
def freshRecord (n : Nat) (c : CageId) (key digest : BitVec 32) : CageRecord where
  key := key
  digest := digest
  home := c
  valid := false
  layout := match Config.freshLayout n with
    | 0 => .l1
    | 1 => .l2
    | 2 => .l4
  laneMap := Bank.tabulate (Config.freshLaneMap n)
  seeds := Bank.fill 8 (Bank.fill 5 0)
  skews := Bank.fill 4 0
  seeded := Bank.fill 4 false

/-- The lookup that completes a cage's identification (R19, R62). -/
def State.lookup (c : CageId) (key digest : BitVec 32) (s : State) : State :=
  (s.updMemory fun m => m.lookup c (freshRecord s.freeCount c key digest)).spend

/-! ### The warm answer (R68) -/

/-- A record that is the seated module's: its key and digest equal the cage monitor's (R68, R70). -/
def CageRecord.isOf (r : CageRecord) (m : Cage) : Bool := m.identityKey = some r.key && m.serialDigest = some r.digest

/-- The record in a cage's position, if it is the seated module's. -/
def State.ownRecord (s : State) (c : CageId) : Option CageRecord :=
  (s.memory.positions.get c).filter fun r => r.isOf (s.cage c)

/-- Whether a record carries a layout and a lane map, as a completed bring-up left them (R68, R69). -/
def CageRecord.fits (r : CageRecord) (p : ParameterSet) : Bool :=
  r.valid && r.layout = p.layout && r.laneMap = p.laneMap

/-- Recovery memory's answer to a link that leaves DOWN: seeds and remembered skew if warm, none if cold (R68). -/
def State.warmAnswer (s : State) (j : LinkId) : Option SeedsInUse :=
  match s.ownRecord (cageOf j) with
  | none => none
  | some r =>
    if r.fits (s.linkSet j) && r.seeded.get (slotOf j) then
      some { settings := (s.moduleLanes j).map fun n => (n, r.seeds.get n), skew := r.skews.get (slotOf j) }
    else none

/-! ### Refresh (R69, R70) -/

/-- A record with settings and a skew handed over for a slot (R69). -/
def CageRecord.refreshed (p : ParameterSet) (k : SlotId) (settings : List (LaneId × LaneSettings)) (skew : Nat)
    (r : CageRecord) : CageRecord :=
  let r1 :=
    if r.fits p then r
    else { r with layout := p.layout, laneMap := p.laneMap, seeded := Bank.fill 4 false, valid := true }
  { r1 with
    seeds := settings.foldl (fun b x => b.set x.1 x.2) r1.seeds
    skews := r1.skews.set k skew
    seeded := r1.seeded.set k true }

/-- The settings the equalisers of a link's lanes hold as they are read (R81; log 5). -/
def State.heldSettings (s : State) (j : LinkId) : List (LaneId × LaneSettings) :=
  (s.moduleLanes j).map fun n => (n, Bank.tabulate (Config.trackedSetting s.freeCount n))

/-- A link that reaches UP hands over its settings and its measured skew; they are written into the position's record if
it is the seated module's (R69, R70). -/
def State.refresh (j : LinkId) (s : State) : State :=
  let settings := s.heldSettings j
  let skew := (s.link j).engine.measuredSkew.getD 0
  let t := (s.updEngine j fun e => { e with equaliser := settings }).spend
  match s.ownRecord (cageOf j) with
  | none => t
  | some r =>
    t.updMemory fun m => m.setPosition (cageOf j) (some (r.refreshed (s.linkSet j) (slotOf j) settings skew))

/-! ### Peer records (R71) -/

/-- Sets the peer record of a link. -/
def State.setPeer (j : LinkId) (p : Option PeerIdentity) : State → State :=
  State.updMemory fun m => { m with peers := m.peers.set j p }

/-! ### FORGET (R72) -/

/-- Empties a position and clears its held mark. -/
def RecoveryMemory.forgetPosition (c : CageId) (m : RecoveryMemory) : RecoveryMemory :=
  (m.setPosition c none).setHeld c false

/-- The records that FORGET CAGE removes. -/
def RecoveryMemory.inPosition (m : RecoveryMemory) (c : CageId) : Nat := (m.positions.get c).isSome.toNat

/-- Removes the record of a digest, wherever it stands. -/
def RecoveryMemory.forgetDigest (digest : BitVec 32) (m : RecoveryMemory) : RecoveryMemory :=
  (allCages.foldl (fun m c => if holdsDigest digest (m.positions.get c) then m.forgetPosition c else m) m).uncache digest

/-- The records of a digest. -/
def RecoveryMemory.countDigest (m : RecoveryMemory) (digest : BitVec 32) : Nat :=
  m.positions.items.countP (holdsDigest digest) + m.cache.countP fun r => r.digest = digest

/-- Recovery memory with nothing in it. -/
def RecoveryMemory.empty : RecoveryMemory := resetMemory

/-- All its records and valid peer records. -/
def RecoveryMemory.countAll (m : RecoveryMemory) : Nat :=
  m.positions.items.countP Option.isSome + m.cache.length + m.peers.items.countP Option.isSome

end Sys2Proof.Machine
end

