-- ==== Sys2Proof/Machine/Pause.lean ====
section
/-! DEFINITION. Pause toward the switch (section 7.6): pausing, refreshing and releasing a class of a link. -/

namespace Sys2Proof.Machine

/-- The four classes, ascending. -/
def allClasses : List ClassId := [0, 1, 2, 3]

/-- A class's pause frame, naming every priority that maps to the class. R124 sends no frame as it pauses a class that none
maps to; that its refresh and its release send none either is the model's choice (DESIGN CHOICE, log 29). -/
def State.sendClassPause (j : LinkId) (k : ClassId) (quanta : Nat) (s : State) : State :=
  if prioritiesOf s.settings k = 0 then s else s.sendPause j ⟨prioritiesOf s.settings k, quanta⟩

/-- The refresh interval: half the pause time in force, in whole quanta and at least 1, at the link's line rate (R125). -/
def State.refreshInterval (s : State) (j : LinkId) : Nat := max 1 (s.settings.pauseTime / 2) * (s.linkLayout j).quantum

/-- Whether a class of a link is paused. -/
def State.isPaused (s : State) (j : LinkId) (k : ClassId) : Bool := ((s.link j).hold.paused.get k).isSome

/-- Sets a class's pause state. -/
def State.setPaused (j : LinkId) (k : ClassId) (t : Timer) : State → State :=
  State.updHold j fun h => { h with paused := h.paused.set k t }

/-- Pauses a class: its pause frame is sent and its refresh timer starts (R124). -/
def State.pauseClass (j : LinkId) (k : ClassId) (s : State) : State :=
  (s.sendClassPause j k s.settings.pauseTime).setPaused j k (some (s.now + s.refreshInterval j))

/-- Pauses a class that is pausable and released (R124). -/
def State.pauseIfPausable (j : LinkId) (k : ClassId) (s : State) : State :=
  if s.settings.pausable.get k && !s.isPaused j k then s.pauseClass j k else s

/-- Releases a paused class with a pause time of 0; a released class is left as it is (R126). -/
def State.releaseClass (j : LinkId) (k : ClassId) (s : State) : State :=
  if s.isPaused j k then (s.sendClassPause j k 0).setPaused j k none else s

/-- Releases every paused class of a link (R126), class 0 first: the manual gives the frames of one change no order (DESIGN
CHOICE, log 28). -/
def State.releaseLink (j : LinkId) (s : State) : State := s.forEach (State.releaseClass j) allClasses

/-- Whether a fall in occupancy releases a class of the link: in REPLAY, or in HOLD with pause-on-hold off (R126). -/
def State.releasesByLevel (s : State) (j : LinkId) : Bool :=
  (s.link j).hold.service = .replay || ((s.link j).hold.service = .hold && !s.settings.pauseOnHold)

/-- Releases a class whose occupancy is at or below the resume level. -/
def State.releaseIfLow (j : LinkId) (k : ClassId) (s : State) : State :=
  if s.occupancy j k ≤ s.settings.resumeLevel then s.releaseClass j k else s

/-- The hold unit is told a class's occupancy (R126, R137). -/
def State.tellOccupancy (j : LinkId) (k : ClassId) (s : State) : State :=
  if s.releasesByLevel j then s.releaseIfLow j k else s

end Sys2Proof.Machine
end

