-- ==== Sys2Proof/Machine/Park.lean ====
section
/-! DEFINITION. The park store (chapter 8): discards, the admission procedure, removals from a head and flushes. -/

namespace Sys2Proof.Machine

/-- A discard, counted for its reason, offered to the discard slots and handed to the notice unit (R143, R167). -/
def State.discard (reason : DiscardReason) (j : LinkId) (cls : Option ClassId) (length : Nat) (s : State) : State :=
  let r : DiscardRecord := ⟨reason, j, cls, length, s.stamp⟩
  let t := s.updCounters j fun c =>
    { c with discards := c.discards.set reason.place (saturate (c.discards.get reason.place + 1)) }
  let u : State :=
    { t with
      slotA := if s.slotA.isNone then some r else s.slotA
      slotB := if s.slotA.isSome && s.slotB.isNone then some r else s.slotB }
  u.signal (.discard j)

/-- Replaces a class FIFO of a link. -/
def State.setFifo (j : LinkId) (k : ClassId) (fifo : List ParkedFrame) : State → State :=
  State.updLink j fun l => { l with park := { l.park with fifos := l.park.fifos.set k fifo } }

/-- Sets a critical mark. -/
def State.setCritical (j : LinkId) (k : ClassId) (b : Bool) : State → State :=
  State.updLink j fun l => { l with park := { l.park with critical := l.park.critical.set k b } }

/-- The class FIFO of a link. -/
def State.fifo (s : State) (j : LinkId) (k : ClassId) : List ParkedFrame := (s.link j).park.fifos.get k

/-- The frame at the head of a FIFO leaves it and its blocks return to the pool (R133, R134). -/
def State.removeHead (j : LinkId) (k : ClassId) (s : State) : State :=
  match s.fifo j k with
  | [] => s
  | f :: rest => { s.setFifo j k rest with poolFree := s.poolFree + f.blocks }

/-- The head of a FIFO is discarded with a reason (R134, R143). -/
def State.discardHead (j : LinkId) (k : ClassId) (f : ParkedFrame) (reason : DiscardReason) (s : State) : State :=
  (s.removeHead j k).discard reason j (some k) f.length

/-- A class's critical mark is cleared at or below the resume level (R139), and the hold unit is told the occupancy
(R126). -/
def State.occupancyFell (j : LinkId) (k : ClassId) (s : State) : State :=
  (if s.occupancy j k ≤ s.settings.resumeLevel then s.setCritical j k false else s).tellOccupancy j k

/-- Blocks returned to the pool: at or above the mark the pool-low state is clear (R140). -/
def State.poolRose (s : State) : State :=
  if s.settings.poolLowMark ≤ s.poolFree then { s with poolLow := false } else s

/-! ### Parking an arrival (R136, R137) -/

/-- The first condition that keeps `n` blocks from joining, as a reason (R136). -/
def State.parkBar (s : State) (j : LinkId) (k : ClassId) (n : Nat) : Option DiscardReason :=
  if s.settings.classLimit < s.occupancy j k + n then some .classFull
  else if s.settings.linkLimit < (s.link j).park.occupancy + n then some .linkFull
  else if s.poolFree < n then some .poolFull
  else none

/-- While a condition holds, the head of the arrival's own class is displaced with its reason; the condition that still
holds over an empty FIFO is answered (R136). `fuel` is the number of frames in the FIFO. -/
def State.displace (j : LinkId) (k : ClassId) (n : Nat) : Nat → State → State × Option DiscardReason
  | 0, s => (s, s.parkBar j k n)
  | fuel + 1, s =>
    match s.parkBar j k n, s.fifo j k with
    | none, _ => (s, none)
    | some r, [] => (s, some r)
    | some r, f :: _ => State.displace j k n fuel (s.discardHead j k f r)

/-- The parked-frame record of an arrival (R134). -/
def State.parkRecord (s : State) (k : ClassId) (priority : Fin 8) (frame : List Byte) : ParkedFrame :=
  { frame := frame, length := frame.length, blocks := blocksOf frame.length, priority := priority, cls := k,
    stamp := s.stamp }

/-- An arrival joins the tail of its class FIFO, takes its blocks and is counted PARKED (R136, R137). -/
def State.joinFifo (j : LinkId) (k : ClassId) (f : ParkedFrame) (s : State) : State :=
  let t := { s.setFifo j k (s.fifo j k ++ [f]) with poolFree := s.poolFree - f.blocks }
  t.updCounters j fun c => { c with parked := saturate (c.parked + 1) }

/-- Whether a link parks: its service state is HOLD or REPLAY (R124, R132). -/
def ServiceState.parks : ServiceState → Bool
  | .hold | .replay => true
  | .pass | .shed | .off => false

/-- The judgements that follow a joined arrival: pause and CLASS-CRITICAL above the critical level, release at or below
the resume level, POOL-LOW below the mark (R124, R126, R137, R139, R140). A join at or below the resume level clears the mark
and releases the class even where the occupancy did not fall, as after the level was raised (DESIGN CHOICE, log 30). -/
def State.judgeJoined (j : LinkId) (k : ClassId) (s : State) : State :=
  let above := decide (s.settings.criticalLevel < s.occupancy j k)
  let a :=
    if above then if (s.link j).hold.service.parks then s.pauseIfPausable j k else s
    else s.occupancyFell j k
  let b :=
    if above && !(s.link j).park.critical.get k then (a.setCritical j k true).raise .classCritical j.val k.val else a
  if b.poolFree < b.settings.poolLowMark && !b.poolLow then { b with poolLow := true }.raise .poolLow 0 else b

/-- The admission procedure for an arrival of a class on a link, with the judgements that follow it (R136, R137). -/
def State.park (j : LinkId) (k : ClassId) (priority : Fin 8) (frame : List Byte) (s : State) : State :=
  let n := blocksOf frame.length
  if s.settings.classLimit < n then s.discard .classFull j (some k) frame.length
  else
    let before := s.fifo j k
    match s.displace j k n before.length with
    | (t, some r) =>
      let u := t.discard r j (some k) frame.length
      if before.isEmpty then u else (u.occupancyFell j k).poolRose
    | (t, none) =>
      let u := (t.joinFifo j k (s.parkRecord k priority frame)).judgeJoined j k
      if (t.fifo j k).length < before.length then u.poolRose else u

/-! ### Flushes (R141) -/

/-- Every frame of one class FIFO is discarded, head to tail, and its blocks return to the pool; an empty FIFO is left as
it is (R141). -/
def State.flushClass (reason : DiscardReason) (j : LinkId) (k : ClassId) (s : State) : State :=
  match s.fifo j k with
  | [] => s
  | f :: rest =>
    let t := { s.setFifo j k [] with poolFree := s.poolFree + blocksIn (f :: rest) }
    let u := t.forEach (fun g => State.discard reason j (some k) g.length) (f :: rest)
    (u.occupancyFell j k).poolRose

/-- A flush of one link: class 3 down to class 0 (R141). The hold unit is told class by class, so the release frames of the
classes it empties leave in that order too (DESIGN CHOICE, log 28). -/
def State.flushLink (reason : DiscardReason) (j : LinkId) (s : State) : State :=
  s.forEach (State.flushClass reason j) [3, 2, 1, 0]

end Sys2Proof.Machine
end

