-- ==== Sys2Proof/Machine/MeterOps.lean ====
section
/-! DEFINITION. The re-admission meter (chapter 9): start, candidate judgement, transit, end of replay. -/

namespace Sys2Proof.Machine

/-- The meter returns to STOPPED (R146). -/
def State.stopMeter (j : LinkId) : State → State := State.updMeter j fun _ => stoppedMeter

/-- Sets the service state of a link. -/
def State.setService (j : LinkId) (v : ServiceState) : State → State := State.updHold j fun h => { h with service := v }

/-- The end of replay: with the meter UNMETERED and the store empty the link enters PASS, every class still paused is
released and the meter stops (R154). -/
def State.endReplay (j : LinkId) (s : State) : State :=
  if (s.link j).meter.mode = .unmetered && (s.link j).park.isEmpty then
    ((s.setService j .pass).releaseLink j).stopMeter j
  else s

/-- The candidate: the head of the highest class whose FIFO is not empty (R149). -/
def State.candidate (s : State) (j : LinkId) : Option (ClassId × ParkedFrame) :=
  [3, 2, 1, 0].findSome? fun k => (s.fifo j k).head?.map fun f => (k, f)

/-- A frame leaves the head of its FIFO and begins its transit (R151). -/
def State.startTransit (j : LinkId) (k : ClassId) (f : ParkedFrame) (s : State) : State :=
  let t := (s.removeHead j k).updLink j fun l =>
    { l with
      moduleSide := { l.moduleSide with transit := some f.frame }
      counters := { l.counters with replayed := saturate (l.counters.replayed + 1) } }
  (t.occupancyFell j k).poolRose

/-- Whether a candidate's age exceeds the working copy's age limit (R150). -/
def State.isStale (s : State) (j : LinkId) (f : ParkedFrame) : Bool :=
  (s.linkSet j).ageLimit * 1000 < ageOf s.stamp f.stamp

/-- What the meter charges a frame: its length, but at most the burst size in use (R151). -/
def Meter.charge (m : Meter) (f : ParkedFrame) : Nat := min f.length m.burst

/-- The judgement of candidates: stale ones are discarded, then the first within its age begins its transit if the mode
and the tokens let it (R150, R151, R154). `fuel` is the number of frames in the store. -/
def State.judgeFrom (j : LinkId) : Nat → State → State
  | 0, s => s
  | fuel + 1, s =>
    match s.candidate j with
    | none => s
    | some (k, f) =>
      if s.isStale j f then
        State.judgeFrom j fuel (((s.discardHead j k f .stale).occupancyFell j k).poolRose)
      else
        match (s.link j).meter.mode with
        | .stopped => s
        | .unmetered => s.startTransit j k f
        | .metered =>
          let c := (s.link j).meter.charge f
          if c ≤ (s.link j).meter.tokens then
            (s.updMeter j fun m => { m with tokens := m.tokens - c }).startTransit j k f
          else s

/-- The frames parked for a link. -/
def ParkState.frames (p : ParkState) : Nat := ((List.finRange 4).map fun k => (p.fifos.get k).length).sum

/-- A judgement of the candidate, while the egress has no frame in transit, and the end of replay it may bring
(R149, R154). -/
def State.judge (j : LinkId) (s : State) : State :=
  if (s.link j).meter.mode = .stopped then s
  else if (s.link j).moduleSide.isFree then (s.judgeFrom j (s.link j).park.frames).endReplay j
  else s.endReplay j

/-- The meter starts at admission with the degraded flag handed over (R147). -/
def State.startMeter (j : LinkId) (degraded : Bool) (s : State) : State :=
  let p := s.linkSet j
  let line := s.lineRate j
  let first := firstRateOf line p.initialRate degraded
  let top := rateCeilingOf line degraded
  s.updMeter j fun _ =>
    { mode := if !degraded && first = line then .unmetered else .metered
      burst := p.burstSize
      tokens := p.burstSize
      rate := first
      rateCeiling := top
      degraded := degraded
      rampTimer := if first < top then some (s.inMs p.rampStep) else none
      lastTick := s.microseconds }

/-- One ramp step: the doubled rate against the ceiling (R152). -/
def Meter.ramped (m : Meter) (next : Moment) : Meter :=
  if m.rate * 2 < m.rateCeiling then { m with rate := m.rate * 2, rampTimer := some next }
  else if m.degraded then { m with rate := m.rateCeiling, rampTimer := none }
  else { m with mode := .unmetered, rate := m.rateCeiling, rampTimer := none }

/-- The degraded flag clears: the ceiling becomes the line rate and a ramp timer stopped at half of it starts (R153). -/
def State.meterRecovered (j : LinkId) (s : State) : State :=
  let line := s.lineRate j
  let next := s.inMs (s.linkSet j).rampStep
  s.updMeter j fun m =>
    if m.mode = .stopped then m
    else { m with degraded := false, rateCeiling := line, rampTimer := m.rampTimer.or (some next) }

end Sys2Proof.Machine
end

