-- ==== Sys2Proof/Machine/LinkOps.lean ====
section
/-! DEFINITION. The link engines (chapters 5 and 6), the damping unit and the loss path (chapter 7): attempts, lock,
windows, the peer check, admission, penalties. -/

namespace Sys2Proof.Machine

/-! ### DOWN and ADAPTING (R78 to R81) -/

/-- An engine returned to DOWN: epoch, measured skew and last failure cause are kept, all else is as at reset (R78, R92,
R76). -/
def LinkEngine.down (e : LinkEngine) : LinkEngine :=
  { resetEngine .down with epoch := e.epoch, measuredSkew := e.measuredSkew, lastFailure := e.lastFailure }

/-- A link returns to DOWN (R78). -/
def State.toDown (j : LinkId) : State → State := State.updEngine j LinkEngine.down

/-- The connections of a link's fabric-side lanes (R80). -/
def State.connections (s : State) (j : LinkId) : List LaneConnection :=
  let p := s.linkSet j
  (s.moduleLanes j).map fun n =>
    { lane := n, receiveInverted := p.receiveInversion.getLsbD n, transmitInverted := p.transmitInversion.getLsbD n }

/-- The settings each lane starts an attempt from: its seeds, or centre (R81). -/
def State.startSettings (s : State) (j : LinkId) (seeds : Option SeedsInUse) : List (LaneId × LaneSettings) :=
  match seeds with
  | some x => x.settings
  | none => (s.moduleLanes j).map fun n => (n, Bank.fill 5 0)

/-- Entry to ADAPTING, which begins a new attempt: warm with seeds, cold without (R79, R80, R81, R92). -/
def State.enterAdapting (j : LinkId) (seeds : Option SeedsInUse) (retryCount : Nat) (s : State) : State :=
  let p := s.linkSet j
  s.updEngine j fun e =>
    { resetEngine .adapting with
      laneMap := some (s.connections j)
      warm := seeds.isSome
      seeds := seeds
      equaliser := s.startSettings j seeds
      retryCount := retryCount
      epoch := e.epoch + 1
      adaptationTimer := some (s.inMs (if seeds.isSome then p.warmLimit else p.coldLimit))
      measuredSkew := e.measuredSkew
      lastFailure := e.lastFailure }

/-- A link leaves DOWN at its cage's entry to SERVING (R49, R78). -/
def State.leaveDown (j : LinkId) (s : State) : State := s.enterAdapting j (s.warmAnswer j) 0

/-! ### Attempt failures (R85, R86) -/

/-- What every attempt failure does first: the cause is recorded, the timers stop and the locks empty (R85). -/
def LinkEngine.failedAttempt (cause : FailureCause) (e : LinkEngine) : LinkEngine :=
  { e with
    lastFailure := cause
    adaptationTimer := none
    alignmentTimer := none
    lockLossTimer := none
    markerLock := Bank.fill 8 false
    hadMarker := Bank.fill 8 false
    markerOffset := Bank.fill 8 0
    skewAccepted := false
    fecLock := false
    fecReached := false }

/-- Entry to FAILED (R86, R87, R92). -/
def LinkEngine.failed (e : LinkEngine) : LinkEngine :=
  { e with
    recovery := .failed
    windowTimer := none
    probeTimer := none
    codewords := 0
    corrected := 0
    uncorrectable := 0
    grade := .none }

/-- An attempt fails: a warm fallback, a retry, or FAILED (R85, R86). -/
def State.attemptFailed (j : LinkId) (cause : FailureCause) (s : State) : State :=
  let e := (s.link j).engine
  let t := s.updEngine j (LinkEngine.failedAttempt cause)
  if e.warm then (t.raise .warmFallback j.val).enterAdapting j none e.retryCount
  else if e.retryCount < (s.linkSet j).retries then t.enterAdapting j none (e.retryCount + 1)
  else (t.updEngine j LinkEngine.failed).raise .linkFailed j.val

/-! ### Damping (R107) -/

/-- An increment is added to a link's penalty, and a penalty at or above S suppresses the link (R107). -/
def State.addPenalty (j : LinkId) (increment : Nat) (s : State) : State :=
  let p := raisedPenalty s.settings.ceiling (s.link j).penalty increment
  let t := s.updLink j fun l => { l with penalty := p }
  if s.settings.suppressThreshold ≤ p && !(s.link j).suppressed then
    (t.updLink j fun l => { l with suppressed := true }).raise .suppressed j.val
  else t

/-- The increment a loss adds, by its cause (R107). -/
def Settings.incrementOf (g : Settings) : LossCause → Option Nat
  | .signal | .errors | .gate => some g.lossIncrement
  | .removed => some g.removalIncrement
  | .restart | .none => none

/-! ### The loss path (R114, R115) -/

/-- Entry to HOLD: the hold timer starts, and with pause-on-hold on every pausable class is paused (R115, R116, R124), class
0 first (DESIGN CHOICE, log 28). -/
def State.startHold (j : LinkId) (holdOff : Nat) (s : State) : State :=
  let t := s.updHold j fun h => { h with service := .hold, holdTimer := some (s.inMs holdOff) }
  if s.settings.pauseOnHold then t.forEach (State.pauseIfPausable j) allClasses else t

/-- Entry to SHED: the link's frames are discarded EXPIRED and its paused classes released (R115, R117). -/
def State.shed (j : LinkId) (s : State) : State :=
  let t := s.updHold j fun h => { h with service := .shed, holdTimer := none }
  (t.flushLink .expired j).releaseLink j

/-- The service state and the hold timer after a loss (R115); a link that leaves REPLAY stops its meter (R155). -/
def State.loseService (j : LinkId) (s : State) : State :=
  let off := (s.linkSet j).holdOff
  match (s.link j).hold.service with
  | .pass | .replay => if off = 0 then (s.stopMeter j).shed j else (s.stopMeter j).startHold j off
  | .hold | .shed | .off => s

/-- The recovery state after a loss: ADAPTING for a loss in service, DOWN where the cage leaves SERVING (R114, R79). -/
def State.lossRecovery (j : LinkId) (cause : LossCause) (s : State) : State :=
  match cause with
  | .signal | .errors => s.enterAdapting j none 0
  | .gate | .removed | .restart | .none => s.toDown j

/-- The loss path (R114). -/
def State.lossPath (cause : LossCause) (j : LinkId) (s : State) : State :=
  let t := s.updLink j fun l =>
    { l with
      hold := { l.hold with lastLoss := cause }
      counters := { l.counters with losses := saturate (l.counters.losses + 1) } }
  let u := match s.settings.incrementOf cause with
    | some n => t.addPenalty j n
    | none => t
  ((u.lossRecovery j cause).loseService j).raise .linkLost j.val cause.code

/-- Whether a link has left DOWN: the recovery states a cage's departure takes the loss path from (R114). -/
def RecoveryState.isWorking : RecoveryState → Bool
  | .inactive | .down => false
  | .adapting | .aligning | .qualifying | .peerHold | .damped | .up | .failed => true

/-- A link takes the loss path if it is not DOWN already (R114). -/
def State.departBy (cause : LossCause) (j : LinkId) (s : State) : State :=
  if (s.link j).engine.recovery.isWorking then s.lossPath cause j else s

/-- A cage leaves SERVING and its active links take the loss path (R49, R53, R114), in the order of their slots, ascending:
the manual gives none (DESIGN CHOICE, log 28). -/
def State.departLinks (c : CageId) (cause : LossCause) (s : State) : State :=
  s.forEach (State.departBy cause) (s.activeLinks c)

/-! ### Admission (R105, R119) -/

/-- The hold unit's side of an admission (R119, R126, R147); the classes it releases go class 0 first (DESIGN CHOICE,
log 28). -/
def State.holdAdmit (j : LinkId) (degraded : Bool) (s : State) : State :=
  let held := decide ((s.link j).hold.service = .hold)
  let t := s.updHold j fun h => { h with holdTimer := none, service := .replay }
  let u := if held then t.forEach (State.releaseIfLow j) allClasses else t
  (u.startMeter j degraded).judge j

/-- An admission with a grade; `announced` is false for FORCE-ADMIT alone (R105, R111). -/
def State.admitLink (j : LinkId) (grade : Grade) (announced : Bool) (s : State) : State :=
  let degraded := decide (grade = .degraded)
  let t := s.updEngine j fun e =>
    { e with recovery := .up, cleanRun := 0, grade := grade, degraded := degraded, probeTimer := none }
  let u := if announced then t.raise .linkUp j.val else t
  let v := if announced && degraded then u.raise .degraded j.val else u
  (v.refresh j).holdAdmit j degraded

/-- A link whose peer check proceeds enters DAMPED if it is suppressed, and is admitted if not (R95, R104). -/
def State.proceed (j : LinkId) (s : State) : State :=
  if (s.link j).suppressed then s.updEngine j fun e => { e with recovery := .damped }
  else s.admitLink j (s.link j).engine.grade true

/-! ### The peer check (R101, R102) -/

/-- What a peer check decides: whether the link proceeds, the record to store, and the event to raise. -/
structure PeerVerdict where
  proceeds : Bool
  store : Option PeerIdentity
  event : Option EventKind
deriving DecidableEq, Repr

/-- The peer check of a peer mode (R101, R102). -/
def peerVerdict : PeerMode → Option PeerIdentity → Option PeerIdentity → PeerVerdict
  | .off, _, _ => ⟨true, none, none⟩
  | .learn, none, _ => ⟨true, none, some .peerSilent⟩
  | .learn, some h, none => ⟨true, some h, none⟩
  | .learn, some h, some p => if h = p then ⟨true, none, none⟩ else ⟨true, some h, some .peerChanged⟩
  | .enforce, none, _ => ⟨false, none, some .peerSilent⟩
  | .enforce, some h, none => ⟨true, some h, none⟩
  | .enforce, some h, some p => if h = p then ⟨true, none, none⟩ else ⟨false, none, some .peerChanged⟩

/-- Completion of qualification: probes stop, the grade is fixed, and the peer check decides (R95). -/
def State.completeQualification (j : LinkId) (s : State) : State :=
  let e := (s.link j).engine
  let t := s.updEngine j fun e =>
    { e with probeTimer := none, grade := if e.marginal then .degraded else .full }
  let v := peerVerdict (s.linkSet j).peerMode (e.heardPeer.map HeardPeer.identity) (s.memory.peers.get j)
  let u := match v.store with
    | some p => t.setPeer j (some p)
    | none => t
  let w := match v.event with
    | some k => u.raise k j.val
    | none => u
  if v.proceeds then w.proceed j else w.updEngine j fun e => { e with recovery := .peerHold }

/-! ### Windows (R92 to R98) -/

/-- A qualification failure (R96). -/
def State.qualFailed (j : LinkId) (s : State) : State :=
  ((s.raise .qualFailed j.val).addPenalty j s.settings.lossIncrement).attemptFailed j .qualFailed

/-- The clean run of a degraded link reaches Q (R98, R153). -/
def State.clearDegraded (j : LinkId) (s : State) : State :=
  ((s.updEngine j fun e => { e with degraded := false }).raise .degraded j.val).meterRecovered j

/-- A verdict applied in the recovery state, after the runs are updated (R95 to R98). -/
def State.applyVerdict (j : LinkId) (v : Verdict) (s : State) : State :=
  let e := (s.link j).engine
  let p := s.linkSet j
  let failing := decide (v = .fail) && decide (p.failRunLimit ≤ e.failRun)
  match e.recovery with
  | .qualifying =>
    if failing then s.qualFailed j
    else if v ≠ .fail && p.passRunNeeded ≤ e.passRun then s.completeQualification j
    else s
  | .peerHold | .damped => if failing then s.qualFailed j else s
  | .up =>
    if failing then s.lossPath .errors j
    else if v = .pass && e.degraded && p.passRunNeeded ≤ e.cleanRun then s.clearDegraded j
    else s
  | .inactive | .down | .adapting | .aligning | .failed => s

/-- A window ends: the counts go to the last window and return to 0, the timer starts again, and the verdict is counted
and applied; a running series is offered the window end (R92 to R94, R176). The window end is raised before the events of
its own verdict, so it is offered before them: the manual gives no order (DESIGN CHOICE, log 7). -/
def State.windowEnd (j : LinkId) (s : State) : State :=
  let e := (s.link j).engine
  let p := s.linkSet j
  let v := verdictOf p e.codewords e.corrected e.uncorrectable
  let t := s.updEngine j fun e =>
    { e.countVerdict v.1 with
      lastWindow := some ⟨e.codewords, e.corrected, e.uncorrectable, v.1, v.2⟩
      codewords := 0
      corrected := 0
      uncorrectable := 0
      windowTimer := some (s.inMs p.windowLength) }
  (t.signal (.windowEnd j)).applyVerdict j v.1

/-! ### Probes (R99) and the entry to QUALIFYING (R84, R92) -/

/-- A probe is sent into the link's module-side egress (R99). -/
def State.sendProbe (j : LinkId) (s : State) : State :=
  let m := s.frameTo broadcast .probe 0 0 0 (s.probeBody j)
  s.updLink j fun l => { l with probeSent := some m }

/-- The probe interval (R99). -/
def probeInterval : Nat := 10

/-- FEC lock in ALIGNING: the alignment timer stops and the link enters QUALIFYING, where its windows and probes begin
(R84, R92, R99). -/
def State.enterQualifying (j : LinkId) (s : State) : State :=
  (s.updEngine j fun e =>
    { e with
      recovery := .qualifying
      alignmentTimer := none
      fecLock := true
      fecReached := true
      codewords := 0
      corrected := 0
      uncorrectable := 0
      windowTimer := some (s.inMs (s.linkSet j).windowLength)
      probeTimer := some (s.inMs probeInterval) }).sendProbe j

/-! ### Lock (R83, R84, R88, R89) -/

/-- Whether every module-side lane of a link's slot holds marker lock. -/
def State.allMarkers (s : State) (j : LinkId) : Bool := (s.moduleLanes j).all (s.link j).engine.markerLock.get

/-- Whether lock is whole: every lane that had marker lock holds it and, where FEC lock had been reached, it holds
(R88). -/
def LinkEngine.isWhole (e : LinkEngine) : Bool :=
  ((List.finRange 8).all fun n => !e.hadMarker.get n || e.markerLock.get n) && (!e.fecReached || e.fecLock)

/-- The lock-loss timer stops where lock is whole again (R88). -/
def State.judgeWhole (j : LinkId) : State → State :=
  State.updEngine j fun e => if e.isWhole then { e with lockLossTimer := none } else e

/-- A loss of lock is confirmed (R89). -/
def State.confirmLoss (j : LinkId) (s : State) : State :=
  match (s.link j).engine.recovery with
  | .aligning | .qualifying => s.attemptFailed j .lockLost
  | .peerHold | .damped | .up => s.lossPath .signal j
  | .inactive | .down | .adapting | .failed => s

/-- A loss of lock is seen: the lock-loss timer starts unless it runs, and a confirm time of 0 confirms at once (R88). -/
def State.lockLost (j : LinkId) (s : State) : State :=
  if (s.link j).engine.lockLossTimer.isSome then s
  else if s.settings.lockLossConfirmTime = 0 then s.confirmLoss j
  else s.updEngine j fun e =>
    { e with lockLossTimer := some (s.now + s.settings.lockLossConfirmTime * microsecond) }

/-- The skew, measured and judged once in an attempt when every lane first holds marker lock at once (R83). -/
def State.measureSkew (j : LinkId) (s : State) : State :=
  let e := (s.link j).engine
  let skew := skewOf ((s.moduleLanes j).map e.markerOffset.get)
  let t := s.updEngine j fun e => { e with measuredSkew := some skew }
  match judgeSkew (s.linkSet j).maxSkew e.warm ((e.seeds.map SeedsInUse.skew).getD 0) skew with
  | some cause => t.attemptFailed j cause
  | none => t.updEngine j fun e => { e with skewAccepted := true }

/-- Entry to ALIGNING (R81, R83). -/
def State.enterAligning (j : LinkId) (s : State) : State :=
  s.updEngine j fun e =>
    { e with
      recovery := .aligning
      adaptationTimer := none
      alignmentTimer := some (s.inMs (s.linkSet j).alignmentLimit) }

/-! ### Fabric layout (R77) -/

/-- A slot that becomes INACTIVE gives up its hold, pauses and parked frames (R77). Whether its last loss cause is among what
it gives up R77 does not say: the model keeps it (DESIGN CHOICE, log 31). -/
def State.slotUnused (j : LinkId) (s : State) : State :=
  let t := s.updLink j fun l =>
    { l with
      engine := { l.engine.down with recovery := .inactive }
      hold := { l.hold with service := .off, holdTimer := none } }
  (t.flushLink .flushed j).releaseLink j

/-- A slot that becomes active is DOWN (R77). -/
def State.slotUsed (j : LinkId) (s : State) : State :=
  s.updLink j fun l =>
    { l with
      engine := { l.engine with recovery := .down }
      hold := { l.hold with service := if s.engaged then .shed else .off } }

/-- The change of one slot between two layouts (R77). -/
def State.relayout (old new : Layout) (j : LinkId) (s : State) : State :=
  match old.uses (slotOf j), new.uses (slotOf j) with
  | true, false => s.slotUnused j
  | false, true => s.slotUsed j
  | true, true => s
  | false, false => s

end Sys2Proof.Machine
end

