-- ==== Sys2Proof/Machine/Search.lean ====
section
/-! DEFINITION. The table search unit (section 2.3): the waiting set, the choice and the end of a search. -/

namespace Sys2Proof.Machine

/-- The cages in cyclic order, after the last cage served (R25). -/
def cagesAfter (c : CageId) : List CageId := (List.finRange 16).map fun n => c + 1 + n

/-- The search that starts for a cage: its visit number, its identity key, entry 0 (R25), and its own view of the entries
(DESIGN CHOICE, log 12); a cage without a key, which no run leaves waiting, has 0 (DESIGN CHOICE, log 26). -/
def State.searchFor (s : State) (c : CageId) : Search where
  cage := c
  visit := (s.cage c).visit
  key := ((s.cage c).identityKey).getD 0
  next := 0
  view := s.table.entries

/-- The search unit chooses a waiting cage, when no search is in flight and no edit is pending (R25). -/
def State.chooseSearch (s : State) : State :=
  if s.search.inFlight.isSome || s.search.editPending then s
  else
    match (cagesAfter s.search.lastServed).find? s.search.waiting.get with
    | none => s
    | some c =>
      s.updSearch fun u => { u with inFlight := some (s.searchFor c), waiting := u.waiting.set c false, lastServed := c }

/-- A cage enters PROFILING and joins the waiting set (R25, R41). -/
def State.joinSearch (c : CageId) (s : State) : State :=
  (s.updCage c fun m => { m with mode := .profiling }).updSearch fun u => { u with waiting := u.waiting.set c true }

/-- A cage enters PROFILING; an idle unit chooses (R25, R41). -/
def State.enterProfiling (c : CageId) (s : State) : State := (s.joinSearch c).chooseSearch

/-- A cage leaves the waiting set (R29). -/
def State.leaveSearch (c : CageId) (s : State) : State :=
  s.updSearch fun u => { u with waiting := u.waiting.set c false }

/-- The table enters EDIT: the waiting set empties and its cages move to PROFILE-WAIT (R23, R24). -/
def State.enterEdit (s : State) : State :=
  let t := s.forEach (fun c t =>
    if s.search.waiting.get c && (s.cage c).mode = .profiling then t.updCage c fun m => { m with mode := .profileWait }
    else t) allCages
  { t with
    table := { t.table with mode := .edit }
    search := { t.search with waiting := Bank.fill 16 false, editPending := false } }

/-- The table returns to ACTIVE: every cage in PROFILE-WAIT enters PROFILING, all together, and the unit then chooses in
its cyclic order (R24, R25, R34; log 15). -/
def State.enterActive (s : State) : State :=
  ({ s with table := { s.table with mode := .active, fault := none } }.forEach
    (fun c t => if (t.cage c).mode = CageMode.profileWait then t.joinSearch c else t) allCages).chooseSearch

/-- The set a search result names (R27). -/
def SearchResult.set : SearchResult → SetId
  | .found n => n
  | .noCandidate | .damaged _ => 0

/-- The event of a search result (R27, R28). -/
def SearchResult.event : SearchResult → Option EventKind
  | .found _ => none
  | .noCandidate => some .noProfile
  | .damaged _ => some .tableFault

/-- The fault record after a search result (R28). -/
def ProfileTable.afterSearch (t : ProfileTable) (cage : CageId) : SearchResult → ProfileTable
  | .damaged i => { t with fault := some (i, cage) }
  | .found _ | .noCandidate => t

/-- Whether a search's cage is still in PROFILING in the same visit (R29). -/
def State.isCurrent (s : State) (x : Search) : Bool :=
  (s.cage x.cage).mode = .profiling && (s.cage x.cage).visit = x.visit

end Sys2Proof.Machine
end

