-- ==== Sys2Proof/Machine/CageOps.lean ====
section
/-! DEFINITION. The cage monitor's changes of state (chapters 1 and 3): waking, identifying, powering, serving, trips, and
the ways out; and the end of a module bus transaction, which feeds them. -/

namespace Sys2Proof.Machine

/-! ### Waking and identifying (R4, R15) -/

/-- The location and length of the identification read that follows `n` bytes (R15). -/
def Cage.identificationRead (m : Cage) (n : Nat) : (Byte × Byte) × Nat :=
  if n < 4 then (m.readList.getD n (0, 0), 1) else (m.serialLocation, 16)

/-- Places the next identification read (R15). -/
def State.readIdentity (c : CageId) (s : State) : State :=
  let x := (s.cage c).identificationRead (s.cage c).identityBytes.length
  s.placeRead c .identification x.1.1 x.1.2 x.2

/-- Entry to IDENTIFYING: the locations are latched, the identity becomes absent, and the first read is placed (R15). -/
def State.enterIdentifying (c : CageId) (s : State) : State :=
  (s.updCage c fun m =>
    { m with
      mode := .identifying
      readyTimer := none
      identityKey := none
      serialDigest := none
      identityBytes := []
      readList := s.settings.identityReadList
      serialLocation := s.settings.serialLocation }).readIdentity c

/-- Entry to WAKING: the visit number rises, the reset line is released and the ready timer starts (R4, R40). -/
def State.enterWaking (c : CageId) (s : State) : State :=
  let wait := s.settings.managementReadyTime
  let t := s.updCage c fun m =>
    { m with
      mode := .waking
      visit := m.visit + 1
      resetLine := false
      guardOrigin := s.now
      readyTimer := if wait = 0 then none else some (s.inMs wait) }
  if wait = 0 then t.enterIdentifying c else t

/-! ### What ends with a state (R3, R5, R50, R53) -/

/-- The monitor's timers stop and its flag read state and bytes of the visit are dropped (R3, R5, R51, R53). -/
def Cage.quiet (m : Cage) : Cage :=
  { m with
    seatingTimer := none
    readyTimer := none
    guardTimer := none
    powerUpTimer := none
    pollTimer := none
    flagRequested := false
    readAgain := false
    identityBytes := [] }

/-- The low-power line is asserted; where it was released, the guard origin is set (R40). -/
def Cage.lowered (now : Moment) (m : Cage) : Cage :=
  { m with lowPower := true, guardOrigin := if m.lowPower then m.guardOrigin else now }

/-- Both lines are asserted, as in ABSENT, SEATING and WAIT-ENGAGE, with the FAILED cause none (R3, R5, R40, R50). -/
def Cage.resetTo (mode : CageMode) (now : Moment) (m : Cage) : Cage :=
  { (m.quiet.lowered now) with mode := mode, failedCause := .none, resetLine := true }

/-- Entry to FAILED with a cause, which raises its event (R18, R43, R48, R50). -/
def State.cageFailed (c : CageId) (cause : FailedCause) (event : EventKind) (s : State) : State :=
  ((s.dropRequests c).updCage c fun m =>
    { (m.quiet.lowered s.now) with mode := .failed, failedCause := cause }).raise event c.val

/-! ### Serving and the gate (R49, R53, R54) -/

/-- Entry to SERVING: the low-power line stays released, the timers of POWERING stop (R47), and every active link leaves
DOWN (R49). -/
def State.enterServing (c : CageId) (s : State) : State :=
  let t := s.updCage c fun m =>
    { m with mode := .serving, lowPower := false, guardTimer := none, powerUpTimer := none, pollTimer := none }
  t.forEach State.leaveDown (t.activeLinks c)

/-- The gate closes: low-power is asserted and the cage enters TRIPPED or FORCED-OFF; from SERVING its active links take
the loss path with cause GATE (R53, R54). -/
def State.closeGate (c : CageId) (mode : CageMode) (event : Option EventKind) (s : State) : State :=
  let serving := decide ((s.cage c).mode = .serving)
  let t := (s.dropRequests c).updCage c fun m => { (m.quiet.lowered s.now) with mode := mode }
  let u := match event with
    | some k => t.raise k c.val
    | none => t
  if serving then u.departLinks c .gate else u

/-- A trip (R53). -/
def State.trip (c : CageId) : State → State := State.closeGate c .tripped (some .gateTripped)

/-! ### Alerts and flag reads (R51, R52) -/

/-- Whether a cage is in the span in which alerts are served (R51). -/
def CageMode.servesAlerts : CageMode → Bool
  | .powering | .serving => true
  | .absent | .seating | .waitEngage | .waking | .identifying | .profiling | .profileWait | .tripped | .forcedOff
  | .failed => false

/-- A flag read is placed (R51). -/
def State.readFlags (c : CageId) (s : State) : State :=
  let p := s.workingSet c
  (s.updCage c fun m => { m with flagRequested := true }).placeRead c .flagRead p.flagPage p.flagOffset p.flagLength

/-- An assertion of ALERT (R51). -/
def State.alerted (c : CageId) (s : State) : State :=
  let m := s.cage c
  if !m.alertEnable || !m.mode.servesAlerts then s
  else if (s.workingSet c).flagLength = 0 then s.trip c
  else if m.flagRequested then s.updCage c fun m => { m with readAgain := true }
  else s.readFlags c

/-- Whether flag bytes trip: a byte AND its mask byte is not 0 (R52). -/
def trips (mask flags : List Byte) : Bool := (List.zipWith (fun m f => m &&& f) mask flags).any fun b => b ≠ 0

/-- A flag read ends without a trip: a set read-again mark is cleared and, with the enable on, a new read placed (R52). -/
def State.flagsClear (c : CageId) (s : State) : State :=
  let again := (s.cage c).readAgain && (s.cage c).alertEnable
  let t := s.updCage c fun m => { m with readAgain := false }
  if again then t.readFlags c else t

/-- A flag read ends (R52). -/
def State.flagsEnded (c : CageId) (outcome : BusOutcome) (data : List Byte) (s : State) : State :=
  if !(s.cage c).mode.servesAlerts then s
  else
    let t := s.updCage c fun m => { m with flagRequested := false }
    if outcome = .done && (t.cage c).alertEnable && trips (t.workingSet c).tripMask.items data then t.trip c
    else t.flagsClear c

/-! ### Powering (R45 to R47) -/

/-- A ready poll is placed (R46). -/
def State.pollReady (c : CageId) (s : State) : State :=
  let p := s.workingSet c
  s.placeRead c .readyPoll p.readyPage p.readyOffset 1

/-- The guard ends: low-power is released, the power-up timer starts and the first ready poll is placed (R46). -/
def State.guardEnded (c : CageId) (s : State) : State :=
  (s.updCage c fun m =>
    { m with
      guardTimer := none
      lowPower := false
      powerUpTimer := some (s.inMs (s.workingSet c).powerUpLimit) }).pollReady c

/-- Entry to POWERING: the guard first, then an ALERT input that is asserted counts as an assertion (R45, R51; log 19). A
guard that ends at this very moment has ended (DESIGN CHOICE, log 19). -/
def State.enterPowering (c : CageId) (s : State) : State :=
  let end_ := (s.cage c).guardOrigin + (s.workingSet c).guardInterval * millisecond
  let t := s.updCage c fun m => { m with mode := .powering }
  let u := if end_ ≤ s.now then t.guardEnded c else t.updCage c fun m => { m with guardTimer := some end_ }
  if (s.cage c).alert then u.alerted c else u

/-- The interval between ready polls (R47). -/
def pollInterval : Nat := 10

/-- A ready poll ends (R47). -/
def State.pollEnded (c : CageId) (outcome : BusOutcome) (data : List Byte) (s : State) : State :=
  let p := s.workingSet c
  if (s.cage c).mode ≠ .powering then s
  else if outcome = .done && data.headD 0 &&& p.readyMask = p.readyValue then s.enterServing c
  else s.updCage c fun m => { m with pollTimer := some (s.inMs pollInterval) }

/-! ### The search result (R27, R39, R42, R43) -/

/-- A search result reaches its cage: the set is copied whole, the event raised, and the layout check made (R42, R43). -/
def State.takeResult (c : CageId) (r : SearchResult) (s : State) : State :=
  let p := s.sets.get r.set
  let t := s.updCage c fun m => { m with workingCopy := some (r.set, p) }
  let u := match r.event with
    | some k => t.raise k c.val
    | none => t
  if p.layout = (s.cage c).fabricLayout then u.enterPowering c else u.cageFailed c .layoutMismatch .layoutMismatch

/-! ### Identification's end (R16 to R19) -/

/-- Identification completes: key and digest are set, recovery memory makes its lookup, and the cage goes on to PROFILING
or PROFILE-WAIT (R16, R17, R19). -/
def State.identified (c : CageId) (bytes : List Byte) (s : State) : State :=
  let key := identityKeyOf bytes
  let digest := serialDigestOf (bytes.drop 4)
  let t := (s.updCage c fun m =>
    { m with identityKey := some key, serialDigest := some digest, identityBytes := [] }).lookup c key digest
  match t.table.mode with
  | .active => t.enterProfiling c
  | .edit => t.updCage c fun m => { m with mode := .profileWait }

/-- An identification read ends (R15, R18, R19). -/
def State.identificationEnded (c : CageId) (outcome : BusOutcome) (data : List Byte) (s : State) : State :=
  let m := s.cage c
  if m.mode ≠ .identifying then s
  else
    match outcome with
    | .done =>
      let bytes := m.identityBytes ++ data
      if m.identityBytes.length < 4 then (s.updCage c fun m => { m with identityBytes := bytes }).readIdentity c
      else s.identified c bytes
    | .nack | .stretched => s.cageFailed c .identFailed .identFailed
    | .absent => s

/-! ### The end of a transaction (R8, R12, R14) -/

/-- The reply to a pass-through, by its transaction's outcome (R14). -/
def State.passThroughEnded (outcome : BusOutcome) (kind : BusKind) (data : List Byte) (s : State) : State :=
  match outcome with
  | .done => s.respond .done [] (match kind with
    | .read => data
    | .write => [])
  | .nack => s.respond .busFault [] [1]
  | .stretched => s.respond .busFault [] [2]
  | .absent => s.respond .notPresent

/-- An outcome is handed to its requester, or discarded where the visit or the state that asked has ended (R8, R12). -/
def State.handOver (t : Transaction) (outcome : BusOutcome) (data : List Byte) (s : State) : State :=
  let c := t.request.cage
  match t.request.requester with
  | .passThrough => s.passThroughEnded outcome t.request.kind data
  | .monitor purpose visit =>
    if t.discarded || visit ≠ (s.cage c).visit then s
    else
      match purpose with
      | .identification => s.identificationEnded c outcome data
      | .readyPoll => s.pollEnded c outcome data
      | .flagRead => s.flagsEnded c outcome data

/-- A transaction ends: the page record is left as R10 gives, the outcome is handed over, and the controller chooses
(R8, R10, R11). -/
def State.endTransaction (k : ControllerId) (outcome : BusOutcome) (data : List Byte) (s : State) : State :=
  match (s.controller k).inFlight with
  | none => s
  | some t =>
    let u := s.updController k fun c => { c with inFlight := none }
    let v := u.updCage t.request.cage fun m => { m with lastPage := t.pageAfter outcome }
    (v.handOver t outcome data).chooseBus k

/-! ### Removal and restart (R5, R13, R56) -/

/-- The controller's side of a removal: the transaction in flight for the cage ends ABSENT, and its pass-through leaves the
slot (R13). The cage's request list and page record are emptied before. -/
def State.busRemoval (c : CageId) (s : State) : State :=
  let k := controllerOf c
  let waiting := (s.controller k).slot.any fun r => r.cage = c
  let t := if waiting then (s.updController k fun x => { x with slot := none, bypass := 0 }).respond .notPresent else s
  match (s.controller k).inFlight with
  | none => t
  | some x => if x.request.cage = c then t.endTransaction k .absent [] else t

/-- A cage enters ABSENT from any later state (R5, R59, R62). -/
def State.enterAbsent (c : CageId) (s : State) : State :=
  (s.updCage c fun m =>
    { (m.resetTo .absent s.now) with present := false, lastPage := none, busRequests := [] }).updMemory fun m =>
      m.setHeld c false

/-- A removal (R5, R13, R29, R49). The reply to a pass-through that it ends goes before the loss path takes the cage's links
out of service (DESIGN CHOICE, log 28). -/
def State.removed (c : CageId) (s : State) : State :=
  let serving := decide ((s.cage c).mode = .serving)
  let t := (((s.raise .removed c.val).dropRequests c).leaveSearch c).enterAbsent c
  let u := t.busRemoval c
  if serving then u.departLinks c .removed else u

/-- A cage's reset line is to be asserted: where it was released, the page record becomes unknown (R10). -/
def State.forgetAtReset (c : CageId) (s : State) : State := if (s.cage c).resetLine then s else s.forgetPage c

/-- A cage returns to SEATING with both lines asserted (R56). -/
def State.seatAgain (c : CageId) (s : State) : State :=
  (((s.dropRequests c).forgetAtReset c).leaveSearch c).updCage c fun m =>
    { (m.resetTo .seating s.now) with
      guardOrigin := s.now
      seatingTimer := some (s.inMs s.settings.seatingTime) }

/-- CAGE-RESTART of a cage (R56): in every state but ABSENT the guard origin is set to this moment (R40). -/
def State.restartCage (c : CageId) (s : State) : State :=
  match (s.cage c).mode with
  | .absent => s
  | .seating => s.updCage c fun m =>
    { m with guardOrigin := s.now, seatingTimer := some (s.inMs s.settings.seatingTime) }
  | .waitEngage | .waking | .identifying | .profiling | .profileWait | .powering | .serving | .tripped | .forcedOff
  | .failed =>
    let t := s.seatAgain c
    let u := if (s.cage c).mode = .serving then t.departLinks c .restart else t
    u.forEach (State.flushLink .flushed) (linksOf c)

/-- DISENGAGE for one cage (R3, R78). -/
def State.disengageCage (c : CageId) (s : State) : State :=
  match (s.cage c).mode with
  | .absent | .seating => s
  | .waitEngage | .waking | .identifying | .profiling | .profileWait | .powering | .serving | .tripped | .forcedOff
  | .failed =>
    let t := (((s.dropRequests c).forgetAtReset c).leaveSearch c).updCage c (Cage.resetTo .waitEngage s.now)
    t.forEach (fun j t => if (t.link j).engine.recovery.isWorking then t.toDown j else t) (t.activeLinks c)

end Sys2Proof.Machine
end

