-- ==== Sys2Proof/Machine/BusEvents.lean ====
section
/-! DEFINITION. The module buses and the profile table: attempts and transactions ending, searches and checksums ending,
and damage to an entry. -/

namespace Sys2Proof.Machine

/-- The attempts of a transaction (R9). -/
def attemptLimit : Nat := 3

/-- An attempt of a transaction fails: the next begins, or after the third the transaction ends NACK (R9). An acknowledged
page select write stands in the record until that end (R10). -/
def State.attemptEnded (k : ControllerId) (selected : Bool) (s : State) : State :=
  match (s.controller k).inFlight with
  | none => s
  | some t => if attemptLimit ≤ t.attempt then s.endTransaction k .nack [] else s.nextAttempt k t selected

/-- MODULE_BUS_ATTEMPT_FAILURE (R9). -/
def execModuleBusAttemptFailure (k : ControllerId) (selected : Bool) (s : State) : Result :=
  (s.attemptEnded k selected).answer

/-- BUS_STRETCH_TIMEOUT (R9): the transaction ends at once. -/
def execBusStretchTimeout (k : ControllerId) (s : State) : Result := (s.endTransaction k .stretched []).answer

/-- Whether the bytes of a READ are the ones it asked for; a WRITE delivers none (R8). -/
def Transaction.isDelivered (t : Transaction) (data : List Byte) : Bool :=
  match t.request.kind with
  | .read => data.length = t.request.length
  | .write => true

/-- A transaction's attempt succeeds: it ends DONE, a READ with its bytes (R8, R9). A READ that would deliver another
number of bytes than it asked for does not occur (log 17). -/
def State.transactionDone (k : ControllerId) (data : List Byte) (s : State) : State :=
  match (s.controller k).inFlight with
  | none => s
  | some t => if t.isDelivered data then s.endTransaction k .done data else s

/-- MODULE_BUS_TRANSACTION_END (R8, R12). -/
def execModuleBusTransactionEnd (k : ControllerId) (data : List Byte) (s : State) : Result :=
  (s.transactionDone k data).answer

/-- What follows a search: a pending edit, or the next choice (R23, R25). -/
def State.afterSearch (s : State) : State :=
  if s.search.editPending then s.enterEdit.respond .done else s.chooseSearch

/-- The search in flight ends: the fault record, the result for a cage still in the same visit, and what follows
(R26 to R29). -/
def State.searchEnded (s : State) : State :=
  match s.search.inFlight with
  | none => s
  | some x =>
    let r := searchFrom x.cage x.key x.next x.view
    let t := { s with
      table := s.table.afterSearch x.cage r
      search := { s.search with inFlight := none } }
    (if s.isCurrent x then t.takeResult x.cage r else t).afterSearch

/-- SEARCH_END (R27). -/
def execSearchEnd (s : State) : Result := s.searchEnded.answer

/-- The checksum that the request in execution supplied, where that is a TABLE-COMMIT held for it (R34). -/
def State.checksumSupplied (s : State) : Option (BitVec 32) :=
  match s.management.executing with
  | none => none
  | some e =>
    match decodeRequest e.request with
    | .ok (.tableCommit _ x) => if e.holding then some x else none
    | _ => none

/-- The checksum computation ends (R34): a match commits the table, and otherwise the computed value is answered. -/
def State.commitEnded (s : State) : State :=
  match s.management.commitView, s.checksumSupplied with
  | some view, some x =>
    let sum := tableChecksum view
    let t := s.updManagement fun m => { m with commitView := none }
    if sum = x then t.enterActive.respond .done [] (bytes32 sum) else t.respond .checksumMismatch [] (bytes32 sum)
  | _, _ => s

/-- COMMIT_CHECKSUM_DONE (R34). -/
def execCommitChecksumDone (s : State) : Result := s.commitEnded.answer

/-- The stored contents of an entry change (R21); an index beyond the count has no entry to damage. -/
def damageEntry (i : Nat) (e : ProfileEntry) (entries : List ProfileEntry) : List ProfileEntry := entries.set i e

/-- A search in flight reads the entries with the damage or without it (R34; log 12). -/
def SearchUnit.sees (seen : Bool) (i : Nat) (e : ProfileEntry) (u : SearchUnit) : SearchUnit :=
  { u with inFlight := u.inFlight.map fun x => if seen then { x with view := damageEntry i e x.view } else x }

/-- A checksum in progress sums the entries with the damage or without it (R34; log 12). -/
def ManagementEngine.sees (seen : Bool) (i : Nat) (e : ProfileEntry) (m : ManagementEngine) : ManagementEngine :=
  { m with commitView := m.commitView.map fun v => if seen then damageEntry i e v else v }

/-- ENTRY_DAMAGE (R21, R34): the entry is a damaged entry from now on. -/
def execEntryDamage (index : Fin 256) (key attr : BitVec 32) (s : State) : Result :=
  let e := entryOf key attr false
  let seen := Config.damageSeen s.freeCount
  { s with
    table := { s.table with entries := damageEntry index.val e s.table.entries }
    search := s.search.sees seen index.val e
    management := s.management.sees seen index.val e
    freeCount := s.freeCount + 1 }.answer

end Sys2Proof.Machine
end

