-- ==== Sys2Proof/Machine/CageEvents.lean ====
section
/-! DEFINITION. The pins and timers of the cages: RESET_N, PRESENT, ALERT, and the five timers of a cage monitor. -/

namespace Sys2Proof.Machine

/-- POWER_ON_RESET (R1): every block takes its power-on values, with the input levels and straps as the reset finds them.
The queue of commands and the free values' counter are the model's own and go on (log 20). -/
def execPowerOnReset (present alert : BitVec 16) (straps : BitVec 4) (s : State) : Result :=
  .next { State.atReset present alert straps with pending := s.pending, freeCount := s.freeCount }

/-- An insertion starts: the cage enters SEATING, and its page record is unknown (R1, R10). -/
def State.insertion (c : CageId) (s : State) : State :=
  (s.forgetPage c).updCage c fun m =>
    { m with present := true, mode := .seating, seatingTimer := some (s.inMs s.settings.seatingTime) }

/-- PRESENT_ASSERTION (R1, R2): in ABSENT a debounce starts; again during a debounce, it starts afresh with the full
seating time (log 17). -/
def execPresentAssertion (c : CageId) (s : State) : Result :=
  match (s.cage c).mode with
  | .absent => (s.insertion c).answer
  | .seating =>
    (s.updCage c fun m =>
      { m with present := true, seatingTimer := some (s.inMs s.settings.seatingTime) }).answer
  | .waitEngage | .waking | .identifying | .profiling | .profileWait | .powering | .serving | .tripped | .forcedOff
  | .failed => s.answer

/-- A deassertion of PRESENT in SEATING: the seating timer stops and the cage returns to ABSENT without an event (R2). -/
def State.unseat (c : CageId) (s : State) : State :=
  (s.updCage c fun m => { m with present := false, mode := .absent, seatingTimer := none }).updMemory fun m =>
    m.setHeld c false

/-- PRESENT_DEASSERTION_IN_SEATING (R2). -/
def execPresentDeassertionInSeating (c : CageId) (s : State) : Result :=
  if (s.cage c).mode = .seating then (s.unseat c).answer else s.answer

/-- REMOVAL (R5): in every state but ABSENT and SEATING. A restart taken first leaves the cage in SEATING, where the
deassertion is that of R2 (R57). -/
def execRemoval (c : CageId) (s : State) : Result :=
  match (s.cage c).mode with
  | .absent => s.answer
  | .seating => (s.unseat c).answer
  | .waitEngage | .waking | .identifying | .profiling | .profileWait | .powering | .serving | .tripped | .forcedOff
  | .failed => (s.removed c).answer

/-- ALERT_ASSERTION (R51): the input goes from deasserted to asserted. -/
def execAlertAssertion (c : CageId) (s : State) : Result :=
  if (s.cage c).alert then s.answer else ((s.updCage c fun m => { m with alert := true }).alerted c).answer

/-- ALERT_DEASSERTION (R51): it raises nothing. -/
def execAlertDeassertion (c : CageId) (s : State) : Result := (s.updCage c fun m => { m with alert := false }).answer

/-- Seating is complete (R2). -/
def State.seated (c : CageId) (s : State) : State :=
  let t := (s.updCage c fun m => { m with seatingTimer := none }).raise .inserted c.val
  if s.engaged then t.enterWaking c else t.updCage c fun m => { m with mode := .waitEngage }

/-- SEATING_TIMER_EXPIRY (R2). -/
def execSeatingTimerExpiry (c : CageId) (s : State) : Result :=
  (s.onExpiry (s.cage c).seatingTimer (State.seated c)).answer

/-- READY_TIMER_EXPIRY (R4, R15). -/
def execReadyTimerExpiry (c : CageId) (s : State) : Result :=
  (s.onExpiry (s.cage c).readyTimer (State.enterIdentifying c)).answer

/-- GUARD_TIMER_EXPIRY (R45, R46). -/
def execGuardTimerExpiry (c : CageId) (s : State) : Result :=
  (s.onExpiry (s.cage c).guardTimer (State.guardEnded c)).answer

/-- The poll timer expires: the next ready poll is placed (R47). -/
def State.pollAgain (c : CageId) (s : State) : State :=
  (s.updCage c fun m => { m with pollTimer := none }).pollReady c

/-- POLL_TIMER_EXPIRY (R47). -/
def execPollTimerExpiry (c : CageId) (s : State) : Result :=
  (s.onExpiry (s.cage c).pollTimer (State.pollAgain c)).answer

/-- POWER_UP_TIMER_EXPIRY (R48). -/
def execPowerUpTimerExpiry (c : CageId) (s : State) : Result :=
  (s.onExpiry (s.cage c).powerUpTimer fun t => t.cageFailed c .powerUpFailed .powerUpFailed).answer

end Sys2Proof.Machine
end

