-- ==== Sys2Proof/Machine/CageRequests.lean ====
section
/-! DEFINITION. The requests on a cage and on the device: the gate requests and CAGE-RESTART (chapter 3), ENGAGE, DISENGAGE
(section 7.5) and DEVICE-RESTART (section 10.5). -/

namespace Sys2Proof.Machine

/-- A request on a cage: a number above 15 is refused, and otherwise `f` answers it (R54, R55, R56). -/
def State.onCage (cage : Byte) (f : CageId → State → State) (s : State) : State :=
  if 15 < cage.toNat then s.respond .badArgument else f (indexOf 16 cage.toNat) s

/-- FORCE-GATE-OFF on a cage (R54). -/
def State.forceGateOff (c : CageId) (s : State) : State :=
  match (s.cage c).mode with
  | .powering | .serving => (s.closeGate c .forcedOff none).respond .done
  | .tripped => (s.updCage c fun m => { m with mode := .forcedOff }).respond .done
  | .absent | .seating | .waitEngage | .waking | .identifying | .profiling | .profileWait | .forcedOff | .failed =>
    s.respond .wrongState

/-- FORCE_GATE_OFF (R54). -/
def execForceGateOff (q : Requester) (cage : Byte) (s : State) : Result :=
  serve (.forceGateOff q cage) (State.onCage cage State.forceGateOff) s

/-- RE-ARM-GATE on a cage (R55). -/
def State.reArmGate (c : CageId) (s : State) : State :=
  match (s.cage c).mode with
  | .tripped | .forcedOff => (s.enterPowering c).respond .done
  | .absent | .seating | .waitEngage | .waking | .identifying | .profiling | .profileWait | .powering | .serving
  | .failed => s.respond .wrongState

/-- RE_ARM_GATE (R55). -/
def execReArmGate (q : Requester) (cage : Byte) (s : State) : Result :=
  serve (.reArmGate q cage) (State.onCage cage State.reArmGate) s

/-- CAGE_RESTART (R56). -/
def execCageRestart (q : Requester) (cage : Byte) (s : State) : Result :=
  serve (.cageRestart q cage) (State.onCage cage fun c t => (t.restartCage c).respond .done) s

/-! ### Engagement (R120, R121) -/

/-- The change ENGAGE makes (R120). -/
def State.engage (s : State) : State :=
  let t := { s with engaged := true }.forEach
    (fun j t => if t.isActive j && (t.link j).hold.service = ServiceState.off then t.setService j .shed else t) allLinks
  t.forEach (fun c t => if (t.cage c).mode = CageMode.waitEngage then t.enterWaking c else t) allCages

/-- ENGAGE (R120). -/
def execEngage (q : Requester) (s : State) : Result :=
  serve (.engage q) (fun t => (if t.engaged then t else t.engage).respond .done) s

/-- A link made OFF: its hold timer stops and its meter stops (R121, R155). -/
def State.makeOff (j : LinkId) (s : State) : State :=
  (s.stopMeter j).updHold j fun h => { h with service := .off, holdTimer := none }

/-- The change DISENGAGE makes (R3, R121). -/
def State.disengage (s : State) : State :=
  let released := s.forEach State.releaseLink allLinks
  let off := released.forEach State.makeOff allLinks
  let flushed := off.forEach (State.flushLink .flushed) allLinks
  { flushed with engaged := false }.forEach State.disengageCage allCages

/-- DISENGAGE (R121). -/
def execDisengage (q : Requester) (s : State) : Result :=
  serve (.disengage q) (fun t => (if t.engaged then t.disengage else t).respond .done) s

/-! ### Device restart (R165) -/

/-- The reply to DEVICE-RESTART goes first (R165): on a fabric link in service ahead of what ends its service, on the
service port in its order. -/
def State.replyFirst (s : State) : State :=
  match s.management.executing with
  | none => s
  | some e =>
    match e.request.port with
    | .service => (s.sendReply e.request .done [] []).serveOut
    | .fabric j =>
      if (s.link j).hold.service.lanesUp then
        s.toFabric j fun x => { x with urgent := x.urgent ++ [.reply (s.replyFrame e.request .done [] [])] }
      else s

/-- The counters are set to 0 and the slots emptied, then every pause is released and every link flushed (R122, R165). -/
def State.restartTraffic (s : State) : State :=
  let zeroed := { s with slotA := none, slotB := none }.forEach
    (fun j => State.updCounters j fun _ => zeroCounters) allLinks
  let released := zeroed.forEach State.releaseLink allLinks
  let off := released.forEach State.makeOff allLinks
  off.forEach (State.flushLink .flushed) allLinks

/-- A link's restart values; its counters, what it is sending toward the switch and its last probe stay (sections 5.2, 6.1,
6.7, 7.1, 8.2, 9.1; log 22). -/
def Link.restarted (g : Settings) (active : Bool) (l : Link) : Link :=
  { l with
    engine := resetEngine (if active then .down else .inactive)
    penalty := 0
    suppressed := false
    hold := resetHold
    park := resetPark
    meter := stoppedMeter
    discardMark := false
    fabricSide := ({ l.fabricSide with replies := [], forwards := [] } : FabricEgress).begin g false
    moduleSide := idleModuleSide }

/-- A cage's restart values; its layout, alert enable and working copy are kept (R1, sections 1.1 and 3.1). -/
def Cage.restarted (now : Moment) (seatingTime : Nat) (m : Cage) : Cage :=
  { resetCage now seatingTime m.present m.alert with
    workingCopy := m.workingCopy
    fabricLayout := m.fabricLayout
    alertEnable := m.alertEnable }

/-- The restart, as one change (R165): the table, the sets, the configuration and recovery memory are kept, but that the
held mark of a cage found empty is cleared (R59). -/
def State.restart (s : State) : State :=
  let t := s.restartTraffic
  { t with
    raised := []
    cages := Bank.tabulate fun c => (t.cages.get c).restarted t.now t.settings.seatingTime
    controllers := Bank.fill 4 resetController
    search := resetSearch
    memory := { t.memory with held := Bank.tabulate fun c => t.memory.held.get c && (t.cages.get c).present }
    links := Bank.tabulate fun j => (t.links.get j).restarted t.settings (t.isActive j)
    tickTimer := t.inMs t.settings.decayTick
    engaged := false
    poolFree := poolSize
    poolLow := false
    management := resetManagement
    notices := { t.notices with entries := [], gapTimer := none }
    channels := Bank.fill 4 resetChannel }

/-- DEVICE_RESTART (R165). -/
def execDeviceRestart (q : Requester) (s : State) : Result := serve (.deviceRestart q) (fun t => t.replyFirst.restart) s

end Sys2Proof.Machine
end

