-- ==== Sys2Proof/Machine/ConfigRequests.lean ====
section
/-! DEFINITION. SET-CONFIG, item by item (R163 and the owning rules of section 10.4). The value stands at offset 2 of the
request body. -/

namespace Sys2Proof.Machine

/-! ### How a value is taken (0.7, R163) -/

/-- The value's offset in a SET-CONFIG body, after the item code and the index (R168). -/
def valueOffset : Nat := 2

/-- An item whose encoding cannot leave its range: taken and answered DONE. -/
def State.takeItem (f : Settings → Settings) (s : State) : State := (s.updSettings f).respond .done

/-- An item that is clamped to its range: answered ADJUSTED where it was, and DONE where it was not. -/
def State.takeClamped (low high value : Nat) (f : Nat → Settings → Settings) (s : State) : State :=
  (s.updSettings (f (clamp low high value))).respondTaken (!inRange low high value) valueOffset

/-- A request refused by a check of its arguments. -/
def State.refuse (s : State) : State := s.respond .badArgument

/-- A value of one bit, "bit 0" (section 10.4). -/
def bitZero (value : Byte) : Bool := value.getLsbD 0

/-! ### Chapter 1 (R6) -/

/-- SEATING_TIME, item 01h (R6). -/
def execSeatingTime (q : Requester) (value : BitVec 16) (s : State) : Result :=
  serve (.seatingTime q value) (State.takeClamped 50 2000 value.toNat fun n g => { g with seatingTime := n }) s

/-- MANAGEMENT_READY_TIME, item 02h (R6). -/
def execManagementReadyTime (q : Requester) (value : BitVec 16) (s : State) : Result :=
  serve (.managementReadyTime q value)
    (State.takeClamped 0 2000 value.toNat fun n g => { g with managementReadyTime := n }) s

/-- The four items of an identity read list: page, offset (section 10.4). -/
def readListOf (b : List Byte) : List (Byte × Byte) :=
  [(byteAt b 0, byteAt b 1), (byteAt b 2, byteAt b 3), (byteAt b 4, byteAt b 5), (byteAt b 6, byteAt b 7)]

/-- IDENTITY_READ_LIST, item 03h (R6): taken whole. -/
def execIdentityReadList (q : Requester) (value : List Byte) (s : State) : Result :=
  serve (.identityReadList q value) (State.takeItem fun g => { g with identityReadList := readListOf value }) s

/-- The largest offset of the serial location (R6). -/
def serialOffsetLimit : Nat := 240

/-- SERIAL_LOCATION, item 04h (R6). -/
def execSerialLocation (q : Requester) (page offset : Byte) (s : State) : Result :=
  serve (.serialLocation q page offset) (fun t =>
    if serialOffsetLimit < offset.toNat then t.refuse
    else t.takeItem fun g => { g with serialLocation := (page, offset) }) s

/-- PAGE_SELECT_LOCATION, item 05h (R6, R10): every page record becomes unknown. -/
def execPageSelectLocation (q : Requester) (value : Byte) (s : State) : Result :=
  serve (.pageSelectLocation q value) (fun t =>
    (t.forEach State.forgetLocation allCages).takeItem fun g => { g with pageSelectLocation := value }) s

/-! ### Chapter 3 (R44) -/

/-- The cage states in which a fabric layout is taken (R44). -/
def CageMode.takesLayout : CageMode → Bool
  | .absent | .seating | .waitEngage | .waking | .identifying | .profiling | .profileWait | .failed => true
  | .powering | .serving | .tripped | .forcedOff => false

/-- A cage takes a fabric layout, and its four link engines the new slots (R44, R77), in the order of their slots, ascending:
the manual gives none (DESIGN CHOICE, log 28). -/
def State.setLayout (c : CageId) (l : Layout) (s : State) : State :=
  (s.updCage c fun m => { m with fabricLayout := l }).forEach (State.relayout (s.cage c).fabricLayout l) (linksOf c)

/-- FABRIC_LAYOUT, item 06h (R44, R77). -/
def execFabricLayout (q : Requester) (cage value : Byte) (s : State) : Result :=
  serve (.fabricLayout q cage value) (fun t =>
    let c : CageId := indexOf 16 cage.toNat
    match layoutOfCode value.toNat with
    | none => t.refuse
    | some l =>
      if 15 < cage.toNat then t.refuse
      else if (t.cage c).mode.takesLayout then (t.setLayout c l).respond .done
      else t.respond .wrongState) s

/-- ALERT_ENABLE, item 07h (R44). -/
def execAlertEnable (q : Requester) (cage value : Byte) (s : State) : Result :=
  serve (.alertEnable q cage value) (fun t =>
    if 15 < cage.toNat then t.refuse
    else (t.updCage (indexOf 16 cage.toNat) fun m => { m with alertEnable := bitZero value }).respond .done) s

/-! ### Chapter 5 (R76) -/

/-- LOCK_LOSS_CONFIRM_TIME, item 08h (R76). -/
def execLockLossConfirmTime (q : Requester) (value : BitVec 16) (s : State) : Result :=
  serve (.lockLossConfirmTime q value)
    (State.takeClamped 0 10000 value.toNat fun n g => { g with lockLossConfirmTime := n }) s

/-! ### Chapter 6 (R106) -/

/-- LOSS_INCREMENT, item 10h (R106). -/
def execLossIncrement (q : Requester) (value : BitVec 16) (s : State) : Result :=
  serve (.lossIncrement q value) (State.takeItem fun g => { g with lossIncrement := value.toNat }) s

/-- REMOVAL_INCREMENT, item 11h (R106). -/
def execRemovalIncrement (q : Requester) (value : BitVec 16) (s : State) : Result :=
  serve (.removalIncrement q value) (State.takeItem fun g => { g with removalIncrement := value.toNat }) s

/-- Every penalty above a ceiling is lowered to it (R106). -/
def State.lowerPenalties (ceiling : Nat) (s : State) : State :=
  s.forEach (fun j => State.updLink j fun l => { l with penalty := min ceiling l.penalty }) allLinks

/-- CEILING, item 12h (R106). -/
def execCeiling (q : Requester) (value : BitVec 16) (s : State) : Result :=
  serve (.ceiling q value) (fun t =>
    (t.lowerPenalties value.toNat).takeItem fun g => { g with ceiling := value.toNat }) s

/-- SUPPRESS_THRESHOLD, item 13h (R106). -/
def execSuppressThreshold (q : Requester) (value : BitVec 16) (s : State) : Result :=
  serve (.suppressThreshold q value) (fun t =>
    if value.toNat = 0 || value.toNat ≤ t.settings.reuseThreshold then t.refuse
    else t.takeItem fun g => { g with suppressThreshold := value.toNat }) s

/-- REUSE_THRESHOLD, item 14h (R106). -/
def execReuseThreshold (q : Requester) (value : BitVec 16) (s : State) : Result :=
  serve (.reuseThreshold q value) (fun t =>
    if value.toNat = 0 || t.settings.suppressThreshold ≤ value.toNat then t.refuse
    else t.takeItem fun g => { g with reuseThreshold := value.toNat }) s

/-- DECAY_FACTOR, item 15h (R106). -/
def execDecayFactor (q : Requester) (value : BitVec 16) (s : State) : Result :=
  serve (.decayFactor q value) (State.takeItem fun g => { g with decayFactor := value.toNat }) s

/-- DECAY_TICK, item 16h (R106): used from the next start of the tick timer. -/
def execDecayTick (q : Requester) (value : BitVec 16) (s : State) : Result :=
  serve (.decayTick q value) (State.takeClamped 10 10000 value.toNat fun n g => { g with decayTick := n }) s

/-! ### Chapter 7 (R123) -/

/-- PAUSABLE, item 18h (R123, R126): turned off, the class is released on every link. -/
def execPausable (q : Requester) (cls value : Byte) (s : State) : Result :=
  serve (.pausable q cls value) (fun t =>
    let k : ClassId := indexOf 4 cls.toNat
    if 3 < cls.toNat then t.refuse
    else
      let u := if bitZero value then t else t.forEach (fun j => State.releaseClass j k) allLinks
      u.takeItem fun g => { g with pausable := g.pausable.set k (bitZero value) }) s

/-- PAUSE_TIME, item 19h (R123). -/
def execPauseTime (q : Requester) (value : BitVec 16) (s : State) : Result :=
  serve (.pauseTime q value) (State.takeClamped 1 65535 value.toNat fun n g => { g with pauseTime := n }) s

/-- The classes of a link in HOLD that are released as pause-on-hold is turned off (R123), class 0 first (DESIGN CHOICE,
log 28). -/
def State.releaseHeld (j : LinkId) (s : State) : State :=
  if (s.link j).hold.service = .hold then s.forEach (State.releaseIfLow j) allClasses else s

/-- PAUSE_ON_HOLD, item 1Ah (R123). -/
def execPauseOnHold (q : Requester) (value : Byte) (s : State) : Result :=
  serve (.pauseOnHold q value) (fun t =>
    let u := if t.settings.pauseOnHold && !bitZero value then t.forEach State.releaseHeld allLinks else t
    u.takeItem fun g => { g with pauseOnHold := bitZero value }) s

/-! ### Chapter 8 (R131, R135) -/

/-- DSCP_MAP_ENABLE, item 20h (R131). -/
def execDscpMapEnable (q : Requester) (value : Byte) (s : State) : Result :=
  serve (.dscpMapEnable q value) (State.takeItem fun g => { g with dscpMapEnable := bitZero value }) s

/-- DSCP_MAP, item 21h (R131): taken whole, the low three bits of each byte. -/
def execDscpMap (q : Requester) (value : List Byte) (s : State) : Result :=
  serve (.dscpMap q value)
    (State.takeItem fun g => { g with dscpMap := Bank.tabulate fun n => indexOf 8 (byteAt value n.val).toNat }) s

/-- DEFAULT_PRIORITY, item 22h (R131): the low three bits. -/
def execDefaultPriority (q : Requester) (value : Byte) (s : State) : Result :=
  serve (.defaultPriority q value) (State.takeItem fun g => { g with defaultPriority := indexOf 8 value.toNat }) s

/-- CLASS_MAP, item 23h (R131): taken whole, the low two bits of each byte. -/
def execClassMap (q : Requester) (value : List Byte) (s : State) : Result :=
  serve (.classMap q value)
    (State.takeItem fun g => { g with classMap := Bank.tabulate fun n => indexOf 4 (byteAt value n.val).toNat }) s

/-- CLASS_LIMIT, item 28h (R135). -/
def execClassLimit (q : Requester) (value : BitVec 16) (s : State) : Result :=
  serve (.classLimit q value) (State.takeClamped 1 8192 value.toNat fun n g => { g with classLimit := n }) s

/-- CRITICAL_LEVEL, item 29h (R135): clamped first, then checked against the resume level. -/
def execCriticalLevel (q : Requester) (value : BitVec 16) (s : State) : Result :=
  serve (.criticalLevel q value) (fun t =>
    if clamp 1 8192 value.toNat ≤ t.settings.resumeLevel then t.refuse
    else t.takeClamped 1 8192 value.toNat fun n g => { g with criticalLevel := n }) s

/-- RESUME_LEVEL, item 2Ah (R135): clamped first, then checked against the critical level. -/
def execResumeLevel (q : Requester) (value : BitVec 16) (s : State) : Result :=
  serve (.resumeLevel q value) (fun t =>
    if t.settings.criticalLevel ≤ clamp 0 8191 value.toNat then t.refuse
    else t.takeClamped 0 8191 value.toNat fun n g => { g with resumeLevel := n }) s

/-- LINK_LIMIT, item 2Bh (R135). -/
def execLinkLimit (q : Requester) (value : BitVec 16) (s : State) : Result :=
  serve (.linkLimit q value) (State.takeClamped 1 8192 value.toNat fun n g => { g with linkLimit := n }) s

/-- POOL_LOW_MARK, item 2Ch (R135): judged at the next change of pool free. -/
def execPoolLowMark (q : Requester) (value : BitVec 16) (s : State) : Result :=
  serve (.poolLowMark q value) (State.takeClamped 0 8192 value.toNat fun n g => { g with poolLowMark := n }) s

/-! ### Chapter 10 (R164) -/

/-- Whether an address is a group address: the lowest bit of its first byte (R164). -/
def isGroup (a : MacAddress) : Bool := a.getLsbD 40

/-- MANAGEMENT_ADDRESS, item 30h (R164): the reply carries the new address as its source. -/
def execManagementAddress (q : Requester) (value : MacAddress) (s : State) : Result :=
  serve (.managementAddress q value) (fun t =>
    if isGroup value then t.refuse else t.takeItem fun g => { g with managementAddress := value }) s

/-- The type values that are refused (R164). -/
def typeRefused (value : BitVec 16) : Bool :=
  value.toNat < 0x0600 || value = 0x0800 || value = 0x86DD || value = 0x8100

/-- MANAGEMENT_TYPE_VALUE, item 31h (R164): the reply carries the new type value. -/
def execManagementTypeValue (q : Requester) (value : BitVec 16) (s : State) : Result :=
  serve (.managementTypeValue q value) (fun t =>
    if typeRefused value then t.refuse else t.takeItem fun g => { g with managementType := value }) s

/-! ### Chapter 11 (R169, R174) -/

/-- A kind's level becomes 0: its pending entries are removed, and for DISCARD every mark is cleared (R174). -/
def State.silence (k : EventKind) (s : State) : State :=
  let t := s.updNotices fun n => { n with entries := n.entries.filter fun x => x.kind ≠ k }
  if k = .discard then
    t.forEach (fun j => State.updLink j fun l => { l with discardMark := false }) allLinks
  else t

/-- NOTICE_LEVEL, item 38h (R169, R174). -/
def execNoticeLevel (q : Requester) (kind value : Byte) (s : State) : Result :=
  serve (.noticeLevel q kind value) (fun t =>
    match eventKindOfCode kind.toNat with
    | none => t.refuse
    | some k =>
      let n := clamp 0 6 value.toNat
      let u := t.updNotices fun u => { u with levels := u.levels.set k.place n }
      (if n = 0 then u.silence k else u).respondTaken (!inRange 0 6 value.toNat) valueOffset) s

/-- NOTICE_GAP, item 39h (R169, R174): used from the next start of the gap timer. -/
def execNoticeGap (q : Requester) (value : Byte) (s : State) : Result :=
  serve (.noticeGap q value) (State.takeItem fun g => { g with noticeGap := value.toNat }) s

end Sys2Proof.Machine
end

