-- ==== Sys2Proof/Machine/LinkEvents.lean ====
section
/-! DEFINITION. The link engines' events: convergence, lock, windows, probes; the damping tick; the hold timer; the pause
refresh. -/

namespace Sys2Proof.Machine

/-- A lane reports converged in ADAPTING; with every lane of the slot in the set the link enters ALIGNING. A report that
belongs to an attempt that has ended, as its bring-up epoch shows, is ignored (R81). -/
def State.converge (j : LinkId) (r : Convergence) (s : State) : State :=
  let e := (s.link j).engine
  if e.recovery = .adapting && e.epoch = r.attempt && (s.moduleLanes j).contains r.lane then
    let t := s.updEngine j fun e => { e with converged := e.converged.set r.lane true }
    if (t.moduleLanes j).all (t.link j).engine.converged.get then t.enterAligning j else t
  else s

/-- LANE_CONVERGED (R81): a report of an attempt that has ended is ignored, though a new attempt runs. -/
def execLaneConverged (j : LinkId) (r : Convergence) (s : State) : Result :=
  (s.converge j r).answer

/-- ADAPTATION_TIMER_EXPIRY (R81, R85). -/
def execAdaptationTimerExpiry (j : LinkId) (s : State) : Result :=
  (s.onExpiry (s.link j).engine.adaptationTimer fun t => t.attemptFailed j .adaptTimeout).answer

/-- Whether the skew is to be measured: in ALIGNING, once in the attempt, with every lane locked (R83). -/
def State.skewDue (s : State) (j : LinkId) : Bool :=
  (s.link j).engine.recovery = .aligning && !(s.link j).engine.skewAccepted && s.allMarkers j

/-- A lane reaches or regains marker lock, with a fresh offset (R83, R88). -/
def State.lockMarker (j : LinkId) (n : LaneId) (offset : Nat) (s : State) : State :=
  let e := (s.link j).engine
  if e.recovery.watchesLock && (s.moduleLanes j).contains n && !e.markerLock.get n then
    let t := (s.updEngine j fun e =>
      { e with
        markerLock := e.markerLock.set n true
        hadMarker := e.hadMarker.set n true
        markerOffset := e.markerOffset.set n offset }).judgeWhole j
    if t.skewDue j then t.measureSkew j else t
  else s

/-- MARKER_LOCK (R83, R88). -/
def execMarkerLock (j : LinkId) (n : LaneId) (offset : Nat) (s : State) : Result := (s.lockMarker j n offset).answer

/-- The decoder reaches FEC lock in ALIGNING, once the skew is accepted, or regains it later; it needs every lane's marker
lock (R84, R88). -/
def State.lockFec (j : LinkId) (s : State) : State :=
  let e := (s.link j).engine
  if !s.allMarkers j then s
  else if e.recovery = .aligning then if e.skewAccepted then s.enterQualifying j else s
  else if e.recovery.watchesLock && e.fecReached then
    (s.updEngine j fun e => { e with fecLock := true }).judgeWhole j
  else s

/-- FEC_LOCK (R84, R88). -/
def execFecLock (j : LinkId) (s : State) : Result := (s.lockFec j).answer

/-- ALIGNMENT_TIMER_EXPIRY (R84, R85). -/
def execAlignmentTimerExpiry (j : LinkId) (s : State) : Result :=
  (s.onExpiry (s.link j).engine.alignmentTimer fun t => t.attemptFailed j .alignTimeout).answer

/-- Lock is lost: a lane that held marker lock loses it, and with it FEC lock; or the decoder loses FEC lock
(R84, R88; log 6). -/
def State.loseLock (j : LinkId) (what : LockLoss) (s : State) : State :=
  let e := (s.link j).engine
  if !e.recovery.watchesLock then s
  else
    match what with
    | .marker n =>
      if e.markerLock.get n then
        (s.updEngine j fun e => { e with markerLock := e.markerLock.set n false, fecLock := false }).lockLost j
      else s
    | .fec => if e.fecLock then (s.updEngine j fun e => { e with fecLock := false }).lockLost j else s

/-- LOSS_OF_LOCK (R88). -/
def execLossOfLock (j : LinkId) (what : LockLoss) (s : State) : Result := (s.loseLock j what).answer

/-- LOCK_LOSS_TIMER_EXPIRY (R89). -/
def execLockLossTimerExpiry (j : LinkId) (s : State) : Result :=
  (s.onExpiry (s.link j).engine.lockLossTimer fun t =>
    (t.updEngine j fun e => { e with lockLossTimer := none }).confirmLoss j).answer

/-- WINDOW_TIMER_EXPIRY (R92 to R98). -/
def execWindowTimerExpiry (j : LinkId) (s : State) : Result :=
  (s.onExpiry (s.link j).engine.windowTimer (State.windowEnd j)).answer

/-- The next probe is sent, and the interval starts again (R99). -/
def State.probeAgain (j : LinkId) (s : State) : State :=
  (s.updEngine j fun e => { e with probeTimer := some (s.inMs probeInterval) }).sendProbe j

/-- PROBE_INTERVAL_EXPIRY (R99). -/
def execProbeIntervalExpiry (j : LinkId) (s : State) : Result :=
  (s.onExpiry (s.link j).engine.probeTimer (State.probeAgain j)).answer

/-- A codeword added to the counts (R92). -/
def LinkEngine.counted (corrected : Nat) (uncorrectable : Bool) (e : LinkEngine) : LinkEngine :=
  { e with
    codewords := saturate (e.codewords + 1)
    corrected := saturate (e.corrected + corrected)
    uncorrectable := saturate (e.uncorrectable + uncorrectable.toNat) }

/-- CODEWORD_DECODED (R92): the decoder counts while the window timer runs. -/
def execCodewordDecoded (j : LinkId) (corrected : Nat) (uncorrectable : Bool) (s : State) : Result :=
  if (s.link j).engine.windowTimer.isSome then (s.updEngine j (LinkEngine.counted corrected uncorrectable)).answer
  else s.answer

/-- Every penalty decays (R108). -/
def State.decayAll (s : State) : State :=
  s.forEach (fun j => State.updLink j fun l => { l with penalty := decayed s.settings.decayFactor l.penalty }) allLinks

/-- A suppressed link whose penalty is below U is reused, and admitted if it is in DAMPED (R108). -/
def State.reuse (j : LinkId) (s : State) : State :=
  let l := s.link j
  if l.suppressed && l.penalty < s.settings.reuseThreshold then
    let t := (s.updLink j fun l => { l with suppressed := false }).raise .reused j.val
    if l.engine.recovery = .damped then t.admitLink j l.engine.grade true else t
  else s

/-- The damping tick (R108): the timer restarts, every penalty decays, then the links are judged, link 0 first (DESIGN
CHOICE, log 28). -/
def State.dampingTick (s : State) : State :=
  ({ s with tickTimer := s.inMs s.settings.decayTick }.decayAll).forEach State.reuse allLinks

/-- DECAY_TICK_EXPIRY (R108). -/
def execDecayTickExpiry (s : State) : Result := ((s.reach s.tickTimer).dampingTick).answer

/-- The hold ends unsuccessfully (R117). -/
def State.holdExpired (j : LinkId) (s : State) : State := (s.shed j).raise .holdExpired j.val

/-- HOLD_TIMER_EXPIRY (R117). -/
def execHoldTimerExpiry (j : LinkId) (s : State) : Result :=
  (s.onExpiry (s.link j).hold.holdTimer (State.holdExpired j)).answer

/-- PAUSE_REFRESH_EXPIRY (R125): the class's pause frame is sent again and its timer restarts. -/
def execPauseRefreshExpiry (j : LinkId) (k : ClassId) (s : State) : Result :=
  (s.onExpiry ((s.link j).hold.paused.get k) (State.pauseClass j k)).answer

end Sys2Proof.Machine
end

