-- ==== Sys2Proof/Machine/LinkRequests.lean ====
section
/-! DEFINITION. The requests on one link: EXTEND-HOLD (R118), FORCE-ADMIT (R111), ACCEPT-PEER (R104), LINK-RETRY (R87),
CLEAR-PENALTY (R110), FLUSH-PARK (R156). -/

namespace Sys2Proof.Machine

/-- A request on a link: a link id above 63 is refused, and otherwise `f` answers it. -/
def State.onLink (link : Byte) (f : LinkId → State → State) (s : State) : State :=
  if 63 < link.toNat then s.respond .badArgument else f (indexOf 64 link.toNat) s

/-- The longest remaining time of a hold, in milliseconds (R118). -/
def holdLimit : Nat := 2000

/-- The extension's offset in an EXTEND-HOLD body (R168). -/
def extensionOffset : Nat := 1

/-- The extension added to a running hold, with the remaining time limited to 2,000 ms (R118). -/
def State.lengthenHold (j : LinkId) (extension : Nat) (s : State) : State :=
  let longest := s.inMs holdLimit
  let clamped := !inRange 1 holdLimit extension
  let by_ := clamp 1 holdLimit extension * millisecond
  let limited := (s.link j).hold.holdTimer.any fun m => decide (longest < m + by_)
  let t := s.updHold j fun h => { h with holdTimer := h.holdTimer.map fun m => min longest (m + by_) }
  t.respond (if clamped || limited then .adjusted else .done) (if clamped then [extensionOffset] else [])
    (t.timerBytes (t.link j).hold.holdTimer)

/-- EXTEND-HOLD on a link, by its service state (R118). -/
def State.extendHold (extension : Nat) (j : LinkId) (s : State) : State :=
  match (s.link j).hold.service with
  | .hold => s.lengthenHold j extension
  | .shed => s.respond .tooLate
  | .pass | .replay | .off => s.respond .wrongState

/-- EXTEND_HOLD (R118). -/
def execExtendHold (q : Requester) (link : Byte) (extension : BitVec 16) (s : State) : Result :=
  serve (.extendHold q link extension) (State.onLink link (State.extendHold extension.toNat)) s

/-- FORCE-ADMIT on a link, by its recovery state (R111). -/
def State.forceAdmit (j : LinkId) (s : State) : State :=
  match (s.link j).engine.recovery with
  | .qualifying | .peerHold | .damped => (s.admitLink j .full false).respond .done
  | .inactive | .down | .adapting | .aligning | .up | .failed => s.respond .wrongState

/-- FORCE_ADMIT (R111). -/
def execForceAdmit (q : Requester) (link : Byte) (s : State) : Result :=
  serve (.forceAdmit q link) (State.onLink link State.forceAdmit) s

/-- ACCEPT-PEER on a link (R104): the reply carries the record as it is left. -/
def State.acceptPeer (j : LinkId) (s : State) : State :=
  let e := (s.link j).engine
  let heard := e.heardPeer.map HeardPeer.identity
  if e.recovery = .peerHold then ((s.setPeer j heard).proceed j).respond .done [] (peerBytes heard)
  else s.respond .wrongState

/-- ACCEPT_PEER (R104). -/
def execAcceptPeer (q : Requester) (link : Byte) (s : State) : Result :=
  serve (.acceptPeer q link) (State.onLink link State.acceptPeer) s

/-- LINK-RETRY on a link (R87). -/
def State.retryLink (j : LinkId) (s : State) : State :=
  if (s.link j).engine.recovery = .failed then (s.enterAdapting j none 0).respond .done else s.respond .wrongState

/-- LINK_RETRY (R87). -/
def execLinkRetry (q : Requester) (link : Byte) (s : State) : Result :=
  serve (.linkRetry q link) (State.onLink link State.retryLink) s

/-- CLEAR-PENALTY on a link (R110). -/
def State.clearPenalty (j : LinkId) (s : State) : State :=
  let t := s.updLink j fun l => { l with penalty := 0, suppressed := false }
  (if (s.link j).engine.recovery = .damped then t.admitLink j (s.link j).engine.grade true else t).respond .done

/-- CLEAR_PENALTY (R110). -/
def execClearPenalty (q : Requester) (link : Byte) (s : State) : Result :=
  serve (.clearPenalty q link) (State.onLink link State.clearPenalty) s

/-- FLUSH-PARK on a link: the reply carries the frames discarded and the blocks returned, and an UNMETERED replay ends
(R154, R156). -/
def State.flushPark (j : LinkId) (s : State) : State :=
  let p := (s.link j).park
  ((s.flushLink .flushed j).endReplay j).respond .done [] (bytesOf 2 p.frames ++ bytesOf 2 p.occupancy)

/-- FLUSH_PARK (R156). -/
def execFlushPark (q : Requester) (link : Byte) (s : State) : Result :=
  serve (.flushPark q link) (State.onLink link State.flushPark) s

end Sys2Proof.Machine
end

