-- ==== Sys2Proof/Machine/ReadRequests.lean ====
section
/-! DEFINITION. The requests that read: READ-STATE, READ-COUNTERS, READ-DISCARDS, SET-READ, READ-MEMORY; and FORGET, which
reports what it removed. -/

namespace Sys2Proof.Machine

/-- READ_STATE_DEVICE (R162). -/
def execReadStateDevice (q : Requester) (s : State) : Result :=
  serve (.readStateDevice q) (fun t => t.respond .done [] t.deviceBytes) s

/-- READ_STATE_CAGE (R162). -/
def execReadStateCage (q : Requester) (cage : Byte) (s : State) : Result :=
  serve (.readStateCage q cage) (fun t =>
    if 15 < cage.toNat then t.respond .badArgument else t.respond .done [] (t.cageBytes (indexOf 16 cage.toNat))) s

/-- READ_STATE_LINK (R162). -/
def execReadStateLink (q : Requester) (link : Byte) (s : State) : Result :=
  serve (.readStateLink q link) (fun t =>
    if 63 < link.toNat then t.respond .badArgument else t.respond .done [] (t.linkBytes (indexOf 64 link.toNat))) s

/-- The links a READ-COUNTERS names: one, or every one for FFh (R166, R168). -/
def linksNamed (link : Byte) : Option (List LinkId) :=
  if link = 0xFF then some allLinks else if link.toNat < 64 then some [indexOf 64 link.toNat] else none

/-- The counters of links, each after its link id (R168). -/
def State.counterBytes (s : State) (js : List LinkId) : List Byte :=
  js.flatMap fun j => byteOf j.val :: (s.link j).counters.bytes

/-- READ_COUNTERS (R166): every counter returned is set to 0. -/
def execReadCounters (q : Requester) (link : Byte) (s : State) : Result :=
  serve (.readCounters q link) (fun t =>
    match linksNamed link with
    | none => t.respond .badArgument
    | some js =>
      (t.forEach (fun j => State.updCounters j fun _ => zeroCounters) js).respond .done [] (t.counterBytes js)) s

/-- READ_DISCARDS (R167): both slots are returned and emptied. -/
def execReadDiscards (q : Requester) (s : State) : Result :=
  serve (.readDiscards q) (fun t =>
    { t with slotA := none, slotB := none }.respond .done [] (discardBytes t.slotA ++ discardBytes t.slotB)) s

/-- SET_READ (R38). -/
def execSetRead (q : Requester) (set : Byte) (s : State) : Result :=
  serve (.setRead q set) (fun t =>
    if 31 < set.toNat then t.respond .badArgument
    else t.respond .done [] (t.sets.get (indexOf 32 set.toNat)).bytes) s

/-- The CAGE-RECORDS part (R73, R168). -/
def RecoveryMemory.positionsBytes (m : RecoveryMemory) : List Byte :=
  allCages.flatMap fun c => positionBytes (m.held.get c) (m.positions.get c)

/-- The CACHE part: the number of records, then the records head to tail (R73, R168). The manual gives the number no width:
the model sends one byte (DESIGN CHOICE, log 27). -/
def RecoveryMemory.cacheBytes (m : RecoveryMemory) : List Byte :=
  byteOf m.cache.length :: m.cache.flatMap CageRecord.bytes

/-- The PEER-RECORDS part (R73, R168). -/
def RecoveryMemory.peersBytes (m : RecoveryMemory) : List Byte := m.peers.items.flatMap peerBytes

/-- READ_MEMORY_CAGE_RECORDS (R73). -/
def execReadMemoryCageRecords (q : Requester) (s : State) : Result :=
  serve (.readMemoryCageRecords q) (fun t => t.respond .done [] t.memory.positionsBytes) s

/-- READ_MEMORY_CACHE (R73). -/
def execReadMemoryCache (q : Requester) (s : State) : Result :=
  serve (.readMemoryCache q) (fun t => t.respond .done [] t.memory.cacheBytes) s

/-- READ_MEMORY_PEER_RECORDS (R73). -/
def execReadMemoryPeerRecords (q : Requester) (s : State) : Result :=
  serve (.readMemoryPeerRecords q) (fun t => t.respond .done [] t.memory.peersBytes) s

/-- FORGET answered with the number of records removed (R72). -/
def State.forget (f : RecoveryMemory → RecoveryMemory) (removed : Nat) (s : State) : State :=
  (s.updMemory f).respond .done [] [byteOf removed]

/-- FORGET_CAGE (R72). -/
def execForgetCage (q : Requester) (number : BitVec 32) (s : State) : Result :=
  serve (.forgetCage q number) (fun t =>
    let c : CageId := indexOf 16 number.toNat
    if 15 < number.toNat then t.respond .badArgument
    else t.forget (RecoveryMemory.forgetPosition c) (t.memory.inPosition c)) s

/-- FORGET_DIGEST (R72). -/
def execForgetDigest (q : Requester) (digest : BitVec 32) (s : State) : Result :=
  serve (.forgetDigest q digest) (fun t =>
    t.forget (RecoveryMemory.forgetDigest digest) (t.memory.countDigest digest)) s

/-- FORGET_PEER (R72). -/
def execForgetPeer (q : Requester) (number : BitVec 32) (s : State) : Result :=
  serve (.forgetPeer q number) (fun t =>
    let j : LinkId := indexOf 64 number.toNat
    if 63 < number.toNat then t.respond .badArgument
    else t.forget (fun m => { m with peers := m.peers.set j none }) (t.memory.peers.get j).isSome.toNat) s

/-- FORGET_ALL (R72). -/
def execForgetAll (q : Requester) (s : State) : Result :=
  serve (.forgetAll q) (fun t => t.forget (fun _ => RecoveryMemory.empty) t.memory.countAll) s

end Sys2Proof.Machine
end

