-- ==== Sys2Proof/Machine/SnapRequests.lean ====
section
/-! DEFINITION. The requests on a snapshot channel (chapter 12). -/

namespace Sys2Proof.Machine

/-- The source byte for ANY (R175). -/
def anySource : Byte := 0xFF

/-- The mode of a code: 0 SINGLE, 1 SERIES (R175). -/
def channelModeOf (mode : Byte) : Option ChannelMode :=
  if mode = 0 then some .single else if mode = 1 then some .series else none

/-- The trigger a SNAP-ARM names, if its event code and source are within their ranges (R175). -/
def triggerOf (kind source : Byte) : Option Trigger :=
  match eventKindOfCode kind.toNat with
  | none => none
  | some k =>
    if source = anySource then some ⟨k, none⟩
    else if source.toNat < k.sourceRange.size then some ⟨k, some source.toNat⟩
    else none

/-- Whether a mode may have a trigger: a series needs a link (R175). -/
def Trigger.allows (t : Trigger) (m : ChannelMode) : Bool := m = .single || t.kind.sourceRange = .link

/-- A channel armed (R175): its slot and superseded count are left. -/
def Channel.armedWith (t : Trigger) (m : ChannelMode) (count : Nat) (c : Channel) : Channel :=
  { c with armed := true, trigger := some t, mode := m, remaining := count, seriesLink := none, sequence := 0 }

/-- The count's offset in a SNAP-ARM body (R168). -/
def countOffset : Nat := 3

/-- SNAP_ARM (R175): the first failing check gives the outcome. -/
def execSnapArm (q : Requester) (channel kind source count mode : Byte) (s : State) : Result :=
  serve (.snapArm q channel kind source count mode) (fun t =>
    let h : ChannelId := indexOf 4 channel.toNat
    match triggerOf kind source, channelModeOf mode with
    | some g, some m =>
      if 3 < channel.toNat || !g.allows m then t.respond .badArgument
      else if (t.channel h).armed then t.respond .wrongState
      else (t.updChannel h (Channel.armedWith g m (max 1 count.toNat))).respondTaken (count = 0) countOffset
    | _, _ => t.respond .badArgument) s

/-- Whether a SNAP-START may name a source for a trigger (R180). -/
def Trigger.admits (t : Trigger) (source : Nat) : Bool :=
  source < t.kind.sourceRange.size && (t.source = none || t.source = some source)

/-- SNAP-START's claim (R180): a channel that disarms raises SNAPSHOT-DONE (R178). -/
def State.startChannel (h : ChannelId) (kind : EventKind) (source : Nat) (s : State) : State :=
  match s.claim h kind source with
  | (t, none) => t
  | (t, some done) => t.signal (.event done)

/-- SNAP_START (R180). -/
def execSnapStart (q : Requester) (channel source : Byte) (s : State) : Result :=
  serve (.snapStart q channel source) (fun t =>
    let h : ChannelId := indexOf 4 channel.toNat
    if 3 < channel.toNat then t.respond .badArgument
    else if !(t.channel h).armed then t.respond .wrongState
    else
      match (t.channel h).trigger with
      | none => t.respond .badArgument
      | some g =>
        if g.admits source.toNat then (t.startChannel h g.kind source.toNat).respond .done
        else t.respond .badArgument) s

/-- A channel disarmed, its slot emptied without sending (R180). -/
def Channel.disarmed (c : Channel) : Channel :=
  { c with
    armed := false, trigger := none, mode := .single, remaining := 0, seriesLink := none, slot := none,
    superseded := 0 }

/-- SNAP_DISARM (R180). -/
def execSnapDisarm (q : Requester) (channel : Byte) (s : State) : Result :=
  serve (.snapDisarm q channel) (fun t =>
    if 3 < channel.toNat then t.respond .badArgument
    else (t.updChannel (indexOf 4 channel.toNat) Channel.disarmed).respond .done) s

end Sys2Proof.Machine
end

