-- ==== Sys2Proof/Machine/TableRequests.lean ====
section
/-! DEFINITION. The requests on the profile table and the parameter sets (chapter 2), and the pass-through on the module
buses (R14). -/

namespace Sys2Proof.Machine

/-! ### The table (R23, R30 to R34) -/

/-- TABLE_EDIT (R23): a search in flight makes the edit pending, and the engine is held. -/
def execTableEdit (q : Requester) (s : State) : Result :=
  serve (.tableEdit q) (fun t =>
    match t.table.mode with
    | .edit => t.respond .done
    | .active =>
      if t.search.inFlight.isSome then (t.updSearch fun u => { u with editPending := true }).holdEngine
      else t.enterEdit.respond .done) s

/-- Changes the entries. -/
def State.setEntries (entries : List ProfileEntry) (s : State) : State :=
  { s with table := { s.table with entries := entries } }

/-- The most entries of the table (R20). -/
def entryLimit : Nat := 256

/-- Whether a key is greater than that of the entry before it, where there is one (R30, R31). -/
def isAbove (key : BitVec 32) (before : Option ProfileEntry) : Bool := before.all fun e => e.key.toNat < key.toNat

/-- Whether a key is less than that of the entry after it, where there is one (R31). -/
def isBelow (key : BitVec 32) (after : Option ProfileEntry) : Bool := after.all fun e => key.toNat < e.key.toNat

/-- TABLE_APPEND (R30): the first failing check gives the outcome. -/
def execTableAppend (q : Requester) (key attr : BitVec 32) (s : State) : Result :=
  serve (.tableAppend q key attr) (fun t =>
    let e := entryOf key attr true
    if t.table.mode = .active then t.respond .wrongState
    else if !e.fieldsGood then t.respond .badArgument
    else if entryLimit ≤ t.table.entries.length then t.respond .full
    else if !isAbove key t.table.entries.getLast? then t.respond .order
    else (t.setEntries (t.table.entries ++ [e])).respond .done) s

/-- The entry before an index. -/
def entryBefore (entries : List ProfileEntry) (i : Nat) : Option ProfileEntry := if i = 0 then none else entries[i - 1]?

/-- TABLE_REPLACE (R31). -/
def execTableReplace (q : Requester) (index : Byte) (key attr : BitVec 32) (s : State) : Result :=
  serve (.tableReplace q index key attr) (fun t =>
    let e := entryOf key attr true
    let i := index.toNat
    let entries := t.table.entries
    if t.table.mode = .active then t.respond .wrongState
    else if entries.length ≤ i || !e.fieldsGood then t.respond .badArgument
    else if !(isAbove key (entryBefore entries i) && isBelow key entries[i + 1]?) then t.respond .order
    else (t.setEntries (entries.set i e)).respond .done) s

/-- TABLE_TRUNCATE (R32). -/
def execTableTruncate (q : Requester) (count : BitVec 16) (s : State) : Result :=
  serve (.tableTruncate q count) (fun t =>
    if t.table.mode = .active then t.respond .wrongState
    else if t.table.entries.length < count.toNat then t.respond .badArgument
    else (t.setEntries (t.table.entries.take count.toNat)).respond .done) s

/-- TABLE_COMMIT (R34): the engine is held while the checksum is computed; its end is COMMIT_CHECKSUM_DONE. -/
def execTableCommit (q : Requester) (checksum : BitVec 32) (s : State) : Result :=
  serve (.tableCommit q checksum) (fun t =>
    if t.table.mode = .active then t.respond .wrongState
    else (t.updManagement fun m => { m with commitView := some t.table.entries }).holdEngine) s

/-- The most entries a TABLE-READ returns (R33). -/
def readLimit : Nat := 64

/-- The number's offset in a TABLE-READ body (R168). -/
def numberOffset : Nat := 2

/-- The reply data of TABLE-READ (R33, R168). -/
def ProfileTable.readBytes (t : ProfileTable) (start number : Nat) : List Byte :=
  byteOf t.mode.code :: (bytesOf 2 t.entries.length ++ faultBytes t.fault
    ++ ((t.entries.drop start).take number).flatMap ProfileEntry.bytes)

/-- TABLE_READ (R33). -/
def execTableRead (q : Requester) (start : BitVec 16) (number : Byte) (s : State) : Result :=
  serve (.tableRead q start number) (fun t =>
    let count := t.table.entries.length
    let i := start.toNat
    let m := number.toNat
    if count < i then t.respond .badArgument
    else if readLimit < m || count < i + m then
      t.respond .adjusted [numberOffset] (t.table.readBytes i (min readLimit (count - i)))
    else t.respond .done [] (t.table.readBytes i m)) s

/-! ### Parameter sets (R37) -/

/-- The faults of a SET-WRITE, as offsets in its body: the set number at 0, the record from 1 (R37, R168). The set number
goes first and the record's faults follow in their order (DESIGN CHOICE, log 27). -/
def setFaults (set : Byte) (r : RawSet) : List Nat := (if 31 < set.toNat then [0] else []) ++ r.faults.map (· + 1)

/-- The clamped fields of a SET-WRITE, as offsets in its body (R37, R168), in record order (DESIGN CHOICE, log 27). -/
def setClamps (p : ParameterSet) : List Nat := (p.clampedFields.filter fun x => !x.2).map fun x => x.1 + 1

/-- SET_WRITE (R37): clamped first, then checked, and taken or refused whole. -/
def execSetWrite (q : Requester) (set : Byte) (contents : List Byte) (s : State) : Result :=
  serve (.setWrite q set contents) (fun t =>
    let r := rawSetOf contents
    let faults := setFaults set r
    let clamps := setClamps r.rest
    if !faults.isEmpty then t.respond .badArgument faults
    else
      { t with sets := t.sets.set (indexOf 32 set.toNat) r.toSet }.respond
        (if clamps.isEmpty then .done else .adjusted) clamps) s

/-! ### Pass-through (R14) -/

/-- How the cage states answer a pass-through: a refusal, or none where it is taken (R14). -/
def CageMode.passThrough : CageMode → Option RequestOutcome
  | .absent | .seating => some .notPresent
  | .waitEngage => some .wrongState
  | .waking | .identifying | .profiling | .profileWait | .powering | .serving | .tripped | .forcedOff | .failed => none

/-- A pass-through is checked and, where it is taken, enters its controller's slot and holds the engine (R14, R161). -/
def State.passThrough (cage page offset length : Byte) (limit : Nat) (kind : BusKind) (data : List Byte) (s : State) :
    State :=
  let c : CageId := indexOf 16 cage.toNat
  if 15 < cage.toNat || !inRange 1 limit length.toNat || 256 < offset.toNat + length.toNat then s.respond .badArgument
  else
    match (s.cage c).mode.passThrough with
    | some o => s.respond o
    | none =>
      s.holdEngine.placePassThrough
        { requester := .passThrough, cage := c, kind := kind, page := page, offset := offset, length := length.toNat,
          data := data.take length.toNat }

/-- MODULE_READ (R14): 1 to 32 bytes. -/
def execModuleRead (q : Requester) (cage page offset length : Byte) (s : State) : Result :=
  serve (.moduleRead q cage page offset length) (State.passThrough cage page offset length 32 .read []) s

/-- MODULE_WRITE (R14): 1 to 8 bytes, the first of the eight the request carries (R168). -/
def execModuleWrite (q : Requester) (cage page offset length : Byte) (data : List Byte) (s : State) : Result :=
  serve (.moduleWrite q cage page offset length data) (State.passThrough cage page offset length 8 .write data) s

end Sys2Proof.Machine
end

