-- ==== Sys2Proof/Machine/TrafficEvents.lean ====
section
/-! DEFINITION. The traffic events: frames from the switch, from the module and on the service port; the egresses becoming
free; token ticks and ramp steps; the notice gap. -/

namespace Sys2Proof.Machine

/-! ### Frames from the switch (R129, R132, R158) -/

/-- A frame with a destination of the management address, on the port it arrived at (R158): a wrong type value or a kind
other than REQUEST is discarded without a count; a request reaches the queue. -/
def State.managementFrame (port : Port) (frame : List Byte) (s : State) : State :=
  if typeOf frame ≠ s.settings.managementType then s
  else if kindOf frame ≠ FrameKind.request.code then s
  else s.arrive (requestIn port frame)

/-- The meter's judgement after an arrival: where the frame joined an empty FIFO, be it one that its own displacements
emptied, or the candidate was displaced (R149). A FIFO of a higher class than the candidate's is empty. `candidate` is the
candidate's class before the arrival, `length` the frames then in the arrival's FIFO, and `admissible` says that the arrival
was within the class limit, without which nothing is displaced (R136): a FIFO that then holds one frame holds the arrival. -/
def State.judgeArrival (j : LinkId) (k : ClassId) (candidate : Option ClassId) (length : Nat) (admissible : Bool)
    (s : State) : State :=
  let joinedEmpty := admissible && (s.fifo j k).length = 1
  let displaced := admissible && candidate = some k && (s.fifo j k).length ≤ length
  if joinedEmpty || displaced then s.judge j else s.endReplay j

/-- A data frame on its link's path, by the service state it finds (R132). -/
def State.dataFrame (j : LinkId) (frame : List Byte) (s : State) : State :=
  let priority := priorityOf s.settings frame
  let k := s.settings.classMap.get priority
  match (s.link j).hold.service with
  | .pass => s.passFrame j frame
  | .hold | .replay =>
    (s.park j k priority frame).judgeArrival j k ((s.candidate j).map (·.1)) (s.fifo j k).length
      (blocksOf frame.length ≤ s.settings.classLimit)
  | .shed | .off => s.discard .shed j (some k) frame.length

/-- The length a discard of an oversize frame carries (R143). -/
def oversizeLength (frame : List Byte) : Nat := min 65535 frame.length

/-- The classifier's examination, in order: oversize, management address, data (R129, R158). -/
def State.classify (j : LinkId) (frame : List Byte) (s : State) : State :=
  if longestFrame < frame.length then s.discard .oversize j none (oversizeLength frame)
  else if destinationOf frame = s.settings.managementAddress then
    if (s.link j).hold.service.lanesUp then s.managementFrame (.fabric j) frame
    else s.discard .shed j none frame.length
  else s.dataFrame j frame

/-- FRAME_FROM_SWITCH (R129): a reception shorter than 64 bytes is no frame, and none arrives on an INACTIVE slot
(log 21). -/
def execFrameFromSwitch (j : LinkId) (frame : List Byte) (s : State) : Result :=
  if frame.length < shortestFrame || (s.link j).engine.recovery = .inactive then s.answer
  else (s.classify j frame).answer

/-! ### Frames from the module (R100, R144) -/

/-- Whether a frame is a probe: the device's management type value and the kind PROBE (R100). -/
def isProbe (g : Settings) (frame : List Byte) : Bool :=
  typeOf frame = g.managementType && kindOf frame = FrameKind.probe.code

/-- The bytes of a probe's body (R168). -/
def probeLength : Nat := 10

/-- What a well-formed probe says of its sender; none for any other (R100). -/
def heardIn (frame : List Byte) : Option HeardPeer :=
  let h := headerOffset frame
  let cage := (byteAt frame (h + 14)).toNat
  let slot := (byteAt frame (h + 15)).toNat
  if byteAt frame h = 1 && (field16 frame (h + 6)).toNat = probeLength && cage < 16 && slot < 4 then
    some { identity := ⟨field48 frame (h + 8), indexOf 16 cage, indexOf 4 slot⟩, epoch := field16 frame (h + 16) }
  else none

/-- A probe is consumed; a well-formed one replaces the heard peer (R100). -/
def State.hearProbe (j : LinkId) (frame : List Byte) (s : State) : State :=
  match heardIn frame with
  | some h => s.updEngine j fun e => { e with heardPeer := some h }
  | none => s

/-- A frame from the module side, examined in order (R144). -/
def State.moduleFrame (j : LinkId) (frame : List Byte) (s : State) : State :=
  if longestFrame < frame.length then s.discard .oversize j none (oversizeLength frame)
  else if isProbe s.settings frame then s.hearProbe j frame
  else
    match (s.link j).hold.service with
    | .pass | .replay => s.forwardFrame j frame
    | .hold | .shed | .off => s.discard .notAdmitted j none frame.length

/-- FRAME_FROM_MODULE (R144): frames are received from the entry to QUALIFYING onward. -/
def execFrameFromModule (j : LinkId) (frame : List Byte) (s : State) : Result :=
  if frame.length < shortestFrame || !(s.link j).engine.recovery.runsWindows then s.answer
  else (s.moduleFrame j frame).answer

/-! ### Egresses, ticks and steps (R113, R148, R149, R152) -/

/-- FABRIC_EGRESS_FREE (R113): the frame sent has left, and the next begins. -/
def execFabricEgressFree (j : LinkId) (s : State) : Result :=
  if (s.link j).fabricSide.sending.isSome then (s.toFabric j fun e => { e with sending := none }).answer else s.answer

/-- The whole microsecond of a meter's next tick: the one after its last, or the present one where that is past it
(log 4). -/
def State.nextTick (s : State) (j : LinkId) : Nat := max s.microseconds ((s.link j).meter.lastTick + 1)

/-- A METERED meter's token tick (R148). -/
def State.tick (j : LinkId) (s : State) : State :=
  let u := s.nextTick j
  ((s.reach (u * microsecond)).updMeter j fun m =>
    { m with tokens := min m.burst (m.tokens + m.rate), lastTick := u }).judge j

/-- TOKEN_TICK (R148, R149): tokens are counted in METERED alone. -/
def execTokenTick (j : LinkId) (s : State) : Result :=
  match (s.link j).meter.mode with
  | .metered => (s.tick j).answer
  | .stopped | .unmetered => s.answer

/-- The module-side egress after a transit: a link that sends frames begins the first that waits; any other sends idle
codewords or nothing, and what waits is dropped without a count (R82; log 9). -/
def ModuleEgress.afterTransit (sendsFrames : Bool) (e : ModuleEgress) : ModuleEgress :=
  if sendsFrames then ({ e with transit := none } : ModuleEgress).begin else { transit := none, waiting := [] }

/-- A frame's transit ends: a waiting frame begins its own, and otherwise the meter judges its candidate (R82, R149;
log 9). -/
def State.transitEnded (j : LinkId) (s : State) : State :=
  (s.updLink j fun l =>
    { l with moduleSide := l.moduleSide.afterTransit (l.engine.recovery.sends = .frames) }).judge j

/-- MODULE_EGRESS_TRANSIT_END (R149). -/
def execModuleEgressTransitEnd (j : LinkId) (s : State) : Result :=
  if (s.link j).moduleSide.transit.isSome then (s.transitEnded j).answer else s.answer

/-- A ramp step; a meter that becomes UNMETERED judges its candidate at once (R152). -/
def State.rampStep (j : LinkId) (s : State) : State :=
  let next := s.inMs (s.linkSet j).rampStep
  let t := s.updMeter j fun m => m.ramped next
  if (t.link j).meter.mode = .unmetered then t.judge j else t

/-- RAMP_TIMER_EXPIRY (R152). -/
def execRampTimerExpiry (j : LinkId) (s : State) : Result :=
  (s.onExpiry (s.link j).meter.rampTimer (State.rampStep j)).answer

/-! ### The service port (R158, R172) -/

/-- SERVICE_PORT_FRAME (R158): a frame not addressed to the management address is discarded without a count. -/
def execServicePortFrame (frame : List Byte) (s : State) : Result :=
  if frame.length < shortestFrame || longestFrame < frame.length then s.answer
  else if destinationOf frame = s.settings.managementAddress then (s.managementFrame .service frame).answer
  else s.answer

/-- GAP_TIMER_EXPIRY (R172): the next snapshot or notice may begin. -/
def execGapTimerExpiry (s : State) : Result :=
  (s.onExpiry s.notices.gapTimer fun t => t.updNotices fun n => { n with gapTimer := none }).answer

/-- SERVICE_PORT_FREE (R161, R172): the frame sent has left, and the next waiting one may begin. -/
def execServicePortFree (s : State) : Result := { s with service := { s.service with sending := none } }.answer

end Sys2Proof.Machine
end

