-- ==== Sys2Proof/Machine/Dispatch.lean ====
section
/-! DEFINITION. The dispatch: each command's meaning. -/

namespace Sys2Proof.Machine

/-- The effect of a command on everything but the queue. -/
def exec (i : Instr) (s : State) : Host.Outcome State Fault Refusal :=
  match i with
  | .powerOnReset present alert straps => Sys2Proof.Machine.execPowerOnReset present alert straps s
  | .presentAssertion cage => Sys2Proof.Machine.execPresentAssertion cage s
  | .presentDeassertionInSeating cage => Sys2Proof.Machine.execPresentDeassertionInSeating cage s
  | .removal cage => Sys2Proof.Machine.execRemoval cage s
  | .alertAssertion cage => Sys2Proof.Machine.execAlertAssertion cage s
  | .seatingTimerExpiry cage => Sys2Proof.Machine.execSeatingTimerExpiry cage s
  | .readyTimerExpiry cage => Sys2Proof.Machine.execReadyTimerExpiry cage s
  | .moduleBusAttemptFailure controller selected => Sys2Proof.Machine.execModuleBusAttemptFailure controller selected s
  | .busStretchTimeout controller => Sys2Proof.Machine.execBusStretchTimeout controller s
  | .moduleBusTransactionEnd controller data => Sys2Proof.Machine.execModuleBusTransactionEnd controller data s
  | .searchEnd => Sys2Proof.Machine.execSearchEnd s
  | .guardTimerExpiry cage => Sys2Proof.Machine.execGuardTimerExpiry cage s
  | .pollTimerExpiry cage => Sys2Proof.Machine.execPollTimerExpiry cage s
  | .powerUpTimerExpiry cage => Sys2Proof.Machine.execPowerUpTimerExpiry cage s
  | .laneConverged link report => Sys2Proof.Machine.execLaneConverged link report s
  | .adaptationTimerExpiry link => Sys2Proof.Machine.execAdaptationTimerExpiry link s
  | .markerLock link lane offset => Sys2Proof.Machine.execMarkerLock link lane offset s
  | .fecLock link => Sys2Proof.Machine.execFecLock link s
  | .alignmentTimerExpiry link => Sys2Proof.Machine.execAlignmentTimerExpiry link s
  | .lossOfLock link what => Sys2Proof.Machine.execLossOfLock link what s
  | .lockLossTimerExpiry link => Sys2Proof.Machine.execLockLossTimerExpiry link s
  | .windowTimerExpiry link => Sys2Proof.Machine.execWindowTimerExpiry link s
  | .probeIntervalExpiry link => Sys2Proof.Machine.execProbeIntervalExpiry link s
  | .decayTickExpiry => Sys2Proof.Machine.execDecayTickExpiry s
  | .holdTimerExpiry link => Sys2Proof.Machine.execHoldTimerExpiry link s
  | .pauseRefreshExpiry link cls => Sys2Proof.Machine.execPauseRefreshExpiry link cls s
  | .frameFromSwitch link frame => Sys2Proof.Machine.execFrameFromSwitch link frame s
  | .frameFromModule link frame => Sys2Proof.Machine.execFrameFromModule link frame s
  | .fabricEgressFree link => Sys2Proof.Machine.execFabricEgressFree link s
  | .tokenTick link => Sys2Proof.Machine.execTokenTick link s
  | .moduleEgressTransitEnd link => Sys2Proof.Machine.execModuleEgressTransitEnd link s
  | .rampTimerExpiry link => Sys2Proof.Machine.execRampTimerExpiry link s
  | .servicePortFrame frame => Sys2Proof.Machine.execServicePortFrame frame s
  | .readStateDevice rq => Sys2Proof.Machine.execReadStateDevice rq s
  | .readStateCage rq cage => Sys2Proof.Machine.execReadStateCage rq cage s
  | .readStateLink rq link => Sys2Proof.Machine.execReadStateLink rq link s
  | .readCounters rq link => Sys2Proof.Machine.execReadCounters rq link s
  | .readDiscards rq => Sys2Proof.Machine.execReadDiscards rq s
  | .seatingTime rq value => Sys2Proof.Machine.execSeatingTime rq value s
  | .managementReadyTime rq value => Sys2Proof.Machine.execManagementReadyTime rq value s
  | .identityReadList rq value => Sys2Proof.Machine.execIdentityReadList rq value s
  | .serialLocation rq page offset => Sys2Proof.Machine.execSerialLocation rq page offset s
  | .pageSelectLocation rq value => Sys2Proof.Machine.execPageSelectLocation rq value s
  | .fabricLayout rq cage value => Sys2Proof.Machine.execFabricLayout rq cage value s
  | .alertEnable rq cage value => Sys2Proof.Machine.execAlertEnable rq cage value s
  | .lockLossConfirmTime rq value => Sys2Proof.Machine.execLockLossConfirmTime rq value s
  | .lossIncrement rq value => Sys2Proof.Machine.execLossIncrement rq value s
  | .removalIncrement rq value => Sys2Proof.Machine.execRemovalIncrement rq value s
  | .ceiling rq value => Sys2Proof.Machine.execCeiling rq value s
  | .suppressThreshold rq value => Sys2Proof.Machine.execSuppressThreshold rq value s
  | .reuseThreshold rq value => Sys2Proof.Machine.execReuseThreshold rq value s
  | .decayFactor rq value => Sys2Proof.Machine.execDecayFactor rq value s
  | .decayTick rq value => Sys2Proof.Machine.execDecayTick rq value s
  | .pausable rq cls value => Sys2Proof.Machine.execPausable rq cls value s
  | .pauseTime rq value => Sys2Proof.Machine.execPauseTime rq value s
  | .pauseOnHold rq value => Sys2Proof.Machine.execPauseOnHold rq value s
  | .dscpMapEnable rq value => Sys2Proof.Machine.execDscpMapEnable rq value s
  | .dscpMap rq value => Sys2Proof.Machine.execDscpMap rq value s
  | .defaultPriority rq value => Sys2Proof.Machine.execDefaultPriority rq value s
  | .classMap rq value => Sys2Proof.Machine.execClassMap rq value s
  | .classLimit rq value => Sys2Proof.Machine.execClassLimit rq value s
  | .criticalLevel rq value => Sys2Proof.Machine.execCriticalLevel rq value s
  | .resumeLevel rq value => Sys2Proof.Machine.execResumeLevel rq value s
  | .linkLimit rq value => Sys2Proof.Machine.execLinkLimit rq value s
  | .poolLowMark rq value => Sys2Proof.Machine.execPoolLowMark rq value s
  | .managementAddress rq value => Sys2Proof.Machine.execManagementAddress rq value s
  | .managementTypeValue rq value => Sys2Proof.Machine.execManagementTypeValue rq value s
  | .noticeLevel rq kind value => Sys2Proof.Machine.execNoticeLevel rq kind value s
  | .noticeGap rq value => Sys2Proof.Machine.execNoticeGap rq value s
  | .engage rq => Sys2Proof.Machine.execEngage rq s
  | .disengage rq => Sys2Proof.Machine.execDisengage rq s
  | .deviceRestart rq => Sys2Proof.Machine.execDeviceRestart rq s
  | .cageRestart rq cage => Sys2Proof.Machine.execCageRestart rq cage s
  | .tableEdit rq => Sys2Proof.Machine.execTableEdit rq s
  | .tableAppend rq key attr => Sys2Proof.Machine.execTableAppend rq key attr s
  | .tableReplace rq index key attr => Sys2Proof.Machine.execTableReplace rq index key attr s
  | .tableTruncate rq count => Sys2Proof.Machine.execTableTruncate rq count s
  | .tableCommit rq checksum => Sys2Proof.Machine.execTableCommit rq checksum s
  | .commitChecksumDone => Sys2Proof.Machine.execCommitChecksumDone s
  | .tableRead rq start number => Sys2Proof.Machine.execTableRead rq start number s
  | .setWrite rq set contents => Sys2Proof.Machine.execSetWrite rq set contents s
  | .setRead rq set => Sys2Proof.Machine.execSetRead rq set s
  | .moduleRead rq cage page offset length => Sys2Proof.Machine.execModuleRead rq cage page offset length s
  | .moduleWrite rq cage page offset length data => Sys2Proof.Machine.execModuleWrite rq cage page offset length data s
  | .forceGateOff rq cage => Sys2Proof.Machine.execForceGateOff rq cage s
  | .reArmGate rq cage => Sys2Proof.Machine.execReArmGate rq cage s
  | .extendHold rq link extension => Sys2Proof.Machine.execExtendHold rq link extension s
  | .forceAdmit rq link => Sys2Proof.Machine.execForceAdmit rq link s
  | .acceptPeer rq link => Sys2Proof.Machine.execAcceptPeer rq link s
  | .linkRetry rq link => Sys2Proof.Machine.execLinkRetry rq link s
  | .clearPenalty rq link => Sys2Proof.Machine.execClearPenalty rq link s
  | .flushPark rq link => Sys2Proof.Machine.execFlushPark rq link s
  | .forgetCage rq number => Sys2Proof.Machine.execForgetCage rq number s
  | .forgetDigest rq digest => Sys2Proof.Machine.execForgetDigest rq digest s
  | .forgetPeer rq number => Sys2Proof.Machine.execForgetPeer rq number s
  | .forgetAll rq => Sys2Proof.Machine.execForgetAll rq s
  | .readMemoryCageRecords rq => Sys2Proof.Machine.execReadMemoryCageRecords rq s
  | .readMemoryCache rq => Sys2Proof.Machine.execReadMemoryCache rq s
  | .readMemoryPeerRecords rq => Sys2Proof.Machine.execReadMemoryPeerRecords rq s
  | .snapArm rq channel kind source count mode => Sys2Proof.Machine.execSnapArm rq channel kind source count mode s
  | .snapStart rq channel source => Sys2Proof.Machine.execSnapStart rq channel source s
  | .snapDisarm rq channel => Sys2Proof.Machine.execSnapDisarm rq channel s
  | .gapTimerExpiry => Sys2Proof.Machine.execGapTimerExpiry s
  | .servicePortFree => Sys2Proof.Machine.execServicePortFree s
  | .entryDamage index key attr => Sys2Proof.Machine.execEntryDamage index key attr s
  | .codewordDecoded link corrected uncorrectable => Sys2Proof.Machine.execCodewordDecoded link corrected uncorrectable s
  | .alertDeassertion cage => Sys2Proof.Machine.execAlertDeassertion cage s

end Sys2Proof.Machine
end

