-- ==== Sys2Proof/Machine/Step.lean ====
section
/-! DEFINITION. The step: the command at the front of the queue, or with an empty queue the engine's next request or a
microsecond that passes (log 16). -/

namespace Sys2Proof.Machine

/-- The command that the request in execution asks for, where it waits to be executed (R161). -/
def State.requestDue (s : State) : Option Instr :=
  match s.management.executing with
  | none => none
  | some e =>
    if e.holding then none
    else
      match decodeRequest e.request with
      | .ok c => some c
      | .error _ => none

/-- An empty queue: the request in execution is executed, and otherwise one microsecond passes (DESIGN CHOICE, log 16). -/
def State.idle (s : State) : Result :=
  match s.requestDue with
  | some c => exec c s
  | none => .next { s with now := s.now + microsecond }

/-- One step of the block. -/
def step (s : State) : Host.Outcome State Fault Refusal :=
  match s.pending with
  | [] => s.idle
  | c :: rest => exec c { s with pending := rest }

/-- The state with the command that a word spells at the front of its queue; no word spells one (log 16). -/
def State.withFetchWord (s : State) (nbits w : Nat) : State :=
  match decodeTableWord nbits w with
  | some c => { s with pending := c :: s.pending }
  | none => s

end Sys2Proof.Machine
end

