-- ==== Sys2Proof/Safety.lean ====
section
/-! DEFINITION. The vocabulary of the claims: when a request is executed on arrival, how its reply ends a step, and what
always holds of the device. -/

namespace Sys2Proof.Machine

/-! ### Requests -/

/-- The management engine has no request, so one that reaches it is executed at once (R161). -/
abbrev State.engineIdle (s : State) : Prop := s.management.executing = none ∧ s.management.queue = []

/-- A request as its reply sees it: its port, source address, tag and code (R161). -/
def askedBy (q : Requester) (code : Byte) : Request :=
  { port := q.port, source := q.source, version := 1, tag := q.tag, code := code, bodyLength := 0, body := [] }

/-- The end of a step in which a request with the given code was answered: its reply joins its arrival port, and the step
settles. -/
def State.answered (q : Requester) (code : Byte) (outcome : RequestOutcome) (fields : List Nat) (data : List Byte)
    (s : State) : State :=
  (s.sendReply (askedBy q code) outcome fields data).settle

/-- The outcome of a value that a range clamps: ADJUSTED outside the range, DONE within it (0.7). -/
def clampOutcome (low high n : Nat) : RequestOutcome := if low ≤ n ∧ n ≤ high then .done else .adjusted

/-- The field list of a clamped SET-CONFIG value: the value's offset, 2, where it was clamped (R168). -/
def clampFields (low high n : Nat) : List Nat := if low ≤ n ∧ n ≤ high then [] else [2]

/-- The requests left when the engine takes its next: those before the first that passes the header check are answered
BAD-REQUEST and gone (R159, R161). -/
def afterTaken : List Request → List Request
  | [] => []
  | r :: rest => if (decodeRequest r).isOk then rest else afterTaken rest

/-- The request the engine takes next (R159, R161). -/
def takenNext (queue : List Request) : Option Request := queue.find? fun r => (decodeRequest r).isOk

/-- The engine has taken a request from its queue and others wait behind it (R161). -/
def State.havingTaken (s : State) (r : Request) (waiting : List Request) : State :=
  { s with management := { s.management with executing := some ⟨r, false⟩, queue := waiting } }

/-- The fields of a management frame up to its body (R168): addresses, type value, version, kind, tag, code, outcome and
body length. -/
def ManagementFrame.headerFields (m : ManagementFrame) : List (Nat × Nat × Nat) :=
  [(0, 6, m.destination.toNat), (6, 6, m.source.toNat), (12, 2, m.typeValue.toNat), (14, 1, 1), (15, 1, m.kind.code),
   (16, 2, m.tag.toNat), (18, 1, m.code.toNat), (19, 1, m.outcome.toNat), (20, 2, m.body.length)]

/-! ### Layouts -/

/-- The bytes spell each field's number at its place: a field is its offset, its width in bytes and its number, of which a
field shows what it has room for (R168). -/
def Spells (b : List Byte) (fields : List (Nat × Nat × Nat)) : Prop :=
  ∀ f ∈ fields, numberOf (slice b f.1 f.2.1) = f.2.2 % 256 ^ f.2.1

/-- The number whose bit n is set where `f n` holds (R168). -/
def bitsOf {k : Nat} (f : Fin k → Bool) : Nat := ((List.finRange k).map fun n => if f n then 2 ^ n.val else 0).sum

/-- A timer's remaining time in milliseconds, a part counting as a whole (log 24), and FFFFh for stopped (R168). -/
def State.msLeft (s : State) : Timer → Nat
  | none => 0xFFFF
  | some m => (m - s.now + 3124999) / 3125000

/-- The fields of READ-STATE DEVICE (R162, R168). -/
def State.deviceFields (s : State) : List (Nat × Nat × Nat) :=
  [(0, 1, s.engaged.toNat), (1, 1, s.table.mode.code), (2, 2, s.table.entries.length),
   (4, 1, s.table.fault.isSome.toNat), (5, 1, (s.table.fault.map (·.1)).getD 0),
   (6, 1, (s.table.fault.map (·.2.val)).getD 0), (7, 2, s.poolFree), (9, 1, s.poolLow.toNat),
   (10, 1, s.management.queue.length), (11, 6, s.settings.managementAddress.toNat),
   (17, 2, s.settings.managementType.toNat)]

/-- The fields of a parameter set record (R168). -/
def ParameterSet.fields (p : ParameterSet) : List (Nat × Nat × Nat) :=
  [(0, 1, p.layout.code), (1, 1, p.peerMode.code), (2, 1, p.degradedAdmission.toNat), (3, 1, p.flagLength),
   (12, 1, p.receiveInversion.toNat), (13, 1, p.transmitInversion.toNat), (14, 1, p.readyPage.toNat),
   (15, 1, p.readyOffset.toNat), (16, 1, p.readyMask.toNat), (17, 1, p.readyValue.toNat), (18, 1, p.flagPage.toNat),
   (19, 1, p.flagOffset.toNat), (24, 2, p.powerUpLimit), (26, 2, p.guardInterval), (28, 2, p.coldLimit),
   (30, 2, p.warmLimit), (32, 2, p.alignmentLimit), (34, 1, p.maxSkew), (35, 1, p.retries), (36, 2, p.windowLength),
   (38, 1, p.passRunNeeded), (39, 1, p.failRunLimit), (40, 2, p.allowance), (42, 2, p.degradedAllowance),
   (44, 2, p.holdOff), (46, 2, p.initialRate), (48, 2, p.rampStep), (50, 4, p.burstSize), (54, 2, p.ageLimit)]
    ++ (List.finRange 8).map (fun n => (4 + n.val, 1, (p.laneMap.get n).val))
    ++ (List.finRange 4).map fun n => (20 + n.val, 1, (p.tripMask.get n).toNat)

/-- The fields of READ-STATE CAGE before its working copy (R162, R168). -/
def State.cageFields (s : State) (c : CageId) : List (Nat × Nat × Nat) :=
  let m := s.cage c
  [(0, 1, m.mode.code), (1, 1, m.failedCause.code), (2, 1, m.resetLine.toNat + 2 * m.lowPower.toNat),
   (3, 2, m.visit.toNat), (5, 1, m.identityKey.isSome.toNat), (6, 4, (m.identityKey.getD 0).toNat),
   (10, 4, (m.serialDigest.getD 0).toNat), (14, 1, (s.memory.held.get c).toNat), (15, 1, m.fabricLayout.code),
   (16, 1, m.alertEnable.toNat), (17, 1, m.workingCopy.isSome.toNat),
   (18, 1, (m.workingCopy.map (·.1.val)).getD 0)]

/-- A peer identity at an offset: whether there is one, the far address, the far cage and the far slot (R168). -/
def peerFields (at_ : Nat) (p : Option PeerIdentity) : List (Nat × Nat × Nat) :=
  [(at_, 1, p.isSome.toNat), (at_ + 1, 6, (p.map (·.address.toNat)).getD 0), (at_ + 7, 1, (p.map (·.cage.val)).getD 0),
   (at_ + 8, 1, (p.map (·.slot.val)).getD 0)]

/-- The fields of READ-STATE LINK (R91, R112, R127, R145, R157, R162, R168). -/
def State.linkFields (s : State) (j : LinkId) : List (Nat × Nat × Nat) :=
  let l := s.link j
  let e := l.engine
  let lanes := e.laneMap.getD []
  let w := e.lastWindow
  [(0, 1, e.recovery.code), (1, 1, e.warm.toNat), (2, 1, e.retryCount), (3, 2, e.epoch.toNat),
   (5, 1, e.lastFailure.code), (6, 2, e.measuredSkew.getD 0xFFFF), (8, 1, e.laneMap.isSome.toNat),
   (17, 1, bitsOf e.converged.get), (18, 1, bitsOf e.markerLock.get),
   (19, 1, e.fecLock.toNat + 2 * e.lockLossTimer.isSome.toNat), (20, 1, w.isSome.toNat),
   (21, 1, (w.map (·.verdict.code)).getD 0), (22, 1, (w.map (·.reason.code)).getD 0),
   (23, 4, (w.map (·.codewords)).getD 0), (27, 4, (w.map (·.corrected)).getD 0),
   (31, 4, (w.map (·.uncorrectable)).getD 0), (35, 1, e.windowTimer.isSome.toNat), (36, 4, e.codewords),
   (40, 4, e.corrected), (44, 4, e.uncorrectable), (48, 1, e.passRun), (49, 1, e.failRun), (50, 1, e.cleanRun),
   (51, 1, e.marginal.toNat), (52, 1, e.grade.code), (53, 1, e.degraded.toNat),
   (63, 2, (e.heardPeer.map (·.epoch.toNat)).getD 0), (74, 2, l.penalty), (76, 1, l.suppressed.toNat),
   (77, 1, l.hold.service.code), (78, 2, s.msLeft l.hold.holdTimer), (80, 1, l.hold.lastLoss.code),
   (81, 1, bitsOf fun k => (l.hold.paused.get k).isSome), (98, 1, bitsOf l.park.critical.get),
   (99, 1, bitsOf fun k => !(l.park.fifos.get k).isEmpty), (116, 1, l.meter.mode.code), (117, 2, l.meter.rate),
   (119, 4, l.meter.tokens), (123, 4, l.meter.burst), (127, 2, l.meter.rateCeiling), (129, 1, l.meter.degraded.toNat),
   (130, 2, s.msLeft l.meter.rampTimer)]
    ++ (List.range 8).map (fun n => (9 + n, 1, (lanes[n]?.map fun x =>
        x.lane.val + 16 * x.receiveInverted.toNat + 32 * x.transmitInverted.toNat).getD 0))
    ++ peerFields 54 (e.heardPeer.map HeardPeer.identity) ++ peerFields 65 (s.memory.peers.get j)
    ++ (List.finRange 4).map (fun k => (82 + 2 * k.val, 2, blocksIn (l.park.fifos.get k)))
    ++ (List.finRange 4).map (fun k => (90 + 2 * k.val, 2, (l.park.fifos.get k).length))
    ++ (List.finRange 4).map fun k => (100 + 4 * k.val, 4, ((l.park.fifos.get k).head?.map (·.stamp.toNat)).getD 0)

/-- The fields of a cage record, its seeds as signed bytes (R58, R168). -/
def CageRecord.fields (r : CageRecord) : List (Nat × Nat × Nat) :=
  [(0, 4, r.key.toNat), (4, 4, r.digest.toNat), (8, 1, r.home.val),
   (9, 1, r.valid.toNat + 16 * bitsOf r.seeded.get), (10, 1, r.layout.code)]
    ++ (List.finRange 8).map (fun n => (11 + n.val, 1, (r.laneMap.get n).val))
    ++ ((List.finRange 8).flatMap fun n => (List.finRange 5).map fun i =>
        (19 + 5 * n.val + i.val, 1, (((r.seeds.get n).get i).toInt % 256).toNat))
    ++ (List.finRange 4).map fun k => (59 + k.val, 1, r.skews.get k)

/-- The fields of a counter block (R168). -/
def Counters.fields (c : Counters) : List (Nat × Nat × Nat) :=
  [(0, 4, c.parked), (4, 4, c.replayed), (8, 4, c.losses)]
    ++ (List.finRange 9).map fun n => (12 + 4 * n.val, 4, c.discards.get n)

/-- The fields of a discard slot's record; that the fields of an empty slot are 0 is log 27 (R168). -/
def discardFields (d : Option DiscardRecord) : List (Nat × Nat × Nat) :=
  [(0, 1, d.isSome.toNat), (1, 1, (d.map (·.reason.code)).getD 0), (2, 1, (d.map (·.link.val)).getD 0),
   (3, 1, (d.map fun x => (x.cls.map Fin.val).getD 0xFF).getD 0), (4, 2, (d.map (·.length)).getD 0),
   (6, 4, (d.map (·.stamp.toNat)).getD 0)]

/-- The fields of a TABLE-READ entry, its check bits 0 and its mark 1 for a damaged entry (R168). -/
def ProfileEntry.fields (e : ProfileEntry) : List (Nat × Nat × Nat) :=
  [(0, 4, e.key.toNat), (4, 4, e.width * 2 ^ 21 + e.setIndex.val * 2 ^ 16 + e.cageSet.toNat), (8, 1, (!e.intact).toNat)]

/-- The fields of a notice body, with the state of the entry's source as it stands: of a cage its state alone, of a link
also its cage's, and of the device and a channel none (R168, R173). -/
def State.noticeFields (s : State) (e : PendingEntry) : List (Nat × Nat × Nat) :=
  let l := s.link (indexOf 64 e.source)
  let onLink := fun n : Nat => if e.kind.sourceRange = .link then n else 0
  [(0, 1, e.kind.code), (1, 1, s.notices.levels.get e.kind.place), (2, 1, e.source), (3, 1, e.count), (4, 1, e.detail),
   (5, 1, match e.kind.sourceRange with
      | .cage => (s.cage (indexOf 16 e.source)).mode.code
      | .link => (s.cage (cageOf (indexOf 64 e.source))).mode.code
      | .device | .channel => 0),
   (6, 1, onLink l.engine.recovery.code), (7, 1, onLink l.hold.service.code), (8, 2, onLink l.penalty),
   (10, 1, onLink l.suppressed.toNat), (11, 1, onLink l.hold.lastLoss.code)]

/-- The link's fields of a snapshot body, as link `j` stands (R168, R177). -/
def State.snapshotFields (s : State) (j : LinkId) : List (Nat × Nat × Nat) :=
  let l := s.link j
  let e := l.engine
  let w := e.lastWindow
  [(5, 1, e.recovery.code), (6, 1, l.hold.service.code), (7, 1, e.warm.toNat), (8, 2, l.penalty),
   (10, 1, l.suppressed.toNat), (11, 1, (w.map (·.verdict.code)).getD 0), (12, 4, (w.map (·.codewords)).getD 0),
   (16, 4, (w.map (·.corrected)).getD 0), (20, 4, (w.map (·.uncorrectable)).getD 0), (24, 1, e.passRun),
   (25, 1, e.failRun), (26, 1, e.retryCount), (35, 4, l.meter.tokens), (39, 2, l.meter.rate),
   (41, 2, s.msLeft l.hold.holdTimer), (52, 2, (e.heardPeer.map (·.epoch.toNat)).getD 0),
   (54, 1, (w.map (·.reason.code)).getD 0)]
    ++ (List.finRange 4).map (fun k => (27 + 2 * k.val, 2, blocksIn (l.park.fifos.get k)))
    ++ peerFields 43 (e.heardPeer.map HeardPeer.identity)

/-! ### Discards -/

/-- A counter after `n` more, saturating (section 10.6). -/
def countedBy (before n : Nat) : Nat := if n = 0 then before else min 4294967295 (before + n)

/-- The discard records of every frame parked for link `j`, in the order of a flush: class 3 first, each FIFO from head to
tail (R141, R143). -/
def State.flushRecords (s : State) (reason : DiscardReason) (j : LinkId) : List DiscardRecord :=
  [(3 : ClassId), 2, 1, 0].flatMap fun k => ((s.link j).park.fifos.get k).map fun f =>
    ⟨reason, j, some k, f.length, BitVec.ofNat 32 (s.now / 3125)⟩

/-- Discards handed on from `s` to `t`, in their order: each counted for its reason on link `j`, and the first of them in the
slots that are empty, slot A before slot B (R143, R167). -/
structure Discarded (j : LinkId) (records : List DiscardRecord) (s t : State) : Prop where
  counted : ∀ reason : DiscardReason, (t.link j).counters.discards.get reason.place
    = countedBy ((s.link j).counters.discards.get reason.place) (records.filter fun r => r.reason = reason).length
  slotA : t.slotA = s.slotA.or records.head?
  slotB : t.slotB = s.slotB.or (if s.slotA = none then (records.drop 1).head? else records.head?)

/-- Whether a signal is a discard handed on. -/
def Signal.isDiscard : Signal → Bool
  | .discard _ => true
  | .event _ | .windowEnd _ => false

/-- Discards of several links handed on from `s` to `t`, in their order: each counted for its reason on its link, the first of
them in the slots that are empty, slot A before slot B, and each handed to the notice unit (R143, R167, R171). -/
structure AllDiscarded (records : List DiscardRecord) (s t : State) : Prop where
  counted : ∀ (j : LinkId) (reason : DiscardReason), (t.link j).counters.discards.get reason.place
    = countedBy ((s.link j).counters.discards.get reason.place)
      (records.filter fun r => r.reason = reason && r.link = j).length
  slotA : t.slotA = s.slotA.or records.head?
  slotB : t.slotB = s.slotB.or (if s.slotA = none then (records.drop 1).head? else records.head?)
  handed : t.raised.filter Signal.isDiscard
    = s.raised.filter Signal.isDiscard ++ records.map fun r => Signal.discard r.link

/-! ### Losses, pauses and bus requests -/

/-- The service state the loss path leaves, by the one it finds and the hold-off (R115). -/
def serviceAfterLoss (found : ServiceState) (holdOff : Nat) : ServiceState :=
  match found with
  | .pass | .replay => if holdOff = 0 then .shed else .hold
  | .hold => .hold
  | .shed => .shed
  | .off => .off

/-- The hold timer the loss path leaves at the moment `now` (R115). -/
def holdTimerAfterLoss (now : Moment) (found : ServiceState) (holdOff : Nat) (timer : Timer) : Timer :=
  match found with
  | .pass | .replay => if holdOff = 0 then none else some (now + holdOff * 3125000)
  | .hold | .shed | .off => timer

/-- The penalty that the increment of a cause leaves (R107). -/
def Settings.penaltyAfter (g : Settings) (cause : LossCause) (penalty : Nat) : Nat :=
  match cause with
  | .signal | .errors | .gate => min g.ceiling (penalty + g.lossIncrement)
  | .removed => min g.ceiling (penalty + g.removalIncrement)
  | .restart | .none => penalty

/-- Whether the increment of a loss leaves a link's penalty at or above the suppress threshold (R107). -/
def State.suppressesAtLoss (s : State) (cause : LossCause) (j : LinkId) : Bool :=
  match cause with
  | .signal | .errors | .gate | .removed =>
    decide (s.settings.suppressThreshold ≤ s.settings.penaltyAfter cause (s.link j).penalty)
  | .restart | .none => false

/-- An engine that holds nothing of an attempt, with the epoch 0 and neither a skew nor a failure to show (sections 5.2 and
6.1). -/
def emptyEngine (recovery : RecoveryState) : LinkEngine where
  recovery := recovery
  laneMap := none
  warm := false
  seeds := none
  equaliser := []
  converged := Bank.fill 8 false
  retryCount := 0
  epoch := 0
  adaptationTimer := none
  alignmentTimer := none
  markerLock := Bank.fill 8 false
  hadMarker := Bank.fill 8 false
  markerOffset := Bank.fill 8 0
  skewAccepted := false
  fecLock := false
  fecReached := false
  lockLossTimer := none
  measuredSkew := none
  lastFailure := .none
  windowTimer := none
  probeTimer := none
  codewords := 0
  corrected := 0
  uncorrectable := 0
  lastWindow := none
  passRun := 0
  failRun := 0
  cleanRun := 0
  marginal := false
  grade := .none
  degraded := false
  heardPeer := none

/-- A STOPPED meter (R146). -/
def idleMeter : Meter := ⟨.stopped, 0, 0, 0, 0, false, none, 0⟩

/-- The end of a pause refresh that starts now: half the pause time in force, in whole quanta and at least 1, at the line rate
(R125; a quantum is 4, 8 or 16 units of `now`, log 3). -/
def State.refreshEnd (s : State) (j : LinkId) : Moment :=
  s.now + max 1 (s.settings.pauseTime / 2) * ((s.linkLayout j).slots * 4)

/-- Whether the loss path ends a link's traffic at once: found in PASS or REPLAY with a hold-off of 0 (R115). -/
abbrev State.shedsAtLoss (s : State) (j : LinkId) : Prop :=
  ((s.link j).hold.service = .pass ∨ (s.link j).hold.service = .replay) ∧ (s.linkSet j).holdOff = 0

/-- The pause state the loss path leaves a class in: SHED releases it, an entry to HOLD with pause-on-hold on pauses it where
it is pausable, and otherwise it is as it was (R115, R124, R126). -/
def State.pausedAfterLoss (s : State) (j : LinkId) (k : ClassId) : Timer :=
  let found := (s.link j).hold.paused.get k
  match (s.link j).hold.service with
  | .pass | .replay =>
    if (s.linkSet j).holdOff = 0 then none
    else if s.settings.pauseOnHold = true ∧ s.settings.pausable.get k = true ∧ found = none then some (s.refreshEnd j)
    else found
  | .hold | .shed | .off => found

/-- Link `j` has taken the loss path with a cause, from `s` to `t` (R107, R114, R115): its cause, its LOSSES counter, its
recovery and service states, its hold timer, its penalty and suppressed flag, and LINK-LOST with the cause as its
detail; in DOWN the engine keeps its epoch, skew and last failure alone (R78), and from PASS and REPLAY the meter is
STOPPED (R155). -/
structure LostTo (cause : LossCause) (recovery : RecoveryState) (j : LinkId) (s t : State) : Prop where
  lastLoss : (t.link j).hold.lastLoss = cause
  losses : (t.link j).counters.losses = min 4294967295 ((s.link j).counters.losses + 1)
  recovered : (t.link j).engine.recovery = recovery
  service : (t.link j).hold.service = serviceAfterLoss (s.link j).hold.service (s.linkSet j).holdOff
  timer : (t.link j).hold.holdTimer
    = holdTimerAfterLoss s.now (s.link j).hold.service (s.linkSet j).holdOff (s.link j).hold.holdTimer
  penalty : (t.link j).penalty = s.settings.penaltyAfter cause (s.link j).penalty
  suppressed : (t.link j).suppressed = ((s.link j).suppressed || s.suppressesAtLoss cause j)
  rested : recovery = .down → (t.link j).engine = { emptyEngine .down with
    epoch := (s.link j).engine.epoch
    measuredSkew := (s.link j).engine.measuredSkew
    lastFailure := (s.link j).engine.lastFailure }
  meter : (t.link j).meter = match (s.link j).hold.service with
    | .pass | .replay => idleMeter
    | .hold | .shed | .off => (s.link j).meter
  told : .event ⟨.linkLost, j.val, cause.code⟩ ∈ t.raised

/-- Whether link `j` takes the loss path as its cage leaves SERVING: it is active and has left DOWN (R114). -/
abbrev State.departs (s : State) (c : CageId) (j : LinkId) : Prop :=
  cageOf j = c ∧ s.isActive j = true ∧ (s.link j).engine.recovery ≠ .inactive ∧ (s.link j).engine.recovery ≠ .down

/-- The links that take the loss path as their cage leaves SERVING, by ascending slot (R114; the order is log 28). -/
def State.losers (s : State) (c : CageId) : List LinkId :=
  if (s.cage c).mode = .serving then (linksOf c).filter fun j => s.departs c j else []

/-- What the loss path raises for link `j`, in its order: SUPPRESSED where the flag becomes set, a discard for each frame that
a shed drops, and LINK-LOST once the change is made (R107, R114, R115, R143). -/
def State.lossSignals (s : State) (cause : LossCause) (j : LinkId) : List Signal :=
  (if s.suppressesAtLoss cause j && !(s.link j).suppressed then [.event ⟨.suppressed, j.val, 0⟩] else [])
    ++ (if s.shedsAtLoss j then (s.flushRecords .expired j).map fun r => .discard r.link else [])
    ++ [.event ⟨.linkLost, j.val, cause.code⟩]

/-- The links `js` have taken the loss path one after another, from `s` to `t`, after the signals `front`: nothing else is
raised, the frames of those it sheds are discarded EXPIRED, and their blocks are back in the pool (R114, R115, R140, R141,
R143). -/
structure LossesTold (cause : LossCause) (js : List LinkId) (front : List Signal) (s t : State) : Prop where
  raised : t.raised = s.raised ++ front ++ js.flatMap (s.lossSignals cause)
  discarded : AllDiscarded ((js.filter fun j => s.shedsAtLoss j).flatMap (s.flushRecords .expired)) s t
  pool : t.poolFree = s.poolFree + ((js.filter fun j => s.shedsAtLoss j).map fun j => (s.link j).park.occupancy).sum
  poolLow : t.poolLow = if (∃ j ∈ js, s.shedsAtLoss j ∧ (s.link j).park.isEmpty = false)
      ∧ s.settings.poolLowMark ≤ t.poolFree then false else s.poolLow

/-- A pause frame is being sent on a fabric-side egress, or waits for it (R113, R124). -/
def FabricEgress.holdsPause (e : FabricEgress) (p : PauseFrame) : Prop :=
  e.sending = some (.pause p) ∨ .pause p ∈ e.urgent

/-- A reply is being sent on a fabric-side egress, or waits for it (R113, R161). -/
def FabricEgress.holdsReply (e : FabricEgress) (m : ManagementFrame) : Prop :=
  e.sending = some (.reply m) ∨ m ∈ e.replies

/-- What the loss path does to the pauses and the parked frames of a link, where no flush of its own follows (R115, R116,
R124, R126, R141): each class that it pauses or releases, and that some priority maps to, has its pause frame; and nothing
else goes toward the switch. -/
structure LossPauses (j : LinkId) (s t : State) : Prop where
  paused : ∀ k, (t.link j).hold.paused.get k = s.pausedAfterLoss j k
  pausing : ∀ k, (s.link j).hold.paused.get k = none → (s.pausedAfterLoss j k).isSome →
    prioritiesOf s.settings k ≠ 0 → (t.link j).fabricSide.holdsPause ⟨prioritiesOf s.settings k, s.settings.pauseTime⟩
  releasing : ∀ k, ((s.link j).hold.paused.get k).isSome → s.pausedAfterLoss j k = none →
    prioritiesOf s.settings k ≠ 0 → (t.link j).fabricSide.holdsPause ⟨prioritiesOf s.settings k, 0⟩
  silent : (∀ k, prioritiesOf s.settings k = 0 ∨ s.pausedAfterLoss j k = (s.link j).hold.paused.get k) →
    (t.link j).fabricSide = (s.link j).fabricSide
  shed : s.shedsAtLoss j → ∀ k, (t.link j).park.fifos.get k = [] ∧ (t.link j).park.critical.get k
    = if (s.link j).park.fifos.get k = [] then (s.link j).park.critical.get k else false
  kept : ¬ s.shedsAtLoss j → (t.link j).park = (s.link j).park
    ∧ (t.link j).counters.discards = (s.link j).counters.discards

/-- A cage monitor's READ waits on its list or is in flight (R7, R11). -/
def State.holdsRead (s : State) (c : CageId) (purpose : Purpose) (page offset : Byte) (length : Nat) : Prop :=
  let r : BusRequest :=
    { requester := .monitor purpose (s.cage c).visit, cage := c, kind := .read, page := page, offset := offset,
      length := length, data := [] }
  r ∈ (s.cage c).busRequests ∨ ∃ t, (s.controller (controllerOf c)).inFlight = some t ∧ t.request = r

/-- A cage's lines and timers are those of a stopped module: low-power asserted and no timer running (R40, R50, R53). -/
structure Cage.Stopped (m : Cage) : Prop where
  lowPower : m.lowPower = true
  timers : m.seatingTimer = none ∧ m.readyTimer = none ∧ m.guardTimer = none ∧ m.powerUpTimer = none
    ∧ m.pollTimer = none
  flags : m.flagRequested = false ∧ m.readAgain = false

/-! ### Cages and controllers -/

/-- A cage at a reset taken at the moment `now` (R1, sections 1.1 and 3.1): both lines asserted, the guard origin set, and
seating where a module is present. -/
def freshCage (now : Moment) (seatingTime : Nat) (present alert : Bool) : Cage where
  present := present
  alert := alert
  mode := if present then .seating else .absent
  failedCause := .none
  resetLine := true
  lowPower := true
  seatingTimer := if present then some (now + seatingTime * 3125000) else none
  readyTimer := none
  identityKey := none
  serialDigest := none
  visit := 0
  readList := []
  serialLocation := (0, 0)
  identityBytes := []
  workingCopy := none
  guardOrigin := now
  guardTimer := none
  powerUpTimer := none
  pollTimer := none
  flagRequested := false
  readAgain := false
  fabricLayout := .l1
  alertEnable := false
  busRequests := []
  lastPage := none

/-- Only cage `c` and its controller change, but that a controller that was free may start another cage's oldest request
(R11). -/
structure BusTouched (c : CageId) (s t : State) : Prop where
  cages : ∀ d, d ≠ c → t.cage d = s.cage d ∨ ∃ x r rest, (s.cage d).busRequests = r :: rest
    ∧ (t.controller (controllerOf d)).inFlight = some x ∧ x.request = r ∧ x.attempt = 1
    ∧ t.cage d = { s.cage d with busRequests := rest }
  controllers : ∀ k, k ≠ controllerOf c → t.controller k = s.controller k

/-- An ALERT input that is asserted with the enable on, as the cage enters POWERING, trips it at once (R51). -/
def State.tripsOnEntry (s : State) (c : CageId) : Bool :=
  (s.cage c).alert && (s.cage c).alertEnable && (s.workingSet c).flagLength == 0

/-- Cage `c`, whose working copy stands in `s`, has entered POWERING, and `t` is what that leaves: the guard first, then
the alert that is already asserted (R45, R46, R51). -/
structure PoweringEntered (c : CageId) (s t : State) : Prop where
  tripped : s.tripsOnEntry c = true →
    (t.cage c).mode = .tripped ∧ (t.cage c).Stopped ∧ (t.cage c).busRequests = []
      ∧ t.raised = s.raised ++ [.event ⟨.gateTripped, c.val, 0⟩]
  powering : s.tripsOnEntry c = false → (t.cage c).mode = .powering ∧ t.raised = s.raised
  guarded : s.tripsOnEntry c = false → s.now < (s.cage c).guardOrigin + (s.workingSet c).guardInterval * 3125000 →
    (t.cage c).guardTimer = some ((s.cage c).guardOrigin + (s.workingSet c).guardInterval * 3125000)
      ∧ (t.cage c).lowPower = (s.cage c).lowPower
  released : s.tripsOnEntry c = false → (s.cage c).guardOrigin + (s.workingSet c).guardInterval * 3125000 ≤ s.now →
    (t.cage c).guardTimer = none ∧ (t.cage c).lowPower = false
      ∧ (t.cage c).powerUpTimer = some (s.now + (s.workingSet c).powerUpLimit * 3125000)
      ∧ t.holdsRead c .readyPoll (s.workingSet c).readyPage (s.workingSet c).readyOffset 1
  flags : s.tripsOnEntry c = false → (s.cage c).alert = true → (s.cage c).alertEnable = true →
    (s.cage c).flagRequested = false → (t.cage c).flagRequested = true
      ∧ t.holdsRead c .flagRead (s.workingSet c).flagPage (s.workingSet c).flagOffset (s.workingSet c).flagLength
  kept : (t.cage c).visit = (s.cage c).visit ∧ (t.cage c).identityKey = (s.cage c).identityKey
    ∧ (t.cage c).workingCopy = (s.cage c).workingCopy ∧ (t.cage c).resetLine = (s.cage c).resetLine
    ∧ (t.cage c).fabricLayout = (s.cage c).fabricLayout ∧ (t.cage c).alertEnable = (s.cage c).alertEnable
  touched : t = { s with cages := t.cages, controllers := t.controllers, raised := t.raised } ∧ BusTouched c s t

/-- Whether a cage is in a state in which an outcome for a purpose counts (R12): identification in IDENTIFYING, the ready
poll in POWERING, the flag read in POWERING and SERVING. -/
def Cage.awaits (m : Cage) : Purpose → Bool
  | .identification => decide (m.mode = .identifying)
  | .readyPoll => decide (m.mode = .powering)
  | .flagRead => decide (m.mode = .powering) || decide (m.mode = .serving)

/-- Cage `c`'s gate has closed, from `s` to `t`, in TRIPPED or FORCED-OFF: low-power is asserted, the timers, the flag read
and the monitor's requests are gone and its transaction's outcome void, and from SERVING every active link that has left
DOWN took the loss path with cause GATE. `events` and what those losses raise is all that is raised (R12, R40, R53, R54,
R114). -/
structure GateClosed (mode : CageMode) (events : List Signal) (c : CageId) (s t : State) : Prop where
  closed : t.cage c = { s.cage c with
    mode := mode, lowPower := true
    guardOrigin := if (s.cage c).lowPower then (s.cage c).guardOrigin else s.now
    seatingTimer := none, readyTimer := none, guardTimer := none, powerUpTimer := none, pollTimer := none,
    flagRequested := false, readAgain := false, identityBytes := [], busRequests := [] }
  discarded : t.controller (controllerOf c) = { s.controller (controllerOf c) with
    inFlight := (s.controller (controllerOf c)).inFlight.map fun x : Transaction =>
      if x.request.cage = c then { x with discarded := decide (x.request.requester ≠ .passThrough) || x.discarded }
      else x }
  lost : (s.cage c).mode = .serving → ∀ j, s.departs c j → LostTo .gate .down j s t ∧ LossPauses j s t
  unlost : ∀ j, (s.cage c).mode ≠ .serving ∨ ¬ s.departs c j → t.link j = s.link j
  told : LossesTold .gate (s.losers c) events s t
  touched : (∀ d, d ≠ c → t.cage d = s.cage d) ∧ (∀ k, k ≠ controllerOf c → t.controller k = s.controller k)
    ∧ t = { s with
        cages := t.cages, controllers := t.controllers, links := t.links, poolFree := t.poolFree, poolLow := t.poolLow,
        slotA := t.slotA, slotB := t.slotB, raised := t.raised }

/-! ### Parked frames leaving -/

/-- Whether a fall in a class's occupancy can release it on link `j`: in REPLAY, or in HOLD with pause-on-hold off (R126). -/
abbrev State.levelReleases (s : State) (j : LinkId) : Prop :=
  (s.link j).hold.service = .replay ∨ ((s.link j).hold.service = .hold ∧ s.settings.pauseOnHold = false)

/-- The head `f` of a class's FIFO on link `j` has left it and `rest` remains, from `s` to `t`, and what follows the fall of
the occupancy has been done: at or below the resume level the critical mark is cleared and a class paused by level released
with its frame; at or above the pool low mark the pool-low state is clear (R126, R133, R139, R140). -/
structure HeadLeft (j : LinkId) (k : ClassId) (f : ParkedFrame) (rest : List ParkedFrame) (s t : State) : Prop where
  fifos : (t.link j).park.fifos = (s.link j).park.fifos.set k rest
  critical : (t.link j).park.critical = if blocksIn rest ≤ s.settings.resumeLevel
    then (s.link j).park.critical.set k false else (s.link j).park.critical
  paused : (t.link j).hold = { (s.link j).hold with
    paused := if s.levelReleases j ∧ blocksIn rest ≤ s.settings.resumeLevel then (s.link j).hold.paused.set k none
      else (s.link j).hold.paused }
  released : s.levelReleases j → blocksIn rest ≤ s.settings.resumeLevel → ((s.link j).hold.paused.get k).isSome →
    prioritiesOf s.settings k ≠ 0 → (t.link j).fabricSide.holdsPause ⟨prioritiesOf s.settings k, 0⟩
  silent : ¬ s.levelReleases j ∨ s.settings.resumeLevel < blocksIn rest ∨ (s.link j).hold.paused.get k = none
    ∨ prioritiesOf s.settings k = 0 → (t.link j).fabricSide = (s.link j).fabricSide
  pool : t.poolFree = s.poolFree + f.blocks
  poolLow : t.poolLow = if s.settings.poolLowMark ≤ t.poolFree then false else s.poolLow
  others : ∀ i, i ≠ j → t.link i = s.link i

/-- Each class of link `j` that a change from `s` to `t` releases, and that some priority maps to, has its release frame, and
nothing else goes toward the switch (R126). -/
structure ReleasesSent (j : LinkId) (s t : State) : Prop where
  released : ∀ k, ((s.link j).hold.paused.get k).isSome → (t.link j).hold.paused.get k = none →
    prioritiesOf s.settings k ≠ 0 → (t.link j).fabricSide.holdsPause ⟨prioritiesOf s.settings k, 0⟩
  silent : (∀ k, prioritiesOf s.settings k = 0 ∨ (t.link j).hold.paused.get k = (s.link j).hold.paused.get k) →
    (t.link j).fabricSide = (s.link j).fabricSide

/-- Every frame parked for link `j` has been discarded with a reason, from `s` to `t` (R133, R140, R141, R143): the FIFOs are
empty, the critical marks of the classes that held frames are clear, the blocks are back in the pool, and the discards are
counted and kept. -/
structure Flushed (reason : DiscardReason) (j : LinkId) (s t : State) : Prop where
  emptied : ∀ k, (t.link j).park.fifos.get k = []
  critical : ∀ k, (t.link j).park.critical.get k
    = if (s.link j).park.fifos.get k = [] then (s.link j).park.critical.get k else false
  pool : t.poolFree = s.poolFree + (s.link j).park.occupancy
  poolLow : t.poolLow = if (s.link j).park.isEmpty = false ∧ s.settings.poolLowMark ≤ t.poolFree then false else s.poolLow
  discarded : Discarded j (s.flushRecords reason j) s t

/-- The replay of link `j` has ended, from `s` to `t` (R126, R154): it is in PASS with its meter STOPPED, every paused class
is released with its frame, and nothing else changes. -/
structure ReplayEnded (j : LinkId) (s t : State) : Prop where
  link : t.link j = { s.link j with
    hold := { (s.link j).hold with service := .pass, paused := Bank.fill 4 none }
    meter := idleMeter
    fabricSide := (t.link j).fabricSide }
  releases : ReleasesSent j s t
  touched : (∀ i, i ≠ j → t.link i = s.link i) ∧ t = { s with links := t.links }

/-- Whether link `j`'s replay is to end: its meter is UNMETERED and nothing is parked (R154). -/
abbrev State.replayDone (s : State) (j : LinkId) : Prop :=
  (s.link j).meter.mode = .unmetered ∧ ∀ k, (s.link j).park.fifos.get k = []

/-! ### Attempts and admissions -/

/-- Link `j` has begun a bring-up attempt, from `s` to `t`: warm with its seeds, or cold with every setting at 0, under the
lane map and the inversions of the working copy; the epoch is one higher, the adaptation timer alone runs, the measured skew
is kept, `last` is the last failure to show, and everything else of the engine is empty (R75, R79 to R81, R92). -/
def AttemptBegun (seeds : Option SeedsInUse) (retries : Nat) (last : FailureCause) (j : LinkId) (s t : State) : Prop :=
  (t.link j).engine = { emptyEngine .adapting with
    laneMap := some ((s.moduleLanes j).map fun n =>
      ⟨n, (s.linkSet j).receiveInversion.getLsbD n.val, (s.linkSet j).transmitInversion.getLsbD n.val⟩)
    warm := seeds.isSome
    seeds := seeds
    equaliser := match seeds with
      | some x => x.settings
      | none => (s.moduleLanes j).map fun n => (n, Bank.fill 5 0)
    retryCount := retries
    epoch := (s.link j).engine.epoch + 1
    adaptationTimer :=
      some (s.now + (if seeds.isSome then (s.linkSet j).warmLimit else (s.linkSet j).coldLimit) * 3125000)
    measuredSkew := (s.link j).engine.measuredSkew
    lastFailure := last }

/-- The events of an attempt failure on a link (R85, R86). -/
def State.attemptEvents (s : State) (j : LinkId) : List Signal :=
  if (s.link j).engine.warm then [.event ⟨.warmFallback, j.val, 0⟩]
  else if (s.link j).engine.retryCount < (s.linkSet j).retries then []
  else [.event ⟨.linkFailed, j.val, 0⟩]

/-- The attempt of link `j` has failed with a cause: a warm attempt falls back to a cold one that is no retry, a cold one
is retried while retries are left, and then the link is FAILED with its locks empty, its timers and windows stopped and its
converged set kept (R81, R85, R86, R87, R92; what an attempt has reached is log 6). -/
structure AttemptEnded (cause : FailureCause) (j : LinkId) (s t : State) : Prop where
  fallback : (s.link j).engine.warm = true → AttemptBegun none (s.link j).engine.retryCount cause j s t
  retried : (s.link j).engine.warm = false → (s.link j).engine.retryCount < (s.linkSet j).retries →
    AttemptBegun none ((s.link j).engine.retryCount + 1) cause j s t
  failed : (s.link j).engine.warm = false → (s.linkSet j).retries ≤ (s.link j).engine.retryCount →
    (t.link j).engine = { (s.link j).engine with
      recovery := .failed, lastFailure := cause, adaptationTimer := none, alignmentTimer := none, lockLossTimer := none,
      windowTimer := none, probeTimer := none, markerLock := Bank.fill 8 false, hadMarker := Bank.fill 8 false,
      markerOffset := Bank.fill 8 0, skewAccepted := false, fecLock := false, fecReached := false, codewords := 0,
      corrected := 0, uncorrectable := 0, grade := .none }

/-- Link `j` has been admitted with a grade, from `s` to `v`, and its meter has not judged its candidate yet (R69, R105,
R119, R126, R147): it is UP and in REPLAY with no hold timer; from HOLD the paused classes at or below the resume level are
released, each with its frame; and the meter starts full at the first rate, UNMETERED where that is the line rate and the
link is not degraded, with its ramp timer running where the first rate is below the ceiling. -/
structure AdmittedTo (grade : Grade) (j : LinkId) (s v : State) : Prop where
  engine : (v.link j).engine = { (s.link j).engine with
    recovery := .up
    cleanRun := 0
    grade := grade
    degraded := decide (grade = .degraded)
    probeTimer := none
    equaliser := (v.link j).engine.equaliser }
  hold : (v.link j).hold = { (s.link j).hold with
    service := .replay, holdTimer := none, paused := (v.link j).hold.paused }
  paused : ∀ k, (v.link j).hold.paused.get k =
    if (s.link j).hold.service = .hold ∧ s.occupancy j k ≤ s.settings.resumeLevel then none
    else (s.link j).hold.paused.get k
  released : ∀ k, ((s.link j).hold.paused.get k).isSome → (v.link j).hold.paused.get k = none →
    prioritiesOf s.settings k ≠ 0 → (v.link j).fabricSide.holdsPause ⟨prioritiesOf s.settings k, 0⟩
  silent : (∀ k, prioritiesOf s.settings k = 0 ∨ (v.link j).hold.paused.get k = (s.link j).hold.paused.get k) →
    (v.link j).fabricSide = (s.link j).fabricSide
  meter :
    let line := (s.linkLayout j).lanesPerLink * 6250
    let slow := decide (grade = .degraded)
    let first := if grade = .degraded then max 1 (min (s.linkSet j).initialRate line / 2)
      else min (s.linkSet j).initialRate line
    let top := if grade = .degraded then line / 2 else line
    (v.link j).meter =
      { mode := if grade ≠ .degraded ∧ first = line then .unmetered else .metered
        burst := (s.linkSet j).burstSize
        tokens := (s.linkSet j).burstSize
        rate := first
        rateCeiling := top
        degraded := slow
        rampTimer := if first < top then some (s.now + (s.linkSet j).rampStep * 3125000) else none
        lastTick := s.now / 3125 }
  touched : v.link j = { s.link j with
      engine := (v.link j).engine, hold := (v.link j).hold, meter := (v.link j).meter,
      fabricSide := (v.link j).fabricSide }
    ∧ (∀ i, i ≠ j → v.link i = s.link i)
    ∧ v = { s with links := v.links, memory := v.memory, freeCount := s.freeCount + 1, raised := v.raised }

/-- Link `j` has been admitted with a grade, from `s` to `t` (R69, R105, R119, R147, R154): it is UP; it is in PASS with
its meter stopped where nothing paces it and nothing is parked, and in REPLAY otherwise, METERED at its first rate unless
the first rate is the line rate; its meter has judged its candidate; and the settings of its lanes, which are free values
(log 5), and its skew are in the module's record, where the seeds of other lanes stay and the other slots' marks stay as
long as the record carries the working copy's layout and lane map. -/
structure Admitted (grade : Grade) (j : LinkId) (s t : State) : Prop where
  judged : ∃ v, AdmittedTo grade j s v ∧ t = v.judge j
  engine : (t.link j).engine = { (s.link j).engine with
    recovery := .up
    cleanRun := 0
    grade := grade
    degraded := decide (grade = .degraded)
    probeTimer := none
    equaliser := (t.link j).engine.equaliser }
  holdTimer : (t.link j).hold.holdTimer = none ∧ (t.link j).hold.lastLoss = (s.link j).hold.lastLoss
  passes : grade ≠ .degraded → (s.linkLayout j).lanesPerLink * 6250 ≤ (s.linkSet j).initialRate →
    (s.link j).park.isEmpty = true →
    (t.link j).hold.service = .pass ∧ (t.link j).meter.mode = .stopped ∧ ∀ k, (t.link j).hold.paused.get k = none
  paced : grade = .degraded ∨ (s.linkSet j).initialRate < (s.linkLayout j).lanesPerLink * 6250 →
    (t.link j).hold.service = .replay ∧ (t.link j).meter.mode = .metered
      ∧ (t.link j).meter.burst = (s.linkSet j).burstSize ∧ (t.link j).meter.tokens ≤ (s.linkSet j).burstSize
      ∧ (t.link j).meter.degraded = decide (grade = .degraded)
      ∧ (t.link j).meter.rateCeiling
        = (if grade = .degraded then (s.linkLayout j).lanesPerLink * 3125 else (s.linkLayout j).lanesPerLink * 6250)
      ∧ (t.link j).meter.rate
        = (if grade = .degraded then max 1 (min (s.linkSet j).initialRate ((s.linkLayout j).lanesPerLink * 6250) / 2)
          else (s.linkSet j).initialRate)
  unrecorded : s.ownRecord (cageOf j) = none → t.memory = s.memory
    ∧ ∃ held : LaneId → LaneSettings, (t.link j).engine.equaliser = (s.moduleLanes j).map fun n => (n, held n)
  recorded : ∀ r, s.ownRecord (cageOf j) = some r → ∃ r' : CageRecord,
    t.memory = { s.memory with positions := s.memory.positions.set (cageOf j) (some r') }
      ∧ (t.link j).engine.equaliser = ((s.moduleLanes j).map fun n => (n, r'.seeds.get n))
      ∧ (∀ n, n ∉ s.moduleLanes j → r'.seeds.get n = r.seeds.get n)
      ∧ (∀ k, r'.skews.get k = if k = slotOf j then (s.link j).engine.measuredSkew.getD 0 else r.skews.get k)
      ∧ (∀ k, r'.seeded.get k = (decide (k = slotOf j) || (decide (r.valid = true ∧ r.layout = (s.linkSet j).layout
          ∧ r.laneMap = (s.linkSet j).laneMap) && r.seeded.get k)))
      ∧ r' = { r with
          valid := true, layout := (s.linkSet j).layout, laneMap := (s.linkSet j).laneMap, seeds := r'.seeds,
          skews := r'.skews, seeded := r'.seeded }
  touched : (t.link j).penalty = (s.link j).penalty ∧ (t.link j).suppressed = (s.link j).suppressed
    ∧ (∀ i, i ≠ j → t.link i = s.link i)
    ∧ t = { s with
        links := t.links, memory := t.memory, freeCount := t.freeCount, poolFree := t.poolFree, poolLow := t.poolLow,
        slotA := t.slotA, slotB := t.slotB, raised := t.raised }

/-- A confirmed loss of lock on link `j`, from `s` to `t` (R89): before the peer check the attempt fails with LOCK-LOST,
and after it the link takes the loss path with cause SIGNAL and begins a cold attempt. Nothing else changes. -/
structure LossConfirmed (j : LinkId) (s t : State) : Prop where
  attempt : (s.link j).engine.recovery = .aligning ∨ (s.link j).engine.recovery = .qualifying →
    AttemptEnded .lockLost j s t ∧ t.raised = s.raised ++ s.attemptEvents j
      ∧ t.link j = { s.link j with engine := (t.link j).engine }
  lost : (s.link j).engine.recovery = .peerHold ∨ (s.link j).engine.recovery = .damped
      ∨ (s.link j).engine.recovery = .up →
    LostTo .signal .adapting j s t ∧ LossPauses j s t ∧ LossesTold .signal [j] [] s t
      ∧ AttemptBegun none 0 (s.link j).engine.lastFailure j s t
  touched : (∀ i, i ≠ j → t.link i = s.link i)
    ∧ t = { s with
        links := t.links, poolFree := t.poolFree, poolLow := t.poolLow, slotA := t.slotA, slotB := t.slotB,
        raised := t.raised }

/-- The events of an admission with a grade (R105, R111), then only discards. -/
def State.admissionTold (s t : State) (j : LinkId) (grade : Grade) (announced : Bool) : Prop :=
  ∃ rest : List Signal, (∀ x ∈ rest, ∃ i, x = .discard i) ∧ t.raised = s.raised
    ++ (if announced then [.event ⟨.linkUp, j.val, 0⟩] else [])
    ++ (if announced ∧ grade = .degraded then [.event ⟨.degraded, j.val, 0⟩] else []) ++ rest

/-- The probe of a link (R99, R168): broadcast from the management address, with the address, the cage, the slot and the
bring-up epoch as its body. -/
def State.probeFor (s : State) (j : LinkId) : ManagementFrame where
  destination := 0xFFFFFFFFFFFF#48
  source := s.settings.managementAddress
  typeValue := s.settings.managementType
  kind := .probe
  tag := 0
  code := 0
  outcome := 0
  body := bytes48 s.settings.managementAddress ++ [BitVec.ofNat 8 (j.val / 4), BitVec.ofNat 8 (j.val % 4)]
    ++ bytes16 (s.link j).engine.epoch

/-! ### Searches and checksums -/

/-- One round or more of bringing a sum within 32 bits: while it exceeds FFFFFFFFh it becomes its part above the low 32
bits plus its low 32 bits (R35). -/
inductive Folds : Nat → Nat → Prop where
  | done (n : Nat) (h : n ≤ 0xFFFFFFFF) : Folds n n
  | round (n r : Nat) (h : 0xFFFFFFFF < n) (next : Folds (n / 2 ^ 32 + n % 2 ^ 32) r) : Folds n r

/-- Whether an entry is a candidate for a cage and its identity key: undamaged, its range holds the key, and the cage is in
its cage set (R26). -/
abbrev ProfileEntry.isCandidate (e : ProfileEntry) (c : CageId) (key : BitVec 32) : Prop :=
  e.key.toNat ≤ key.toNat ∧ key.toNat < e.key.toNat + 2 ^ e.width ∧ e.cageSet.getLsbD c = true

/-- Whether a search goes on past an entry (R26). -/
abbrev ProfileEntry.isPassed (e : ProfileEntry) (c : CageId) (key : BitVec 32) : Prop :=
  e.intact = true ∧ e.key.toNat ≤ key.toNat ∧ ¬ e.isCandidate c key

/-! ### What always holds -/

/-- The blocks held by parked frames on all links (R133). -/
def State.blocksHeld (s : State) : Nat := (allLinks.map fun j => (s.link j).park.occupancy).sum

/-- Pool free plus the blocks held by parked frames on all links is 8,192 (R133). -/
abbrev State.poolConserved (s : State) : Prop := s.poolFree + s.blocksHeld = poolSize

/-- The queue holds at most 8 requests (R160); penalties lie between 0 and the ceiling, which never exceeds 65,535 (R106);
a token count lies within the burst size in use, and a STOPPED meter holds nothing (R146). -/
structure State.Bounded (s : State) : Prop where
  queue : s.management.queue.length ≤ 8
  ceiling : s.settings.ceiling ≤ 65535
  decayFactor : s.settings.decayFactor ≤ 65535
  penalty : ∀ j, (s.link j).penalty ≤ s.settings.ceiling
  tokens : ∀ j, (s.link j).meter.tokens ≤ (s.link j).meter.burst
  stopped : ∀ j, (s.link j).meter.mode = .stopped → (s.link j).meter = stoppedMeter

/-- The pending set holds at most one entry for each pair of kind and source, none for a kind of level 0, each with a count
of 1 to 255 (R170); a channel's remaining count is at least 1 while it is armed and 0 while it is disarmed, and its
superseded count is 0 while its slot is empty (section 12.1, R175, R178). -/
structure State.Reported (s : State) : Prop where
  pairs : (s.notices.entries.map fun e => (e.kind, e.source)).Nodup
  levels : ∀ e ∈ s.notices.entries, s.notices.levels.get e.kind.place ≠ 0
  counts : ∀ e ∈ s.notices.entries, 1 ≤ e.count ∧ e.count ≤ 255
  armed : ∀ h, (s.channel h).armed = true →
    1 ≤ (s.channel h).remaining ∧ (s.channel h).remaining ≤ 255 ∧ (s.channel h).trigger ≠ none
  disarmed : ∀ h, (s.channel h).armed = false →
    (s.channel h).remaining = 0 ∧ (s.channel h).trigger = none ∧ (s.channel h).seriesLink = none
      ∧ (s.channel h).mode = .single
  superseded : ∀ h, (s.channel h).slot = none → (s.channel h).superseded = 0

/-- The cage states in which the reset line is asserted (R40). -/
def CageMode.holdsReset : CageMode → Bool
  | .absent | .seating | .waitEngage => true
  | .waking | .identifying | .profiling | .profileWait | .powering | .serving | .tripped | .forcedOff | .failed => false

/-- A cage's lines are at the levels of its state (R40), and each of its timers runs only in the state that it times
(R2, R4, R45 to R48). -/
structure Cage.Lawful (m : Cage) : Prop where
  reset : m.resetLine = m.mode.holdsReset
  lowPower : m.lowPower = match m.mode with
    | .serving => false
    | .powering => m.guardTimer.isSome
    | _ => true
  seating : m.seatingTimer.isSome → m.mode = .seating
  ready : m.readyTimer.isSome → m.mode = .waking
  guard : m.guardTimer.isSome → m.mode = .powering
  powerUp : m.powerUpTimer.isSome → m.mode = .powering
  poll : m.pollTimer.isSome → m.mode = .powering

/-- Every cage is lawful. -/
def State.CagesLawful (s : State) : Prop := ∀ c, (s.cage c).Lawful

/-- What holds of a link: it is INACTIVE exactly where its cage's fabric layout leaves its slot unused (R75), and then OFF
(R113); outside SERVING it is INACTIVE or DOWN (R49); PASS and REPLAY are states of an UP link (R113); the meter runs only
in REPLAY, and a stopped meter's ramp timer is stopped (R146); the hold timer runs only in HOLD (R116); the attempt timers
run only in their states (R81, R83). -/
structure State.LinkLawful (s : State) (j : LinkId) : Prop where
  active : (s.link j).engine.recovery = .inactive ↔ s.isActive j = false
  unused : (s.link j).engine.recovery = .inactive → (s.link j).hold.service = .off
  outside : (s.cage (cageOf j)).mode ≠ .serving →
    (s.link j).engine.recovery = .inactive ∨ (s.link j).engine.recovery = .down
  admitted : (s.link j).hold.service = .pass ∨ (s.link j).hold.service = .replay → (s.link j).engine.recovery = .up
  metered : (s.link j).meter.mode ≠ .stopped → (s.link j).hold.service = .replay
  ramping : (s.link j).meter.rampTimer.isSome → (s.link j).meter.mode ≠ .stopped
  held : (s.link j).hold.holdTimer.isSome → (s.link j).hold.service = .hold
  adapting : (s.link j).engine.adaptationTimer.isSome → (s.link j).engine.recovery = .adapting
  aligning : (s.link j).engine.alignmentTimer.isSome → (s.link j).engine.recovery = .aligning

/-- The cages and the links are lawful together. -/
structure State.Lawful (s : State) : Prop where
  cages : s.CagesLawful
  links : ∀ j, s.LinkLawful j

/-- No serial digest stands in more than one place among the positions and the cache, and the cache holds at most 16
records (R60, R61). -/
structure RecoveryMemory.Single (m : RecoveryMemory) : Prop where
  cacheSize : m.cache.length ≤ 16
  cacheOnce : (m.cache.map CageRecord.digest).Nodup
  apart : ∀ c r, m.positions.get c = some r → r.digest ∉ m.cache.map CageRecord.digest
  positionsOnce : ∀ c d r q, m.positions.get c = some r → m.positions.get d = some q → r.digest = q.digest → c = d

/-- The table's keys strictly increase, and it holds at most 256 entries (R20). -/
abbrev ProfileTable.Ordered (t : ProfileTable) : Prop :=
  t.entries.length ≤ 256 ∧ t.entries.Pairwise fun a b => a.key.toNat < b.key.toNat

end Sys2Proof.Machine
end

