-- ==== Sys2Proof/WellFormed.lean ====
section
/-! DEFINITION. The check of a command's operands: the lengths its row's layouts fix. Every other operand's type already
bounds it, and a request's values are checked by its own rule, not here. -/

namespace Sys2Proof

/-- A command whose operands have the lengths the manual gives them: an identity read list and a class map of 8 bytes, a
DSCP map of 64 (section 10.4), a parameter set record of 56 and a MODULE-WRITE's 8 data bytes (R168), the 1 to 32 bytes of
a READ (R8; none for a WRITE), and the up to 16 symbols a codeword can have corrected (0.6, FEC). -/
def Instr.isWellFormed : Instr → Bool
  | .identityReadList _ v => v.length = 8
  | .classMap _ v => v.length = 8
  | .dscpMap _ v => v.length = 64
  | .setWrite _ _ contents => contents.length = 56
  | .moduleWrite _ _ _ _ _ data => data.length = 8
  | .moduleBusTransactionEnd _ data => data.length ≤ 32
  | .codewordDecoded _ corrected _ => corrected ≤ 16
  | .powerOnReset .. | .presentAssertion .. | .presentDeassertionInSeating .. | .removal .. | .alertAssertion ..
  | .seatingTimerExpiry .. | .readyTimerExpiry .. | .moduleBusAttemptFailure .. | .busStretchTimeout .. | .searchEnd
  | .guardTimerExpiry .. | .pollTimerExpiry .. | .powerUpTimerExpiry .. | .laneConverged .. | .adaptationTimerExpiry ..
  | .markerLock .. | .fecLock .. | .alignmentTimerExpiry .. | .lossOfLock .. | .lockLossTimerExpiry ..
  | .windowTimerExpiry .. | .probeIntervalExpiry .. | .decayTickExpiry | .holdTimerExpiry .. | .pauseRefreshExpiry ..
  | .frameFromSwitch .. | .frameFromModule .. | .fabricEgressFree .. | .tokenTick .. | .moduleEgressTransitEnd ..
  | .rampTimerExpiry .. | .servicePortFrame .. | .readStateDevice .. | .readStateCage .. | .readStateLink ..
  | .readCounters .. | .readDiscards .. | .seatingTime .. | .managementReadyTime .. | .serialLocation ..
  | .pageSelectLocation .. | .fabricLayout .. | .alertEnable .. | .lockLossConfirmTime .. | .lossIncrement ..
  | .removalIncrement .. | .ceiling .. | .suppressThreshold .. | .reuseThreshold .. | .decayFactor .. | .decayTick ..
  | .pausable .. | .pauseTime .. | .pauseOnHold .. | .dscpMapEnable .. | .defaultPriority .. | .classLimit ..
  | .criticalLevel .. | .resumeLevel .. | .linkLimit .. | .poolLowMark .. | .managementAddress ..
  | .managementTypeValue .. | .noticeLevel .. | .noticeGap .. | .engage .. | .disengage .. | .deviceRestart ..
  | .cageRestart .. | .tableEdit .. | .tableAppend .. | .tableReplace .. | .tableTruncate .. | .tableCommit ..
  | .commitChecksumDone | .tableRead .. | .setRead .. | .moduleRead .. | .forceGateOff .. | .reArmGate ..
  | .extendHold .. | .forceAdmit .. | .acceptPeer .. | .linkRetry .. | .clearPenalty .. | .flushPark .. | .forgetCage ..
  | .forgetDigest .. | .forgetPeer .. | .forgetAll .. | .readMemoryCageRecords .. | .readMemoryCache ..
  | .readMemoryPeerRecords .. | .snapArm .. | .snapStart .. | .snapDisarm .. | .gapTimerExpiry | .servicePortFree
  | .entryDamage .. | .alertDeassertion .. => true

/-- A well-formed command. -/
abbrev Instr.WellFormed (i : Instr) : Prop := i.isWellFormed = true

end Sys2Proof
end

