-- ==== Sys2Proof/Certificates/Slice0/Obligations.lean ====
section
/-! DEFINITION. The statements for the provers. A statement about a command says what state `u` the command's own change
makes; the step then ends by `State.settle` (and, for a request, by the reply of `State.answered`), whose effects on
everything else are the subject of `SettleTouchesReportingAlone` and `PendingSetTakesEvents`. In an equation between
states every field that is not named is unchanged. -/

open Sys2Proof Sys2Proof.Machine

/-! ### The step and the requests -/

/-- A command at the front of the queue is what a step executes; on an empty queue the step executes the request that
the engine has taken, and with none a microsecond passes (log 16: the model's choice). -/
def Obligations.FrontCommandIsExecuted : Prop :=
  ∀ (c : Instr) (rest : List Instr) (s : State),
    step { s with pending := c :: rest } = exec c { s with pending := rest }
    ∧ (∀ i, s.requestDue = some i → step { s with pending := [] } = exec i { s with pending := [] })
    ∧ (s.requestDue = none → step { s with pending := [] } = .next { s with pending := [], now := s.now + 3125 })

/-- Every well-formed request, written in the model's layout of it (Decode.lean, after R168) and read back, is that
request. -/
def Obligations.RequestsReadBackAsSent : Prop :=
  ∀ (i : Instr) (r : Request), i.WellFormed → encodeRequest i = some r → decodeRequest r = .ok i

/-- A request that reaches a busy engine joins the tail of the queue, or is answered BUSY where 8 wait; it changes
nothing else (R160). A request that the engine has taken from its queue has the effect it has on reaching an idle engine
(log 16: the model's choice), whatever waits behind it: the change it makes is the same, and then it is answered (log
28: the model's choice), or holds the engine while the queue waits on. The reply of READ-STATE DEVICE shows the requests
that wait, and DEVICE-RESTART empties the queue (R162, R165). The answer to the request in execution lets the engine
take the next: requests that fail the header check leave the queue's head, the first that passes is in execution, and
nothing but the engine, the service port and the links' fabric-side egresses changes (R159, R161). -/
def Obligations.EngineServesRequestsInOrder : Prop :=
  (∀ (i : Instr) (r : Request) (s : State) (e : Execution), encodeRequest i = some r →
     s.management.executing = some e → s.isExecuting i = false →
     exec i s = .next
       (if s.management.queue.length < 8 then
         { s with management := { s.management with queue := s.management.queue ++ [r] } }.settle
       else s.answered (requesterOf r) r.code .busy [] []))
  ∧ (∀ (i : Instr) (r : Request) (s : State), i.WellFormed → encodeRequest i = some r → s.engineIdle →
     exec i { s with management := { s.management with executing := some ⟨r, false⟩ } } = exec i s)
  ∧ (∀ (i : Instr) (r : Request) (waiting : List Request) (s : State), i.WellFormed → encodeRequest i = some r →
     s.engineIdle →
     let taken := s.havingTaken r waiting
     (∀ q, i = .deviceRestart q → exec i taken = exec i s)
     ∧ (∀ q, i = .readStateDevice q → exec i taken = .next (taken.respond .done [] taken.deviceBytes).settle)
     ∧ ((∀ q, i ≠ .deviceRestart q) → (∀ q, i ≠ .readStateDevice q) →
       ((∃ (u : State) (o : RequestOutcome) (fields : List Nat) (data : List Byte), u.management = s.management
           ∧ exec i s = .next (u.answered (requesterOf r) r.code o fields data)
           ∧ exec i taken = .next (State.respond o fields data { u with management := taken.management }).settle)
         ∨ ∃ u : State, u.management.executing = some ⟨r, true⟩ ∧ exec i s = .next u.settle
           ∧ exec i taken = .next { u with management := { u.management with queue := waiting } }.settle)
       ∧ ∀ t : State, exec i s = .next t → (∀ x ∈ waiting.head?, (decodeRequest x).isOk) →
         (t.management.executing = none → exec i taken = .next { t with
           management := { t.management with
             executing := waiting.head?.map (⟨·, false⟩), queue := waiting.drop 1 } })
         ∧ (t.management.executing ≠ none → exec i taken = .next { t with
           management := { t.management with queue := waiting } })))
  ∧ (∀ (s : State) (e : Execution) (o : RequestOutcome) (fields : List Nat) (data : List Byte),
     s.management.executing = some e →
     let t := s.respond o fields data
     t.management.executing = (takenNext s.management.queue).map (⟨·, false⟩)
     ∧ t.management.queue = afterTaken s.management.queue
     ∧ t = { s with management := t.management, service := t.service, links := t.links }
     ∧ t.management.commitView = s.management.commitView
     ∧ ∀ j, t.link j = { s.link j with fabricSide := (t.link j).fabricSide })

/-- The end of a step offers what the step raised, one signal after another in the order in which it was raised, and
then lets the service port begin what it can (log 7: the model's choice of the order, and that a channel's SNAPSHOT-DONE
is offered at once). An event is offered as it stands; a discard raises DISCARD where its link's mark is clear and
nothing where it is set; and a window end is offered to the channels, channel 0 first, each of which, armed with that
link as its series link, captures a snapshot of it, counts down, and at 0 disarms and raises SNAPSHOT-DONE (R170, R171,
R176, R177, R178). The end of a step changes nothing else: of the links only the DISCARD marks may change, and of the
notice unit all but the levels (R172, R179). -/
def Obligations.SettleTouchesReportingAlone : Prop :=
  (∀ (s : State) (e : Event) (j : LinkId) (h : ChannelId),
    let c := s.channel h
    s.settle = (s.raised.foldl (fun t x => State.offerSignal x t) { s with raised := [] }).serveOut
    ∧ State.offerSignal (.event e) s = s.offerEvent e
    ∧ ((s.link j).discardMark = true → State.offerSignal (.discard j) s = s)
    ∧ ((s.link j).discardMark = false → State.offerSignal (.discard j) s = s.offerEvent ⟨.discard, j.val, 0⟩)
    ∧ State.offerSignal (.windowEnd j) s = [(0 : ChannelId), 1, 2, 3].foldl (fun t h => State.seriesCapture j h t) s
    ∧ (c.seriesLink ≠ some j ∨ c.trigger = none → State.seriesCapture j h s = s)
    ∧ ∀ t : Trigger, c.armed = true → c.seriesLink = some j → c.trigger = some t →
      let record : SnapshotRecord := ⟨h, t.kind, j.val, c.sequence + 1,
        if t.kind.sourceRange = .link then some (s.captureLink j) else none⟩
      let captured := { c with
        sequence := c.sequence + 1
        slot := some record
        superseded := if c.slot = none then c.superseded else min 255 (c.superseded + 1)
        remaining := c.remaining - 1 }
      (1 < c.remaining → State.seriesCapture j h s = { s with channels := s.channels.set h captured })
      ∧ (c.remaining ≤ 1 → State.seriesCapture j h s = State.offerEvent ⟨.snapshotDone, h.val, 0⟩ { s with
          channels := s.channels.set h { captured with
            armed := false, trigger := none, seriesLink := none, mode := .single } }))
  ∧ ∀ (s : State),
    s.settle = { s with
      raised := []
      notices := s.settle.notices
      channels := s.settle.channels
      links := s.settle.links
      service := s.settle.service }
    ∧ s.settle.notices.levels = s.notices.levels
    ∧ (∀ j, s.settle.link j = { s.link j with discardMark := (s.settle.link j).discardMark })
    ∧ (s.settle.service.sending = none → s.service.sending = none ∧ s.settle.service.replies = [])

/-! ### Configuration -/

/-- An item with a range is clamped to it, and the reply is ADJUSTED, naming the value, exactly where it was clamped; an
item whose encoding holds only values within its range is taken whole and answered DONE; an alert enable is refused for
a cage above 15, and otherwise taken in every cage state. Nothing else changes (R6, R44, R76, R106, R123, R131, R135,
R168, R169). -/
def Obligations.PlainItemsAreTaken : Prop :=
  (∀ (q : Requester) (v : BitVec 16) (s : State), s.engineIdle →
     exec (.seatingTime q v) s = .next
       ({ s with settings := { s.settings with seatingTime := clamp 50 2000 v.toNat } }.answered q 0x10
         (clampOutcome 50 2000 v.toNat) (clampFields 50 2000 v.toNat) [])
     ∧ exec (.managementReadyTime q v) s = .next
       ({ s with settings := { s.settings with managementReadyTime := clamp 0 2000 v.toNat } }.answered q 0x10
         (clampOutcome 0 2000 v.toNat) (clampFields 0 2000 v.toNat) [])
     ∧ exec (.lockLossConfirmTime q v) s = .next
       ({ s with settings := { s.settings with lockLossConfirmTime := clamp 0 10000 v.toNat } }.answered q 0x10
         (clampOutcome 0 10000 v.toNat) (clampFields 0 10000 v.toNat) [])
     ∧ exec (.decayTick q v) s = .next
       ({ s with settings := { s.settings with decayTick := clamp 10 10000 v.toNat } }.answered q 0x10
         (clampOutcome 10 10000 v.toNat) (clampFields 10 10000 v.toNat) [])
     ∧ exec (.pauseTime q v) s = .next
       ({ s with settings := { s.settings with pauseTime := clamp 1 65535 v.toNat } }.answered q 0x10
         (clampOutcome 1 65535 v.toNat) (clampFields 1 65535 v.toNat) [])
     ∧ exec (.classLimit q v) s = .next
       ({ s with settings := { s.settings with classLimit := clamp 1 8192 v.toNat } }.answered q 0x10
         (clampOutcome 1 8192 v.toNat) (clampFields 1 8192 v.toNat) [])
     ∧ exec (.linkLimit q v) s = .next
       ({ s with settings := { s.settings with linkLimit := clamp 1 8192 v.toNat } }.answered q 0x10
         (clampOutcome 1 8192 v.toNat) (clampFields 1 8192 v.toNat) [])
     ∧ exec (.poolLowMark q v) s = .next
       ({ s with settings := { s.settings with poolLowMark := clamp 0 8192 v.toNat } }.answered q 0x10
         (clampOutcome 0 8192 v.toNat) (clampFields 0 8192 v.toNat) []))
  ∧ (∀ (q : Requester) (v : BitVec 16) (b : Byte) (list map dscp : List Byte) (s : State), s.engineIdle →
     list.length = 8 → map.length = 8 → dscp.length = 64 →
     exec (.lossIncrement q v) s = .next
       ({ s with settings := { s.settings with lossIncrement := v.toNat } }.answered q 0x10 .done [] [])
     ∧ exec (.removalIncrement q v) s = .next
       ({ s with settings := { s.settings with removalIncrement := v.toNat } }.answered q 0x10 .done [] [])
     ∧ exec (.decayFactor q v) s = .next
       ({ s with settings := { s.settings with decayFactor := v.toNat } }.answered q 0x10 .done [] [])
     ∧ exec (.dscpMapEnable q b) s = .next
       ({ s with settings := { s.settings with dscpMapEnable := b.getLsbD 0 } }.answered q 0x10 .done [] [])
     ∧ exec (.defaultPriority q b) s = .next
       ({ s with settings := { s.settings with defaultPriority := indexOf 8 b.toNat } }.answered q 0x10 .done [] [])
     ∧ exec (.noticeGap q b) s = .next
       ({ s with settings := { s.settings with noticeGap := b.toNat } }.answered q 0x10 .done [] [])
     ∧ exec (.identityReadList q list) s = .next
       ({ s with settings := { s.settings with
           identityReadList := [(list.getD 0 0, list.getD 1 0), (list.getD 2 0, list.getD 3 0),
             (list.getD 4 0, list.getD 5 0), (list.getD 6 0, list.getD 7 0)] } }.answered q 0x10 .done [] [])
     ∧ exec (.classMap q map) s = .next
       ({ s with settings := { s.settings with
           classMap := Bank.tabulate fun n => indexOf 4 (map.getD n.val 0).toNat } }.answered q 0x10 .done [] [])
     ∧ exec (.dscpMap q dscp) s = .next
       ({ s with settings := { s.settings with
           dscpMap := Bank.tabulate fun n => indexOf 8 (dscp.getD n.val 0).toNat } }.answered q 0x10 .done [] []))
  ∧ (∀ (q : Requester) (cage value : Byte) (s : State), s.engineIdle →
     (15 < cage.toNat → exec (.alertEnable q cage value) s = .next (s.answered q 0x10 .badArgument [] []))
     ∧ ∀ c : CageId, c.val = cage.toNat →
       exec (.alertEnable q cage value) s = .next
         ({ s with cages := s.cages.set c { s.cage c with alertEnable := value.getLsbD 0 } }.answered q 0x10 .done [] []))

/-- An item with a check is refused with BAD-ARGUMENT where the check fails, changing nothing, and is otherwise taken;
the two levels are clamped before their check, and the reply to a new address or type value already carries it (R6,
R106, R135, R164). -/
def Obligations.CheckedItemsAreRefusedOrTaken : Prop :=
  ∀ (q : Requester) (v : BitVec 16) (page offset : Byte) (a : MacAddress) (s : State), s.engineIdle →
    exec (.serialLocation q page offset) s = .next
      (if 240 < offset.toNat then s.answered q 0x10 .badArgument [] []
      else { s with settings := { s.settings with serialLocation := (page, offset) } }.answered q 0x10 .done [] [])
    ∧ exec (.suppressThreshold q v) s = .next
      (if v.toNat = 0 ∨ v.toNat ≤ s.settings.reuseThreshold then s.answered q 0x10 .badArgument [] []
      else { s with settings := { s.settings with suppressThreshold := v.toNat } }.answered q 0x10 .done [] [])
    ∧ exec (.reuseThreshold q v) s = .next
      (if v.toNat = 0 ∨ s.settings.suppressThreshold ≤ v.toNat then s.answered q 0x10 .badArgument [] []
      else { s with settings := { s.settings with reuseThreshold := v.toNat } }.answered q 0x10 .done [] [])
    ∧ exec (.criticalLevel q v) s = .next
      (if clamp 1 8192 v.toNat ≤ s.settings.resumeLevel then s.answered q 0x10 .badArgument [] []
      else { s with settings := { s.settings with criticalLevel := clamp 1 8192 v.toNat } }.answered q 0x10
        (clampOutcome 1 8192 v.toNat) (clampFields 1 8192 v.toNat) [])
    ∧ exec (.resumeLevel q v) s = .next
      (if s.settings.criticalLevel ≤ clamp 0 8191 v.toNat then s.answered q 0x10 .badArgument [] []
      else { s with settings := { s.settings with resumeLevel := clamp 0 8191 v.toNat } }.answered q 0x10
        (clampOutcome 0 8191 v.toNat) (clampFields 0 8191 v.toNat) [])
    ∧ exec (.managementAddress q a) s = .next
      (if a.getLsbD 40 = true then s.answered q 0x10 .badArgument [] []
      else { s with settings := { s.settings with managementAddress := a } }.answered q 0x10 .done [] [])
    ∧ exec (.managementTypeValue q v) s = .next
      (if v.toNat < 0x0600 ∨ v = 0x0800 ∨ v = 0x86DD ∨ v = 0x8100 then s.answered q 0x10 .badArgument [] []
      else { s with settings := { s.settings with managementType := v } }.answered q 0x10 .done [] [])

/-- A new page select location leaves every cage's last page unknown, also after the transaction in flight (R6, R10;
whether that transaction's page select write comes before the change or after it, which the model keeps as a mark, is a
free value: logs 2 and 11); a new ceiling lowers every penalty above it to it and changes no flag (R106). Nothing else
changes. -/
def Obligations.PageSelectAndCeilingReachFurther : Prop :=
  (∀ (q : Requester) (v : Byte) (s : State), s.engineIdle → ∃ u : State,
     exec (.pageSelectLocation q v) s = .next (u.answered q 0x10 .done [] [])
     ∧ u = { s with
         settings := { s.settings with pageSelectLocation := v }
         cages := u.cages
         controllers := u.controllers
         freeCount := s.freeCount + 16 }
     ∧ (∀ c, u.cage c = { s.cage c with lastPage := none })
     ∧ ∀ k, ∃ later : Bool, u.controller k = { s.controller k with
         inFlight := (s.controller k).inFlight.map fun t =>
           if controllerOf t.request.cage = k then
             { t with forgotten := true, wiped := t.wiped || !(t.selecting && later) }
           else t })
  ∧ (∀ (q : Requester) (v : BitVec 16) (s : State), s.engineIdle → ∃ u : State,
     exec (.ceiling q v) s = .next (u.answered q 0x10 .done [] [])
     ∧ u = { s with settings := { s.settings with ceiling := v.toNat }, links := u.links }
     ∧ ∀ j, u.link j = { s.link j with penalty := min v.toNat (s.link j).penalty })

/-- A fabric layout is refused with BAD-ARGUMENT for a cage above 15 or a code that is none of 1, 2 and 4, and with
WRONG-STATE for a cage that has passed its layout check; otherwise the cage takes it, and a slot that becomes unused is
INACTIVE and OFF, its hold at an end, its paused classes released, each with its frame, and its parked frames discarded
FLUSHED: counted, kept in the empty slots and handed on, their blocks back in the pool, one that becomes used is DOWN,
in SHED on an engaged device, and any other is as it was. No other cage and no other link changes (R44, R77, R126, R133,
R140, R141, R143). That a slot that becomes unused keeps its last loss cause is log 31, and that the slots go by
ascending number is log 28: the model's choices. That a class to which no priority maps is released without a frame is
log 29: the model's choice. That the reply goes after the change, so that a reply on a fabric link meets the service
state and the release frames the change leaves there, is log 28: the model's choice. -/
def Obligations.FabricLayoutMovesSlots : Prop :=
  ∀ (q : Requester) (cage value : Byte) (s : State), s.engineIdle →
    ((15 < cage.toNat ∨ layoutOfCode value.toNat = none) →
      exec (.fabricLayout q cage value) s = .next (s.answered q 0x10 .badArgument [] []))
    ∧ ∀ (c : CageId) (l : Layout), c.val = cage.toNat → layoutOfCode value.toNat = some l →
      ((s.cage c).mode = .powering ∨ (s.cage c).mode = .serving ∨ (s.cage c).mode = .tripped
          ∨ (s.cage c).mode = .forcedOff →
        exec (.fabricLayout q cage value) s = .next (s.answered q 0x10 .wrongState [] []))
      ∧ ((s.cage c).mode ≠ .powering → (s.cage c).mode ≠ .serving → (s.cage c).mode ≠ .tripped →
          (s.cage c).mode ≠ .forcedOff → ∃ u : State,
        exec (.fabricLayout q cage value) s = .next (u.answered q 0x10 .done [] [])
        ∧ u = { s with
            cages := s.cages.set c { s.cage c with fabricLayout := l }
            links := u.links, poolFree := u.poolFree, poolLow := u.poolLow, slotA := u.slotA, slotB := u.slotB,
            raised := u.raised }
        ∧ (∀ j, cageOf j ≠ c → u.link j = s.link j)
        ∧ (let unused := (linksOf c).filter fun j => (s.cage c).fabricLayout.uses (slotOf j) && !l.uses (slotOf j)
          let records := unused.flatMap (s.flushRecords .flushed)
          AllDiscarded records s u ∧ u.raised = s.raised ++ records.map (fun r => Signal.discard r.link)
          ∧ u.poolFree = s.poolFree + (unused.map fun j => (s.link j).park.occupancy).sum
          ∧ u.poolLow = if (∃ j ∈ unused, (s.link j).park.isEmpty = false) ∧ s.settings.poolLowMark ≤ u.poolFree
            then false else s.poolLow)
        ∧ ∀ k : SlotId,
          let j := linkOf c k
          let before := (s.cage c).fabricLayout.uses k
          let after := l.uses k
          (before = after → u.link j = s.link j)
          ∧ (before = true ∧ after = false →
            u.link j = { s.link j with
              engine := { emptyEngine .inactive with
                epoch := (s.link j).engine.epoch
                measuredSkew := (s.link j).engine.measuredSkew
                lastFailure := (s.link j).engine.lastFailure }
              hold := { (s.link j).hold with service := .off, holdTimer := none, paused := Bank.fill 4 none }
              park := ⟨Bank.fill 4 [], (u.link j).park.critical⟩
              counters := { (s.link j).counters with discards := (u.link j).counters.discards }
              fabricSide := (u.link j).fabricSide }
            ∧ (∀ n, (u.link j).park.critical.get n
              = if (s.link j).park.fifos.get n = [] then (s.link j).park.critical.get n else false)
            ∧ ReleasesSent j s u)
          ∧ (before = false ∧ after = true →
            u.link j = { s.link j with
              engine := { (s.link j).engine with recovery := .down }
              hold := { (s.link j).hold with service := if s.engaged then .shed else .off } }))

/-- The pausable attribute is refused for a class above 3, and pause-on-hold is always taken. Turning a class off
releases it on every link; turning pause-on-hold off releases, on every link in HOLD, the classes at or below the resume
level. A class that is released so and that some priority maps to has its frame of pause time 0 toward the switch, and
where no frame is due nothing goes toward the switch (R123, R126). That a class to which no priority maps is released
without a frame is log 29: the model's choice. That the reply goes after the change, so that a reply on a fabric link
meets the service state and the release frames the change leaves there, is log 28: the model's choice. -/
def Obligations.PauseItemsReleaseClasses : Prop :=
  ∀ (q : Requester) (cls value : Byte) (s : State), s.engineIdle →
    (3 < cls.toNat → exec (.pausable q cls value) s = .next (s.answered q 0x10 .badArgument [] []))
    ∧ (∀ k : ClassId, k.val = cls.toNat → ∃ u : State,
      exec (.pausable q cls value) s = .next (u.answered q 0x10 .done [] [])
      ∧ u = { s with
          settings := { s.settings with pausable := s.settings.pausable.set k (value.getLsbD 0) }
          links := u.links }
      ∧ (value.getLsbD 0 = true → u.links = s.links)
      ∧ (value.getLsbD 0 = false → ∀ j,
        u.link j = { s.link j with
          hold := { (s.link j).hold with paused := (s.link j).hold.paused.set k none }
          fabricSide := (u.link j).fabricSide }
        ∧ (((s.link j).hold.paused.get k).isSome → prioritiesOf s.settings k ≠ 0 →
          (u.link j).fabricSide.holdsPause ⟨prioritiesOf s.settings k, 0⟩)
        ∧ ((s.link j).hold.paused.get k = none ∨ prioritiesOf s.settings k = 0 →
          (u.link j).fabricSide = (s.link j).fabricSide)))
    ∧ ∃ u : State,
      exec (.pauseOnHold q value) s = .next (u.answered q 0x10 .done [] [])
      ∧ u = { s with settings := { s.settings with pauseOnHold := value.getLsbD 0 }, links := u.links }
      ∧ ∀ j, u.link j = { s.link j with
          hold := { (s.link j).hold with paused := (u.link j).hold.paused }
          fabricSide := (u.link j).fabricSide }
        ∧ (∀ n, (u.link j).hold.paused.get n
          = if s.settings.pauseOnHold ∧ value.getLsbD 0 = false ∧ (s.link j).hold.service = .hold
              ∧ s.occupancy j n ≤ s.settings.resumeLevel
            then none else (s.link j).hold.paused.get n)
        ∧ (∀ n, ((s.link j).hold.paused.get n).isSome → (u.link j).hold.paused.get n = none →
          prioritiesOf s.settings n ≠ 0 → (u.link j).fabricSide.holdsPause ⟨prioritiesOf s.settings n, 0⟩)
        ∧ ((∀ n, prioritiesOf s.settings n = 0 ∨ (u.link j).hold.paused.get n = (s.link j).hold.paused.get n) →
          (u.link j).fabricSide = (s.link j).fabricSide)

/-- A notice level is refused for a kind that is none of 1 to 23, and clamped to 6. A level of 0 removes the kind's
pending entries and, for DISCARD, every mark; nothing else changes (R169, R174). -/
def Obligations.NoticeLevelSilencesKind : Prop :=
  ∀ (q : Requester) (kind value : Byte) (s : State), s.engineIdle →
    (eventKindOfCode kind.toNat = none →
      exec (.noticeLevel q kind value) s = .next (s.answered q 0x10 .badArgument [] []))
    ∧ (∀ n : Nat, 1 ≤ n ∧ n ≤ 23 ↔ (eventKindOfCode n).isSome)
    ∧ ∀ k : EventKind, k.code = kind.toNat → ∃ u : State,
      exec (.noticeLevel q kind value) s = .next
        (u.answered q 0x10 (clampOutcome 0 6 value.toNat) (clampFields 0 6 value.toNat) [])
      ∧ u = { s with
          notices := { s.notices with
            levels := s.notices.levels.set k.place (min 6 value.toNat)
            entries := if value = 0 then s.notices.entries.filter fun e => e.kind ≠ k else s.notices.entries }
          links := u.links }
      ∧ ∀ j, u.link j = { s.link j with
          discardMark := if value = 0 ∧ k = .discard then false else (s.link j).discardMark }

/-! ### The requests that read -/

/-- READ-STATE, SET-READ, READ-MEMORY and TABLE-READ answer with the state they name and change nothing (R33, R38, R73,
R162). A number beyond its range is refused, and a TABLE-READ that asks for too much is answered ADJUSTED, naming its
number (log 18: the model's reading), with what there is. READ-COUNTERS returns the counters of one link, or of all for
FFh, and sets them to 0; READ-DISCARDS returns both slots and empties them; nothing else changes (R166, R167). The
replies have the lengths and the codes R168 gives, and show each field of the state at the offset it gives; a part of a
millisecond counts as a whole one (log 24), and of an empty discard slot every byte is 0, the identity bytes of an
invalid peer record in READ-MEMORY and the index and cage of an absent fault record in TABLE-READ are 0, and the number
of cached records takes one byte (log 27): the model's choices. -/
def Obligations.ReadsAnswerWithTheState : Prop :=
  (∀ (q : Requester) (x : Byte) (start : BitVec 16) (s : State), s.engineIdle →
     exec (.readStateDevice q) s = .next (s.answered q 0x01 .done [] s.deviceBytes)
     ∧ (15 < x.toNat → exec (.readStateCage q x) s = .next (s.answered q 0x01 .badArgument [] []))
     ∧ (∀ c : CageId, c.val = x.toNat → exec (.readStateCage q x) s = .next (s.answered q 0x01 .done [] (s.cageBytes c)))
     ∧ (63 < x.toNat → exec (.readStateLink q x) s = .next (s.answered q 0x01 .badArgument [] []))
     ∧ (∀ j : LinkId, j.val = x.toNat → exec (.readStateLink q x) s = .next (s.answered q 0x01 .done [] (s.linkBytes j)))
     ∧ (31 < x.toNat → exec (.setRead q x) s = .next (s.answered q 0x29 .badArgument [] []))
     ∧ (∀ n : SetId, n.val = x.toNat → exec (.setRead q x) s = .next (s.answered q 0x29 .done [] (s.sets.get n).bytes))
     ∧ exec (.readMemoryCageRecords q) s = .next (s.answered q 0x51 .done []
         (allCages.flatMap fun c => positionBytes (s.memory.held.get c) (s.memory.positions.get c)))
     ∧ exec (.readMemoryCache q) s = .next (s.answered q 0x51 .done []
         (BitVec.ofNat 8 s.memory.cache.length :: s.memory.cache.flatMap CageRecord.bytes))
     ∧ exec (.readMemoryPeerRecords q) s = .next (s.answered q 0x51 .done []
         (allLinks.flatMap fun j => peerBytes (s.memory.peers.get j)))
     ∧ exec (.tableRead q start x) s = .next
       (let count := s.table.entries.length
        let front := BitVec.ofNat 8 s.table.mode.code :: (bytesOf 2 count ++ faultBytes s.table.fault)
        if count < start.toNat then s.answered q 0x25 .badArgument [] []
        else if 64 < x.toNat ∨ count < start.toNat + x.toNat then
          s.answered q 0x25 .adjusted [2] (front
            ++ ((s.table.entries.drop start.toNat).take (min 64 (count - start.toNat))).flatMap ProfileEntry.bytes)
        else s.answered q 0x25 .done []
          (front ++ ((s.table.entries.drop start.toNat).take x.toNat).flatMap ProfileEntry.bytes)))
  ∧ (∀ (q : Requester) (x : Byte) (s : State), s.engineIdle →
     (63 < x.toNat → x ≠ 0xFF → exec (.readCounters q x) s = .next (s.answered q 0x02 .badArgument [] []))
     ∧ (∀ j : LinkId, j.val = x.toNat → exec (.readCounters q x) s = .next
         ({ s with links := s.links.set j { s.link j with counters := zeroCounters } }.answered q 0x02 .done []
           (x :: (s.link j).counters.bytes)))
     ∧ (∃ u : State, exec (.readCounters q 0xFF) s = .next (u.answered q 0x02 .done []
           (allLinks.flatMap fun j => BitVec.ofNat 8 j.val :: (s.link j).counters.bytes))
         ∧ u = { s with links := u.links } ∧ ∀ j, u.link j = { s.link j with counters := zeroCounters })
     ∧ exec (.readDiscards q) s = .next
         ({ s with slotA := none, slotB := none }.answered q 0x03 .done [] (discardBytes s.slotA ++ discardBytes s.slotB)))
  ∧ ((∀ s : State, s.deviceBytes.length = 19 ∧ Spells s.deviceBytes s.deviceFields)
   ∧ (∀ (s : State) (c : CageId), (s.cageBytes c).length = 75 ∧ Spells (s.cageBytes c) (s.cageFields c)
       ∧ (s.cageBytes c).drop 19 = match (s.cage c).workingCopy with
         | none => List.replicate 56 0
         | some (_, p) => p.bytes)
   ∧ (∀ (s : State) (j : LinkId), ((s.link j).engine.laneMap.getD []).length ≤ 8 →
       (s.linkBytes j).length = 132 ∧ Spells (s.linkBytes j) (s.linkFields j))
   ∧ (∀ p : ParameterSet, p.bytes.length = 56 ∧ Spells p.bytes p.fields)
   ∧ (∀ (held : Bool) (r : Option CageRecord), (positionBytes held r).length = 65
       ∧ Spells (positionBytes held r) [(0, 1, held.toNat), (1, 1, r.isSome.toNat)]
       ∧ (positionBytes held r).drop 2 = (r.map CageRecord.bytes).getD (List.replicate 63 0))
   ∧ (∀ r : CageRecord, r.bytes.length = 63 ∧ Spells r.bytes r.fields)
   ∧ (∀ c : Counters, c.bytes.length = 48 ∧ Spells c.bytes c.fields)
   ∧ (∀ d : Option DiscardRecord, (discardBytes d).length = 10 ∧ Spells (discardBytes d) (discardFields d))
   ∧ (∀ p : Option PeerIdentity, (peerBytes p).length = 9 ∧ Spells (peerBytes p) (peerFields 0 p))
   ∧ (∀ e : ProfileEntry, e.bytes.length = 9 ∧ Spells e.bytes e.fields)
   ∧ (∀ f : Option (Nat × CageId), (faultBytes f).length = 3 ∧ Spells (faultBytes f)
       [(0, 1, f.isSome.toNat), (1, 1, (f.map (·.1)).getD 0), (2, 1, (f.map (·.2.val)).getD 0)])
   ∧ ([.absent, .seating, .waitEngage, .waking, .identifying, .profiling, .profileWait, .powering, .serving, .tripped,
        .forcedOff, .failed].map CageMode.code = List.range 12
     ∧ [.none, .layoutMismatch, .powerUpFailed, .identFailed].map FailedCause.code = List.range 4
     ∧ [.inactive, .down, .adapting, .aligning, .qualifying, .peerHold, .damped, .up, .failed].map RecoveryState.code
       = List.range 9
     ∧ [.pass, .replay, .hold, .shed, .off].map ServiceState.code = List.range 5
     ∧ [.none, .removed, .signal, .errors, .gate, .restart].map LossCause.code = List.range 6
     ∧ [.classFull, .linkFull, .poolFull, .stale, .expired, .shed, .flushed, .oversize, .notAdmitted].map
         DiscardReason.code = List.range' 1 9
     ∧ [.pass, .marginal, .fail].map Verdict.code = List.range' 1 3
     ∧ [.none, .noBlocks, .uncorrectable, .rate, .marginalRefused].map VerdictReason.code = List.range 5
     ∧ [.l1, .l2, .l4].map Layout.code = [1, 2, 4] ∧ [.off, .learn, .enforce].map PeerMode.code = List.range 3
     ∧ [.active, .edit].map TableMode.code = List.range 2
     ∧ [.none, .adaptTimeout, .alignTimeout, .skew, .skewShift, .lockLost, .qualFailed].map FailureCause.code
       = List.range 7
     ∧ [.none, .full, .degraded].map Grade.code = List.range 3
     ∧ [.stopped, .metered, .unmetered].map MeterMode.code = List.range 3))

/-! ### The profile table -/

/-- TABLE-APPEND, TABLE-REPLACE and TABLE-TRUNCATE: the first check that fails gives the outcome and nothing changes;
otherwise the entries change as the rule gives, with good check bits, and nothing else does (R30, R31, R32). -/
def Obligations.TableEditsAreCheckedInOrder : Prop :=
  ∀ (q : Requester) (key attr : BitVec 32) (index : Byte) (count : BitVec 16) (s : State), s.engineIdle →
    let e : ProfileEntry :=
      { key := key, width := attr.toNat / 2 ^ 21 % 32, cageSet := attr.extractLsb' 0 16,
        setIndex := (attr.extractLsb' 16 5).toFin, intact := true }
    let entries := s.table.entries
    exec (.tableAppend q key attr) s = .next
      (if s.table.mode = .active then s.answered q 0x21 .wrongState [] []
       else if 16 < e.width ∨ key.toNat % 2 ^ e.width ≠ 0 then s.answered q 0x21 .badArgument [] []
       else if 256 ≤ entries.length then s.answered q 0x21 .full [] []
       else if entries.getLast?.any (fun x => decide (key.toNat ≤ x.key.toNat)) then s.answered q 0x21 .order [] []
       else { s with table := { s.table with entries := entries ++ [e] } }.answered q 0x21 .done [] [])
    ∧ exec (.tableReplace q index key attr) s = .next
      (if s.table.mode = .active then s.answered q 0x22 .wrongState [] []
       else if entries.length ≤ index.toNat ∨ 16 < e.width ∨ key.toNat % 2 ^ e.width ≠ 0 then
         s.answered q 0x22 .badArgument [] []
       else if (0 < index.toNat ∧ entries[index.toNat - 1]?.any (fun x => decide (key.toNat ≤ x.key.toNat)) = true)
           ∨ entries[index.toNat + 1]?.any (fun x => decide (x.key.toNat ≤ key.toNat)) = true then
         s.answered q 0x22 .order [] []
       else { s with table := { s.table with entries := entries.set index.toNat e } }.answered q 0x22 .done [] [])
    ∧ exec (.tableTruncate q count) s = .next
      (if s.table.mode = .active then s.answered q 0x23 .wrongState [] []
       else if entries.length < count.toNat then s.answered q 0x23 .badArgument [] []
       else { s with table := { s.table with entries := entries.take count.toNat } }.answered q 0x23 .done [] [])

/-- The checksum inverts the folded sum of all key and attribute words: of an empty table it is FFFFFFFFh, and the order
of the entries does not affect it (R35). -/
def Obligations.ChecksumInvertsFoldedSum : Prop :=
  tableChecksum [] = 0xFFFFFFFF#32
  ∧ (∀ (entries : List ProfileEntry) (n : Nat),
      Folds ((entries.map fun e =>
        e.key.toNat + (e.width * 2 ^ 21 + e.setIndex.val * 2 ^ 16 + e.cageSet.toNat) % 2 ^ 32).sum) n →
      tableChecksum entries = ~~~ BitVec.ofNat 32 n)
  ∧ (∀ n : Nat, ∃ r, Folds n r ∧ r ≤ 0xFFFFFFFF)
  ∧ ∀ a b : List ProfileEntry, a.Perm b → tableChecksum a = tableChecksum b

/-- A search goes on past an entry that does not end it; it ends at a damaged entry, at the first key above the cage's,
at the first candidate, or past the last entry (R26). With no search in flight and no edit pending, the first waiting
cage in cyclic order after the last served leaves the waiting set and its search starts at entry 0 with its visit and
its identity key; otherwise nothing changes (R23, R25). That a search holds its own view of the entries, taken as it
starts, is log 12, and that the key of a cage without one counts as 0, in states that no run reaches, is log 26: the
model's choices. -/
def Obligations.SearchesRunInTurn : Prop :=
  (∀ (c : CageId) (key : BitVec 32) (before after : List ProfileEntry) (e : ProfileEntry),
     (∀ x ∈ before, x.isPassed c key) →
     searchFrom c key 0 before = .noCandidate
     ∧ (e.intact = false → searchFrom c key 0 (before ++ e :: after) = .damaged before.length)
     ∧ (e.intact = true → key.toNat < e.key.toNat → searchFrom c key 0 (before ++ e :: after) = .noCandidate)
     ∧ (e.intact = true → e.isCandidate c key → searchFrom c key 0 (before ++ e :: after) = .found e.setIndex))
  ∧ (∀ (s : State),
     (s.search.inFlight ≠ none ∨ s.search.editPending = true ∨ (∀ c, s.search.waiting.get c = false) →
       s.chooseSearch = s)
     ∧ ∀ (n : Nat) (c : CageId), s.search.inFlight = none → s.search.editPending = false → n < 16 →
       c.val = (s.search.lastServed.val + 1 + n) % 16 → s.search.waiting.get c = true →
       (∀ (m : Nat) (d : CageId), m < n → d.val = (s.search.lastServed.val + 1 + m) % 16 →
         s.search.waiting.get d = false) →
       s.chooseSearch = { s with search := { s.search with
         inFlight := some ⟨c, (s.cage c).visit, ((s.cage c).identityKey).getD 0, 0, s.table.entries⟩
         waiting := s.search.waiting.set c false
         lastServed := c } })

/-- TABLE-EDIT and TABLE-COMMIT (R23, R24, R34). In EDIT a TABLE-EDIT changes nothing; in ACTIVE it takes the table to
EDIT, empties the waiting set and moves its cages to PROFILE-WAIT, but while a search is in flight the edit is pending
and the engine held. TABLE-COMMIT is refused in ACTIVE, and in EDIT holds the engine while the table as it stands is
summed. At the sum's end, where it is not the supplied one the computed value is answered and the table stays in EDIT;
where it is, the table is ACTIVE with no fault record, and every cage in PROFILE-WAIT is in PROFILING and, but for the
one whose search starts next in the cyclic order, waiting (R25; that all join before the choice is log 15, and that the
sum is of a view of the table, taken as it starts, is log 12: the model's choices). -/
def Obligations.TableModesChange : Prop :=
  (∀ (q : Requester) (checksum : BitVec 32) (s : State) (r : Request), s.engineIdle →
     (s.table.mode = .edit → exec (.tableEdit q) s = .next (s.answered q 0x20 .done [] []))
     ∧ (s.table.mode = .active → s.search.inFlight = none → ∃ u : State,
         exec (.tableEdit q) s = .next (u.answered q 0x20 .done [] [])
         ∧ u = { s with
             table := { s.table with mode := .edit }
             search := { s.search with waiting := Bank.fill 16 false, editPending := false }
             cages := u.cages }
         ∧ ∀ c, u.cage c =
           if s.search.waiting.get c = true ∧ (s.cage c).mode = .profiling then { s.cage c with mode := .profileWait }
           else s.cage c)
     ∧ (s.table.mode = .active → s.search.inFlight ≠ none → encodeRequest (.tableEdit q) = some r →
         exec (.tableEdit q) s = .next { s with
           search := { s.search with editPending := true }
           management := { s.management with executing := some ⟨r, true⟩ } }.settle)
     ∧ (s.table.mode = .active → exec (.tableCommit q checksum) s = .next (s.answered q 0x24 .wrongState [] []))
     ∧ (s.table.mode = .edit → encodeRequest (.tableCommit q checksum) = some r →
         exec (.tableCommit q checksum) s = .next { s with
           management := { s.management with
             executing := some ⟨r, true⟩
             commitView := some s.table.entries } }.settle))
  ∧ (∀ (s : State) (r : Request) (q : Requester) (checksum : BitVec 32) (view : List ProfileEntry),
     s.management.executing = some ⟨r, true⟩ → decodeRequest r = .ok (.tableCommit q checksum) →
     s.management.commitView = some view →
     let base := { s with management := { s.management with commitView := none } }
     (tableChecksum view ≠ checksum → exec .commitChecksumDone s = .next
       (base.respond .checksumMismatch [] (bytes32 (tableChecksum view))).settle)
     ∧ (tableChecksum view = checksum → ∃ u : State,
       exec .commitChecksumDone s = .next (u.respond .done [] (bytes32 checksum)).settle
       ∧ u = { base with
           table := { s.table with mode := .active, fault := none }
           cages := u.cages
           search := u.search }
       ∧ (∀ c, u.cage c =
           if (s.cage c).mode = .profileWait then { s.cage c with mode := .profiling } else s.cage c)
       ∧ (s.search.inFlight = none → s.search.editPending = false →
           let waits := fun c => s.search.waiting.get c || decide ((s.cage c).mode = CageMode.profileWait)
           let next := (List.finRange 16).find? fun n => waits (s.search.lastServed + 1 + n)
           (next = none → u.search = s.search)
           ∧ ∀ n, next = some n →
             let c := s.search.lastServed + 1 + n
             u.search.lastServed = c
             ∧ u.search.inFlight = some ⟨c, (s.cage c).visit, ((s.cage c).identityKey).getD 0, 0, s.table.entries⟩
             ∧ ∀ d, u.search.waiting.get d = (waits d && decide (d ≠ c)))))

/-- A search ends, on its own view of the entries (log 12: the model's choice) (R27, R28, R29): a damaged entry is
recorded with its cage; a cage that is no longer in PROFILING in the same visit gets nothing. Otherwise the cage's
working copy is the named set, whole, the result's event is raised, and the cage is FAILED with LAYOUT-MISMATCH where
the set's layout is not its fabric layout, and enters POWERING where it is (R42, R43, R45). That a guard whose end is
this very moment has ended is log 19: the model's choice. The next search, or the pending edit, follows (R23, R25). -/
def Obligations.SearchResultReachesItsCage : Prop :=
  ∀ (s : State) (x : Search), s.search.inFlight = some x →
    let result := searchFrom x.cage x.key x.next x.view
    let n : SetId := match result with
      | .found n => n
      | .noCandidate | .damaged _ => 0
    let events : List Signal := match result with
      | .found _ => []
      | .noCandidate => [.event ⟨.noProfile, x.cage.val, 0⟩]
      | .damaged _ => [.event ⟨.tableFault, x.cage.val, 0⟩]
    let fault := match result with
      | .damaged i => some (i, x.cage)
      | .found _ | .noCandidate => s.table.fault
    let ended := { s with
      table := { s.table with fault := fault }
      search := { s.search with inFlight := none } }
    let given := { ended with
      cages := s.cages.set x.cage { s.cage x.cage with workingCopy := some (n, s.sets.get n) }
      raised := s.raised ++ events }
    ∃ u : State,
      exec .searchEnd s = .next
        (if s.search.editPending = true then (u.enterEdit.respond .done).settle else u.chooseSearch.settle)
      ∧ (¬ ((s.cage x.cage).mode = .profiling ∧ (s.cage x.cage).visit = x.visit) → u = ended)
      ∧ ((s.cage x.cage).mode = .profiling → (s.cage x.cage).visit = x.visit →
          (s.sets.get n).layout = (s.cage x.cage).fabricLayout → PoweringEntered x.cage given u)
      ∧ ((s.cage x.cage).mode = .profiling → (s.cage x.cage).visit = x.visit →
          (s.sets.get n).layout ≠ (s.cage x.cage).fabricLayout →
          u = { given with
            cages := u.cages, controllers := u.controllers
            raised := s.raised ++ events ++ [.event ⟨.layoutMismatch, x.cage.val, 0⟩] }
          ∧ BusTouched x.cage given u
          ∧ (u.cage x.cage).mode = .failed ∧ (u.cage x.cage).failedCause = .layoutMismatch
          ∧ (u.cage x.cage).Stopped ∧ (u.cage x.cage).busRequests = []
          ∧ (u.cage x.cage).workingCopy = some (n, s.sets.get n)
          ∧ (u.cage x.cage).resetLine = (s.cage x.cage).resetLine)

/-- Damage to an entry leaves it a damaged entry with the bits that stand after it, and changes no event, mode, count or
order; a search or a checksum in progress sees the damage or not, which the rules leave open (R21, R34; log 12: the
model's reading). That the entry's check then fails whatever bits the damage leaves is log 10: the model's choice. -/
def Obligations.DamageMarksEntry : Prop :=
  ∀ (index : Fin 256) (key attr : BitVec 32) (s : State), ∃ seen : Bool,
    let e : ProfileEntry :=
      { key := key, width := attr.toNat / 2 ^ 21 % 32, cageSet := attr.extractLsb' 0 16,
        setIndex := (attr.extractLsb' 16 5).toFin, intact := false }
    let view := fun v : List ProfileEntry => if seen then v.set index.val e else v
    exec (.entryDamage index key attr) s = .next { s with
      table := { s.table with entries := s.table.entries.set index.val e }
      search := { s.search with inFlight := s.search.inFlight.map fun x : Search => { x with view := view x.view } }
      management := { s.management with commitView := s.management.commitView.map view }
      freeCount := s.freeCount + 1 }.settle

/-- SET-WRITE (R37, R168): the record's fields are clamped to their ranges, then checked; with a fault the request is
refused with BAD-ARGUMENT naming every faulty field, and nothing changes; otherwise the whole set is written, and the
reply is ADJUSTED naming every clamped field. Which of two fields a fault of both names (the flag page, the allowance),
and the order in which the fields are named, are log 27: the model's choices. -/
def Obligations.SetWriteClampsThenChecks : Prop :=
  ∀ (q : Requester) (set : Byte) (b : List Byte) (s : State), s.engineIdle → b.length = 56 →
    let byte := fun i => (b.getD i 0).toNat
    let word := fun i => byte i * 256 + byte (i + 1)
    let faults := (if 31 < set.toNat then [0] else [])
      ++ (if byte 0 = 1 ∨ byte 0 = 2 ∨ byte 0 = 4 then [] else [1])
      ++ (if (List.range 8).all (fun n => ((b.drop 4).take 8).count (BitVec.ofNat 8 n) = 1) then [] else [5])
      ++ (if 256 < byte 19 + min 4 (byte 3) then [19] else [])
      ++ (if word 42 < word 40 then [41] else [])
      ++ (if byte 1 ≤ 2 then [] else [2])
    let ranges := [(3, 0, 4, byte 3), (24, 10, 10000, word 24), (26, 1, 1000, word 26), (28, 10, 10000, word 28),
      (30, 10, 10000, word 30), (32, 1, 1000, word 32), (34, 0, 63, byte 34), (35, 0, 7, byte 35),
      (36, 10, 1000, word 36), (38, 1, 15, byte 38), (39, 1, 15, byte 39), (44, 0, 2000, word 44),
      (46, 1, 50000, word 46), (48, 1, 1000, word 48), (50, 2048, 262144, word 50 * 65536 + word 52),
      (54, 1, 2000, word 54)]
    let clamps := (ranges.filter fun x => decide (x.2.2.2 < x.2.1 ∨ x.2.2.1 < x.2.2.2)).map fun x => x.1 + 1
    (faults ≠ [] → exec (.setWrite q set b) s = .next (s.answered q 0x28 .badArgument faults []))
    ∧ (faults = [] → ∀ n : SetId, n.val = set.toNat → ∃ p : ParameterSet,
      exec (.setWrite q set b) s = .next
        ({ s with sets := s.sets.set n p }.answered q 0x28 (if clamps = [] then .done else .adjusted) clamps [])
      ∧ p.layout.code = byte 0 ∧ p.peerMode.code = byte 1 ∧ p.degradedAdmission = (b.getD 2 0).getLsbD 0
      ∧ p.flagLength = clamp 0 4 (byte 3) ∧ (∀ n : LaneId, (p.laneMap.get n).val = byte (4 + n.val))
      ∧ p.receiveInversion = b.getD 12 0 ∧ p.transmitInversion = b.getD 13 0 ∧ p.readyPage = b.getD 14 0
      ∧ p.readyOffset = b.getD 15 0 ∧ p.readyMask = b.getD 16 0 ∧ p.readyValue = b.getD 17 0
      ∧ p.flagPage = b.getD 18 0 ∧ p.flagOffset = b.getD 19 0
      ∧ (∀ n : Fin 4, p.tripMask.get n = b.getD (20 + n.val) 0)
      ∧ p.powerUpLimit = clamp 10 10000 (word 24) ∧ p.guardInterval = clamp 1 1000 (word 26)
      ∧ p.coldLimit = clamp 10 10000 (word 28) ∧ p.warmLimit = clamp 10 10000 (word 30)
      ∧ p.alignmentLimit = clamp 1 1000 (word 32) ∧ p.maxSkew = clamp 0 63 (byte 34) ∧ p.retries = clamp 0 7 (byte 35)
      ∧ p.windowLength = clamp 10 1000 (word 36) ∧ p.passRunNeeded = clamp 1 15 (byte 38)
      ∧ p.failRunLimit = clamp 1 15 (byte 39) ∧ p.allowance = word 40 ∧ p.degradedAllowance = word 42
      ∧ p.holdOff = clamp 0 2000 (word 44) ∧ p.initialRate = clamp 1 50000 (word 46) ∧ p.rampStep = clamp 1 1000 (word 48)
      ∧ p.burstSize = clamp 2048 262144 (word 50 * 65536 + word 52) ∧ p.ageLimit = clamp 1 2000 (word 54))

/-! ### The module buses -/

/-- A controller with no transaction in flight starts the oldest request of the first cage in cyclic order after the
last served, passing over a waiting pass-through at most four times; a pass-through starts where nothing else waits or
it has been bypassed four times. A transaction reads the page select location at its start, and selects a page the
record does not name (R6, R8, R11). -/
def Obligations.ControllerChoosesInTurn : Prop :=
  ∀ (k : ControllerId) (s : State),
    let c := s.controller k
    let waits := fun p : Fin 4 => (s.cage (cageAt k p)).busRequests
    let begun := fun r : BusRequest => some (Transaction.mk r 1 s.settings.pageSelectLocation
      (decide ((s.cage r.cage).lastPage ≠ some r.page)) false false false)
    (c.inFlight ≠ none → s.chooseBus k = s)
    ∧ (c.slot = none → (∀ p, waits p = []) → s.chooseBus k = s)
    ∧ (∀ r, c.inFlight = none → c.slot = some r → (∀ p, waits p = []) ∨ 4 ≤ c.bypass →
        s.chooseBus k = { s with
          controllers := s.controllers.set k { c with slot := none, bypass := 0, inFlight := begun r } })
    ∧ ∀ (n : Nat) (p : Fin 4) (r : BusRequest) (rest : List BusRequest), n < 4 →
        p.val = (c.lastServed.val + 1 + n) % 4 → waits p = r :: rest →
        (∀ (m : Nat) (o : Fin 4), m < n → o.val = (c.lastServed.val + 1 + m) % 4 → waits o = []) →
        c.inFlight = none → c.slot = none ∨ c.bypass < 4 →
        s.chooseBus k = { s with
          cages := s.cages.set (cageAt k p) { s.cage (cageAt k p) with busRequests := rest }
          controllers := s.controllers.set k { c with
            lastServed := p
            bypass := if c.slot = none then c.bypass else c.bypass + 1
            inFlight := begun r } }

/-- MODULE-READ and MODULE-WRITE are refused with BAD-ARGUMENT for a cage above 15, a length beyond their range or bytes
past offset 255, with NOT-PRESENT in ABSENT and SEATING and with WRONG-STATE in WAIT-ENGAGE. Otherwise they hold the
engine and enter the slot of the cage's controller, which chooses at once where it is free (R14, R161). -/
def Obligations.PassThroughEntersSlot : Prop :=
  ∀ (q : Requester) (cage page offset length : Byte) (data : List Byte) (s : State) (write : Bool) (sent : Request),
    s.engineIdle → data.length = 8 →
    let command : Instr := if write then .moduleWrite q cage page offset length data
      else .moduleRead q cage page offset length
    let code : Byte := if write then 0x31 else 0x30
    let limit := if write then 8 else 32
    let good := 1 ≤ length.toNat ∧ length.toNat ≤ limit ∧ offset.toNat + length.toNat ≤ 256
    (15 < cage.toNat ∨ ¬ good → exec command s = .next (s.answered q code .badArgument [] []))
    ∧ ∀ c : CageId, c.val = cage.toNat → good →
      ((s.cage c).mode = .absent ∨ (s.cage c).mode = .seating →
        exec command s = .next (s.answered q code .notPresent [] []))
      ∧ ((s.cage c).mode = .waitEngage → exec command s = .next (s.answered q code .wrongState [] []))
      ∧ ((s.cage c).mode ≠ .absent → (s.cage c).mode ≠ .seating → (s.cage c).mode ≠ .waitEngage →
        encodeRequest command = some sent →
        let r : BusRequest :=
          { requester := .passThrough, cage := c, kind := if write then .write else .read, page := page,
            offset := offset, length := length.toNat, data := if write then data.take length.toNat else [] }
        let k := controllerOf c
        exec command s = .next (State.chooseBus k { s with
          management := { s.management with executing := some ⟨sent, true⟩ }
          controllers := s.controllers.set k { s.controller k with slot := some r, bypass := 0 } }).settle)

/-- The first two attempts of a transaction that fail are followed by another, which selects its page unless the failed
attempt's select was acknowledged, with the record not unknown since, or the record names the page (R9, R10). The third
failure ends it NACK, and a stretch timeout at once STRETCHED: the page is unknown, a pass-through is answered BUS-FAULT
with the cause, an outcome that no longer counts is discarded, an identification makes the cage FAILED with
IDENT-FAILED, a ready poll is due again in 10 ms, and a flag read ends without a trip, a set read-again mark with the
enable on placing another (R8, R10, R12, R14, R18, R47, R52). The controller then chooses. -/
def Obligations.FailedTransactionsEnd : Prop :=
  ∀ (k : ControllerId) (selected : Bool) (s : State) (x : Transaction), (s.controller k).inFlight = some x →
    let c := x.request.cage
    let page := if x.selecting && selected && !x.wiped then some x.request.page else (s.cage c).lastPage
    let ended := { s with
      cages := s.cages.set c { s.cage c with lastPage := none }
      controllers := s.controllers.set k { s.controller k with inFlight := none } }
    (x.attempt < 3 → exec (.moduleBusAttemptFailure k selected) s = .next { s with
      cages := s.cages.set c { s.cage c with lastPage := page }
      controllers := s.controllers.set k { s.controller k with
        inFlight := some { x with
          attempt := x.attempt + 1, selecting := decide (page ≠ some x.request.page), wiped := false } } }.settle)
    ∧ ∀ (command : Instr) (cause : Byte),
      (3 ≤ x.attempt ∧ command = .moduleBusAttemptFailure k selected ∧ cause = 1)
        ∨ (command = .busStretchTimeout k ∧ cause = 2) →
      (x.request.requester = .passThrough →
        exec command s = .next (State.chooseBus k (ended.respond .busFault [] [cause])).settle)
      ∧ ∀ (purpose : Purpose) (visit : BitVec 16), x.request.requester = .monitor purpose visit →
        (x.discarded = true ∨ visit ≠ (s.cage c).visit ∨ (s.cage c).awaits purpose = false →
          exec command s = .next (ended.chooseBus k).settle)
        ∧ (x.discarded = false → visit = (s.cage c).visit → purpose = .identification →
          (s.cage c).mode = .identifying → controllerOf c = k → ∃ u : State,
            exec command s = .next (u.chooseBus k).settle
            ∧ u = { ended with
                cages := u.cages, raised := s.raised ++ [.event ⟨.identFailed, c.val, 0⟩] }
            ∧ (∀ d, d ≠ c → u.cage d = s.cage d)
            ∧ (u.cage c).mode = .failed ∧ (u.cage c).failedCause = .identFailed ∧ (u.cage c).Stopped
            ∧ (u.cage c).busRequests = [] ∧ (u.cage c).identityKey = (s.cage c).identityKey
            ∧ (u.cage c).resetLine = (s.cage c).resetLine)
        ∧ (x.discarded = false → visit = (s.cage c).visit → purpose = .readyPoll → (s.cage c).mode = .powering →
          exec command s = .next (State.chooseBus k { ended with
            cages := s.cages.set c { s.cage c with
              lastPage := none, pollTimer := some (s.now + 10 * 3125000) } }).settle)
        ∧ (x.discarded = false → visit = (s.cage c).visit → purpose = .flagRead →
          (s.cage c).mode = .powering ∨ (s.cage c).mode = .serving →
          (s.cage c).readAgain = false ∨ (s.cage c).alertEnable = false →
          exec command s = .next (State.chooseBus k { ended with
            cages := s.cages.set c { s.cage c with
              lastPage := none, flagRequested := false, readAgain := false } }).settle)
        ∧ (x.discarded = false → visit = (s.cage c).visit → purpose = .flagRead →
          (s.cage c).mode = .powering ∨ (s.cage c).mode = .serving →
          (s.cage c).readAgain = true → (s.cage c).alertEnable = true → controllerOf c = k → ∃ u : State,
            exec command s = .next u.settle
            ∧ u = { s with cages := u.cages, controllers := u.controllers } ∧ BusTouched c s u
            ∧ u.cage c = { s.cage c with
                lastPage := none, flagRequested := true, readAgain := false, busRequests := (u.cage c).busRequests }
            ∧ u.holdsRead c .flagRead (s.workingSet c).flagPage (s.workingSet c).flagOffset
              (s.workingSet c).flagLength)

/-- A transaction ends DONE: its page is the record's, but unknown after a pass-through WRITE over the page select
location, where a new location was taken while it ran, and where the record became unknown after the last page select
write (R6, R10, log 11), and a pass-through is answered DONE with what it read (R8, R14). A READ with other bytes than
it asked for does not occur, and without a transaction nothing ends (log 17: the model's choice). -/
def Obligations.DoneTransactionsEnd : Prop :=
  ∀ (k : ControllerId) (data : List Byte) (s : State),
    ((s.controller k).inFlight = none → exec (.moduleBusTransactionEnd k data) s = .next s.settle)
    ∧ ∀ x : Transaction, (s.controller k).inFlight = some x →
      let c := x.request.cage
      let covers := x.request.requester = .passThrough ∧ x.request.kind = .write
        ∧ x.request.offset.toNat ≤ x.selectLocation.toNat
        ∧ x.selectLocation.toNat < x.request.offset.toNat + x.request.length
      let page := if x.forgotten = true ∨ x.wiped = true ∨ covers then none else some x.request.page
      let ended := { s with
        cages := s.cages.set c { s.cage c with lastPage := page }
        controllers := s.controllers.set k { s.controller k with inFlight := none } }
      (x.request.kind = .read → data.length ≠ x.request.length →
        exec (.moduleBusTransactionEnd k data) s = .next s.settle)
      ∧ (x.request.kind = .write ∨ data.length = x.request.length →
        (x.request.requester = .passThrough → exec (.moduleBusTransactionEnd k data) s = .next
          (State.chooseBus k (ended.respond .done [] (if x.request.kind = .read then data else []))).settle)
        ∧ ∀ (purpose : Purpose) (visit : BitVec 16), x.request.requester = .monitor purpose visit →
          x.discarded = true ∨ visit ≠ (s.cage c).visit ∨ (s.cage c).awaits purpose = false →
          exec (.moduleBusTransactionEnd k data) s = .next (ended.chooseBus k).settle)

/-- A ready poll of the present visit in POWERING that was answered (R47, R49, R68, R78): a byte that under the mask
equals the ready value takes the cage to SERVING, and every active link begins an attempt, warm exactly where the record
in the cage's position is the module's, carries the set's layout and lane map and is seeded for the slot, under the
set's lane map and inversions (R80); another byte is polled again in 10 ms. -/
def Obligations.ReadyPollServes : Prop :=
  ∀ (k : ControllerId) (data : List Byte) (s : State) (x : Transaction) (visit : BitVec 16),
    (s.controller k).inFlight = some x → x.request.kind = .read → data.length = x.request.length →
    x.request.requester = .monitor .readyPoll visit → x.discarded = false →
    let c := x.request.cage
    visit = (s.cage c).visit → (s.cage c).mode = .powering →
    let p := s.workingSet c
    let page := if x.forgotten || x.wiped then none else some x.request.page
    (data.headD 0 &&& p.readyMask ≠ p.readyValue →
      exec (.moduleBusTransactionEnd k data) s = .next (State.chooseBus k { s with
        cages := s.cages.set c { s.cage c with lastPage := page, pollTimer := some (s.now + 10 * 3125000) }
        controllers := s.controllers.set k { s.controller k with inFlight := none } }).settle)
    ∧ (data.headD 0 &&& p.readyMask = p.readyValue → ∃ u : State,
      exec (.moduleBusTransactionEnd k data) s = .next (u.chooseBus k).settle
      ∧ u = { s with
          cages := s.cages.set c { s.cage c with
            lastPage := page, mode := .serving, lowPower := false, guardTimer := none, powerUpTimer := none,
            pollTimer := none }
          controllers := s.controllers.set k { s.controller k with inFlight := none }
          links := u.links }
      ∧ ∀ j, (cageOf j = c ∧ s.isActive j = true →
          AttemptBegun (u.link j).engine.seeds 0 (s.link j).engine.lastFailure j s u
          ∧ ((u.link j).engine.warm = true ↔ ∃ r, s.memory.positions.get c = some r
            ∧ (s.cage c).identityKey = some r.key ∧ (s.cage c).serialDigest = some r.digest ∧ r.valid = true
            ∧ r.layout = p.layout ∧ r.laneMap = p.laneMap ∧ r.seeded.get (slotOf j) = true)
          ∧ (∀ r y, s.memory.positions.get c = some r → (u.link j).engine.seeds = some y →
            y.skew = r.skews.get (slotOf j) ∧ y.settings = (s.moduleLanes j).map fun n => (n, r.seeds.get n))
          ∧ u.link j = { s.link j with engine := (u.link j).engine })
        ∧ (¬ (cageOf j = c ∧ s.isActive j = true) → u.link j = s.link j))

/-- A flag read of the present visit in POWERING or SERVING that was answered (R52): with the alert enable on, a flag
byte that shares a bit with its trip mask byte trips the cage; otherwise the read-again mark, where set with the enable
on, places another flag read. That a trip which finds low-power asserted keeps the guard origin is log 23: the model's
reading of R40. That a class to which no priority maps is released without a frame is log 29: the model's choice. That
the links go by ascending slot, and what one change raises in the order of its causes, is log 28: the model's choice. -/
def Obligations.FlagReadTrips : Prop :=
  ∀ (k : ControllerId) (data : List Byte) (s : State) (x : Transaction) (visit : BitVec 16),
    (s.controller k).inFlight = some x → x.request.kind = .read → data.length = x.request.length →
    x.request.requester = .monitor .flagRead visit → x.discarded = false →
    let c := x.request.cage
    visit = (s.cage c).visit → (s.cage c).mode = .powering ∨ (s.cage c).mode = .serving → controllerOf c = k →
    let page := if x.forgotten || x.wiped then none else some x.request.page
    let ended := { s with
      cages := s.cages.set c { s.cage c with lastPage := page, flagRequested := false }
      controllers := s.controllers.set k { s.controller k with inFlight := none } }
    let trips := (s.cage c).alertEnable = true
      ∧ ∃ n : Fin 4, data.getD n.val 0 &&& (s.workingSet c).tripMask.get n ≠ 0
    (trips → ∃ u : State, exec (.moduleBusTransactionEnd k data) s = .next (u.chooseBus k).settle
      ∧ GateClosed .tripped [.event ⟨.gateTripped, c.val, 0⟩] c ended u)
    ∧ (¬ trips → (s.cage c).readAgain = false ∨ (s.cage c).alertEnable = false →
      exec (.moduleBusTransactionEnd k data) s = .next (State.chooseBus k { ended with
        cages := s.cages.set c { s.cage c with lastPage := page, flagRequested := false, readAgain := false } }).settle)
    ∧ (¬ trips → (s.cage c).readAgain = true → (s.cage c).alertEnable = true → ∃ u : State,
      exec (.moduleBusTransactionEnd k data) s = .next u.settle
      ∧ u = { s with cages := u.cages, controllers := u.controllers } ∧ BusTouched c s u
      ∧ u.cage c = { s.cage c with
          lastPage := page, flagRequested := true, readAgain := false, busRequests := (u.cage c).busRequests }
      ∧ u.holdsRead c .flagRead (s.workingSet c).flagPage (s.workingSet c).flagOffset (s.workingSet c).flagLength)

/-! ### The cages -/

/-- PRESENT: an assertion in ABSENT starts the debounce with the page record unknown (a transaction in flight for the
cage may still make its page select write, a free value: logs 2 and 11), and in SEATING starts it afresh (log 17: the
model's choice); a deassertion in SEATING returns the cage to ABSENT without an event, its record in recovery memory no
longer held (R1, R2, R10, R59). In every other state neither acts, and a stopped timer does not expire (log 17: the
model's choice). The seating timer's expiry, which takes time to its moment (log 3: the model's choice), raises
INSERTED; a disengaged device leaves the cage in WAIT-ENGAGE, and an engaged one takes it to WAKING, its visit number
one higher, its reset line released, its guard origin set and its ready timer running; a ready time of 0 takes it on to
IDENTIFYING at once (R2, R3, R4, R40). -/
def Obligations.PresenceDebouncesIntoInsertion : Prop :=
  (∀ (c : CageId) (s : State),
     let m := s.cage c
     ((s.cage c).mode = .absent → ∃ later : Bool, exec (.presentAssertion c) s = .next { s with
       freeCount := s.freeCount + 1
       cages := s.cages.set c { m with
         present := true, mode := .seating, seatingTimer := some (s.now + s.settings.seatingTime * 3125000),
         lastPage := none }
       controllers := s.controllers.set (controllerOf c) { s.controller (controllerOf c) with
         inFlight := (s.controller (controllerOf c)).inFlight.map fun x : Transaction =>
           if x.request.cage = c then { x with wiped := x.wiped || !(x.selecting && later) } else x } }.settle)
     ∧ (m.mode = .seating → exec (.presentAssertion c) s = .next { s with
         cages := s.cages.set c { m with
           present := true, seatingTimer := some (s.now + s.settings.seatingTime * 3125000) } }.settle)
     ∧ (m.mode ≠ .absent → m.mode ≠ .seating → exec (.presentAssertion c) s = .next s.settle)
     ∧ (m.mode = .seating → exec (.presentDeassertionInSeating c) s = .next { s with
         cages := s.cages.set c { m with present := false, mode := .absent, seatingTimer := none }
         memory := { s.memory with held := s.memory.held.set c false } }.settle)
     ∧ (m.mode ≠ .seating → exec (.presentDeassertionInSeating c) s = .next s.settle))
  ∧ (∀ (c : CageId) (s : State),
     ((s.cage c).seatingTimer = none → exec (.seatingTimerExpiry c) s = .next s.settle)
     ∧ ∀ m : Moment, (s.cage c).seatingTimer = some m →
       let now := max s.now m
       let after := { s with now := now, raised := s.raised ++ [Signal.event ⟨.inserted, c.val, 0⟩] }
       let woken := { s.cage c with
         seatingTimer := none, mode := .waking, visit := (s.cage c).visit + 1, resetLine := false, guardOrigin := now }
       (s.engaged = false → exec (.seatingTimerExpiry c) s = .next { after with
         cages := s.cages.set c { s.cage c with seatingTimer := none, mode := .waitEngage } }.settle)
       ∧ (s.engaged = true → 0 < s.settings.managementReadyTime → exec (.seatingTimerExpiry c) s = .next { after with
           cages := s.cages.set c { woken with
             readyTimer := some (now + s.settings.managementReadyTime * 3125000) } }.settle)
       ∧ (s.engaged = true → s.settings.managementReadyTime = 0 → exec (.seatingTimerExpiry c) s = .next
           (State.enterIdentifying c { after with cages := s.cages.set c { woken with readyTimer := none } }).settle))

/-- The entry to IDENTIFYING latches the read list and the serial location, makes the identity absent and places the
first read (R15); the ready timer's expiry takes time to its moment (log 3: the model's choice). A successful
identification read of the present visit is followed, short of four bytes, by the next location of the latched list, and
then by the sixteen serial bytes; with those the key is the first four bytes, the digest is the folded serial bytes,
recovery memory makes its lookup (with a fresh record whose meaningless fields are free values, log 13), and the cage
goes to PROFILING and its search, or in EDIT to PROFILE-WAIT (R15, R16, R17, R19, R41, R62). -/
def Obligations.IdentificationReadsFiveTimes : Prop :=
  (∀ (c : CageId) (s : State) (m : Moment), (s.cage c).readyTimer = some m →
     exec (.readyTimerExpiry c) s = .next (State.enterIdentifying c { s with now := max s.now m }).settle
     ∧ ∀ s : State, ∃ u : State, s.enterIdentifying c = u
       ∧ u = { s with cages := u.cages, controllers := u.controllers } ∧ BusTouched c s u
       ∧ u.cage c = { s.cage c with
           mode := .identifying, readyTimer := none, identityKey := none, serialDigest := none, identityBytes := [],
           readList := s.settings.identityReadList, serialLocation := s.settings.serialLocation,
           busRequests := (u.cage c).busRequests }
       ∧ u.holdsRead c .identification (s.settings.identityReadList.getD 0 (0, 0)).1
           (s.settings.identityReadList.getD 0 (0, 0)).2 1)
  ∧ (∀ (k : ControllerId) (data : List Byte) (s : State) (x : Transaction) (visit : BitVec 16),
     (s.controller k).inFlight = some x → x.request.kind = .read → data.length = x.request.length →
     x.request.requester = .monitor .identification visit → x.discarded = false →
     let c := x.request.cage
     visit = (s.cage c).visit → (s.cage c).mode = .identifying → controllerOf c = k →
     let bytes := (s.cage c).identityBytes ++ data
     let page := if x.forgotten || x.wiped then none else some x.request.page
     let ended := { s with
       cages := s.cages.set c { s.cage c with lastPage := page }
       controllers := s.controllers.set k { s.controller k with inFlight := none } }
     let key := field32 bytes 0
     let digest := (bytes.drop 4).foldl (fun d b => d.rotateLeft 5 ^^^ b.zeroExtend 32) (0 : BitVec 32)
     let known := fun mode => { ended with
       cages := s.cages.set c { s.cage c with
         lastPage := page, identityKey := some key, serialDigest := some digest, identityBytes := [], mode := mode }
       memory := s.memory.lookup c (freshRecord s.freeCount c key digest)
       freeCount := s.freeCount + 1 }
     ((s.cage c).identityBytes.length < 4 → ∃ u : State,
       exec (.moduleBusTransactionEnd k data) s = .next u.settle
       ∧ u = { s with cages := u.cages, controllers := u.controllers } ∧ BusTouched c s u
       ∧ u.cage c = { s.cage c with
           lastPage := page, identityBytes := bytes, busRequests := (u.cage c).busRequests }
       ∧ (if bytes.length < 4 then
           u.holdsRead c .identification ((s.cage c).readList.getD bytes.length (0, 0)).1
             ((s.cage c).readList.getD bytes.length (0, 0)).2 1
         else u.holdsRead c .identification (s.cage c).serialLocation.1 (s.cage c).serialLocation.2 16))
     ∧ (4 ≤ (s.cage c).identityBytes.length → s.table.mode = .edit →
       exec (.moduleBusTransactionEnd k data) s = .next ((known .profileWait).chooseBus k).settle)
     ∧ (4 ≤ (s.cage c).identityBytes.length → s.table.mode = .active →
       exec (.moduleBusTransactionEnd k data) s = .next (State.chooseBus k (State.chooseSearch { known .profiling with
         search := { s.search with waiting := s.search.waiting.set c true } })).settle))

/-- The timers of POWERING: the guard's end releases low-power, starts the power-up timer and places the first ready
poll; the poll timer's expiry places the next; the power-up timer's expiry makes the cage FAILED with POWER-UP-FAILED,
its lines and timers a stopped module's (R40, R46, R47, R48, R50). An expiry takes time to its moment, and a stopped
timer does not expire (logs 3 and 17: the model's choices). -/
def Obligations.PoweringTimersExpire : Prop :=
  ∀ (c : CageId) (s : State),
    let p := s.workingSet c
    ((s.cage c).guardTimer = none → exec (.guardTimerExpiry c) s = .next s.settle)
    ∧ ((s.cage c).pollTimer = none → exec (.pollTimerExpiry c) s = .next s.settle)
    ∧ ((s.cage c).powerUpTimer = none → exec (.powerUpTimerExpiry c) s = .next s.settle)
    ∧ ∀ m : Moment,
      let now := max s.now m
      ((s.cage c).guardTimer = some m → ∃ u : State, exec (.guardTimerExpiry c) s = .next u.settle
        ∧ u = { s with now := now, cages := u.cages, controllers := u.controllers } ∧ BusTouched c s u
        ∧ u.cage c = { s.cage c with
            guardTimer := none, lowPower := false, powerUpTimer := some (now + p.powerUpLimit * 3125000),
            busRequests := (u.cage c).busRequests }
        ∧ u.holdsRead c .readyPoll p.readyPage p.readyOffset 1)
      ∧ ((s.cage c).pollTimer = some m → ∃ u : State, exec (.pollTimerExpiry c) s = .next u.settle
        ∧ u = { s with now := now, cages := u.cages, controllers := u.controllers } ∧ BusTouched c s u
        ∧ u.cage c = { s.cage c with pollTimer := none, busRequests := (u.cage c).busRequests }
        ∧ u.holdsRead c .readyPoll p.readyPage p.readyOffset 1)
      ∧ ((s.cage c).powerUpTimer = some m → ∃ u : State, exec (.powerUpTimerExpiry c) s = .next u.settle
        ∧ u = { s with
            now := now, cages := u.cages, controllers := u.controllers,
            raised := s.raised ++ [.event ⟨.powerUpFailed, c.val, 0⟩] }
        ∧ BusTouched c s u
        ∧ (u.cage c).mode = .failed ∧ (u.cage c).failedCause = .powerUpFailed ∧ (u.cage c).Stopped
        ∧ (u.cage c).busRequests = [] ∧ (u.cage c).resetLine = (s.cage c).resetLine
        ∧ (u.cage c).workingCopy = (s.cage c).workingCopy)

/-- A removal in any state after SEATING raises REMOVED first and leaves the cage ABSENT with both lines asserted, no
timer, no bus request and no page record, out of the waiting set, its record no longer held; from SERVING every active
link that has left DOWN takes the loss path with cause REMOVED, which raises LINK-LOST, SUPPRESSED where the flag
becomes set and the discards of what it sheds, and nothing else is raised; no other link changes but for the reply to a
pass-through that waited on the cage; the identity key, the serial digest and the working copy are kept (R5). The
transaction in flight for the cage ends ABSENT and its controller chooses again; a pass-through for the cage, waiting or
in flight, is answered NOT-PRESENT, and where there is none the management engine and the service port are as they were
(R13, R14): that the reply goes before the loss path is log 28, the model's choice. In ABSENT a removal acts on nothing
and in SEATING it is the deassertion there (log 17: the model's choice) (R29, R40, R49, R59, R114). That a class to
which no priority maps is released without a frame is log 29: the model's choice. That the links go by ascending slot,
and what one change raises in the order of its causes, is log 28: the model's choice. -/
def Obligations.RemovalLeavesCageAbsent : Prop :=
  ∀ (c : CageId) (s : State),
    let k := controllerOf c
    let slotted := ∃ r, (s.controller k).slot = some r ∧ r.cage = c
    let ended := ∃ x, (s.controller k).inFlight = some x ∧ x.request.cage = c
    let passing := ∃ x, (s.controller k).inFlight = some x ∧ x.request.cage = c
      ∧ x.request.requester = .passThrough
    let left := { s with
      cages := s.cages.set c { s.cage c with busRequests := [], lastPage := none }
      controllers := s.controllers.set k { s.controller k with
        inFlight := (s.controller k).inFlight.filter fun x : Transaction => decide (x.request.cage ≠ c)
        slot := (s.controller k).slot.filter fun r : BusRequest => decide (r.cage ≠ c)
        bypass := if (s.controller k).slot.any (fun r : BusRequest => decide (r.cage = c)) then 0
          else (s.controller k).bypass } }
    ((s.cage c).mode = .absent → exec (.removal c) s = .next s.settle)
    ∧ ((s.cage c).mode = .seating → exec (.removal c) s = exec (.presentDeassertionInSeating c) s)
    ∧ ((s.cage c).mode ≠ .absent → (s.cage c).mode ≠ .seating → ∃ u : State,
      exec (.removal c) s = .next u.settle
      ∧ (u.cage c).mode = .absent ∧ (u.cage c).present = false ∧ (u.cage c).resetLine = true ∧ (u.cage c).Stopped
      ∧ (u.cage c).failedCause = .none ∧ (u.cage c).lastPage = none ∧ (u.cage c).busRequests = []
      ∧ (u.cage c).visit = (s.cage c).visit ∧ (u.cage c).workingCopy = (s.cage c).workingCopy
      ∧ (u.cage c).fabricLayout = (s.cage c).fabricLayout ∧ (u.cage c).alertEnable = (s.cage c).alertEnable
      ∧ (u.cage c).identityKey = (s.cage c).identityKey ∧ (u.cage c).serialDigest = (s.cage c).serialDigest
      ∧ u.memory = { s.memory with held := s.memory.held.set c false }
      ∧ u.search = { s.search with waiting := s.search.waiting.set c false }
      ∧ LossesTold .removed (s.losers c) [.event ⟨.removed, c.val, 0⟩] s u
      ∧ (∀ r, (u.controller (controllerOf c)).slot = some r → r.cage ≠ c)
      ∧ (∀ k, k ≠ controllerOf c → u.controller k = s.controller k)
      ∧ (∀ d, d ≠ c → u.cage d = { s.cage d with busRequests := (u.cage d).busRequests })
      ∧ (∀ j, (s.cage c).mode = .serving → s.departs c j → LostTo .removed .down j s u)
      ∧ (∀ j, (s.cage c).mode = .serving → s.departs c j → ¬ slotted → ¬ passing → LossPauses j s u)
      ∧ (¬ ended → u.controllers = left.controllers ∧ ∀ d, d ≠ c → u.cage d = s.cage d)
      ∧ (ended → u.controllers = (left.chooseBus k).controllers ∧ ∀ d, d ≠ c → u.cage d = (left.chooseBus k).cage d)
      ∧ (¬ slotted → ¬ passing → u.management = s.management ∧ u.service = s.service
          ∧ ∀ j, (s.cage c).mode ≠ .serving ∨ ¬ s.departs c j → u.link j = s.link j)
      ∧ (∀ e, s.management.executing = some e → (slotted ∧ ¬ passing) ∨ (passing ∧ ¬ slotted) →
          let m := s.replyFrame e.request .notPresent [] []
          u.management = { s.management with
            executing := (takenNext s.management.queue).map (⟨·, false⟩), queue := afterTaken s.management.queue }
          ∧ (e.request.port = .service → ∃ more, u.service = { s.service with
              replies := s.service.replies ++ m :: more })
          ∧ ∀ i, e.request.port = .fabric i → (s.link i).hold.service.lanesUp = true →
            (u.link i).fabricSide.holdsReply m)
      ∧ (∀ j, (s.cage c).mode ≠ .serving ∨ ¬ s.departs c j →
          u.link j = { s.link j with fabricSide := (u.link j).fabricSide })
      ∧ u = { s with
          cages := u.cages, controllers := u.controllers, search := u.search, memory := u.memory, links := u.links,
          poolFree := u.poolFree, poolLow := u.poolLow, management := u.management, slotA := u.slotA,
          slotB := u.slotB, service := u.service, raised := u.raised })

/-- ALERT (R51): an assertion counts only in POWERING and SERVING with the enable on; with a flag length of 0 it trips
the cage, while a flag read is asked for it sets the read-again mark, and otherwise it asks for a flag read. A
deassertion changes the input alone, and an assertion of an input that is asserted is none (log 17: the model's choice).
That a trip which finds low-power asserted keeps the guard origin is log 23: the model's reading of R40. That a class to
which no priority maps is released without a frame is log 29: the model's choice. That the links go by ascending slot,
and what one change raises in the order of its causes, is log 28: the model's choice. -/
def Obligations.AlertsAskForFlags : Prop :=
  ∀ (c : CageId) (s : State),
    let m := s.cage c
    let p := s.workingSet c
    let seen := { s with cages := s.cages.set c { m with alert := true } }
    let counts := m.alertEnable = true ∧ (m.mode = .powering ∨ m.mode = .serving)
    exec (.alertDeassertion c) s = .next { s with cages := s.cages.set c { m with alert := false } }.settle
    ∧ (m.alert = true → exec (.alertAssertion c) s = .next s.settle)
    ∧ (m.alert = false → ¬ counts → exec (.alertAssertion c) s = .next seen.settle)
    ∧ (m.alert = false → counts → p.flagLength = 0 → ∃ u : State, exec (.alertAssertion c) s = .next u.settle
        ∧ GateClosed .tripped [.event ⟨.gateTripped, c.val, 0⟩] c seen u)
    ∧ (m.alert = false → counts → p.flagLength ≠ 0 → m.flagRequested = true →
        exec (.alertAssertion c) s = .next { s with
          cages := s.cages.set c { m with alert := true, readAgain := true } }.settle)
    ∧ (m.alert = false → counts → p.flagLength ≠ 0 → m.flagRequested = false → ∃ u : State,
        exec (.alertAssertion c) s = .next u.settle
        ∧ u = { s with cages := u.cages, controllers := u.controllers } ∧ BusTouched c s u
        ∧ u.cage c = { m with alert := true, flagRequested := true, busRequests := (u.cage c).busRequests }
        ∧ u.holdsRead c .flagRead p.flagPage p.flagOffset p.flagLength)

/-- FORCE-GATE-OFF closes the gate of a cage in POWERING or SERVING without an event of its own: from POWERING nothing
is raised, and from SERVING only what the losses of its links raise, LINK-LOST with cause GATE, SUPPRESSED where the
flag becomes set, and the discards of the frames a loss sheds. It renames TRIPPED. RE-ARM-GATE takes a TRIPPED or
FORCED-OFF cage to POWERING with the working copy it holds (R45, R46, R51). In every other state both are refused with
WRONG-STATE, and for a cage above 15 with BAD-ARGUMENT (R54, R55). That a guard whose end is this very moment has ended
is log 19: the model's choice. That a gate closed while low-power is asserted keeps the guard origin is log 23: the
model's reading of R40. That the links go by ascending slot, and what one change raises in the order of its causes, is
log 28: the model's choice. That a class to which no priority maps is released without a frame is log 29: the model's
choice. That the reply goes after the change, so that a reply on a fabric link meets the service state and the release
frames the change leaves there, is log 28: the model's choice. -/
def Obligations.GateRequestsCloseAndReopen : Prop :=
  ∀ (q : Requester) (cage : Byte) (s : State), s.engineIdle →
    (15 < cage.toNat → exec (.forceGateOff q cage) s = .next (s.answered q 0x38 .badArgument [] [])
      ∧ exec (.reArmGate q cage) s = .next (s.answered q 0x39 .badArgument [] []))
    ∧ ∀ c : CageId, c.val = cage.toNat →
      let mode := (s.cage c).mode
      (mode = .powering ∨ mode = .serving → ∃ u : State,
        exec (.forceGateOff q cage) s = .next (u.answered q 0x38 .done [] []) ∧ GateClosed .forcedOff [] c s u)
      ∧ (mode = .tripped → exec (.forceGateOff q cage) s = .next
          ({ s with cages := s.cages.set c { s.cage c with mode := .forcedOff } }.answered q 0x38 .done [] []))
      ∧ (mode ≠ .powering → mode ≠ .serving → mode ≠ .tripped →
          exec (.forceGateOff q cage) s = .next (s.answered q 0x38 .wrongState [] []))
      ∧ (mode = .tripped ∨ mode = .forcedOff → ∃ u : State,
        exec (.reArmGate q cage) s = .next (u.answered q 0x39 .done [] []) ∧ PoweringEntered c s u)
      ∧ (mode ≠ .tripped → mode ≠ .forcedOff →
          exec (.reArmGate q cage) s = .next (s.answered q 0x39 .wrongState [] []))

/-- CAGE-RESTART (R56): in ABSENT nothing changes, in SEATING the timer starts afresh and the guard origin is set (R40);
in every other state the cage returns to SEATING with both lines asserted, its guard origin set, its timer running and
no bus request; where its reset line was released its page record becomes unknown (R10); from SERVING every active link
that has left DOWN takes the loss path with cause RESTART, which adds no penalty, and then every frame parked for the
cage's four links is discarded FLUSHED, or EXPIRED where the loss path has already shed it (R115, R141); the discards
are counted, kept in the empty slots and handed on, and their blocks return to the pool (R133, R140, R143). The links go
by ascending slot (log 28: the model's choice). A link that takes no loss path keeps its engine, service state, hold
timer, last loss and LOSSES counter (R114). A flush in REPLAY, or in HOLD with pause-on-hold off, releases the classes
that it empties; each class that is paused or released has its frame (R124, R126). A transaction in flight goes on;
whether its page select write comes after the restart is a free value (logs 2 and 11). That a class to which no priority
maps is released without a frame is log 29: the model's choice. That the reply goes after the change, so that a reply on
a fabric link meets the service state and the release frames the change leaves there, is log 28: the model's choice. -/
def Obligations.CageRestartSeatsAgain : Prop :=
  ∀ (q : Requester) (cage : Byte) (s : State), s.engineIdle →
    (15 < cage.toNat → exec (.cageRestart q cage) s = .next (s.answered q 0x14 .badArgument [] []))
    ∧ ∀ c : CageId, c.val = cage.toNat →
      let mode := (s.cage c).mode
      let timer := some (s.now + s.settings.seatingTime * 3125000)
      let loses := fun j => mode = .serving ∧ s.departs c j
      let sheds := fun j => loses j ∧ s.shedsAtLoss j
      let records := ((linksOf c).filter fun j => sheds j).flatMap (s.flushRecords .expired)
        ++ ((linksOf c).filter fun j => ¬ sheds j).flatMap (s.flushRecords .flushed)
      (mode = .absent → exec (.cageRestart q cage) s = .next (s.answered q 0x14 .done [] []))
      ∧ (mode = .seating → exec (.cageRestart q cage) s = .next
          ({ s with cages := s.cages.set c { s.cage c with guardOrigin := s.now, seatingTimer := timer } }.answered
            q 0x14 .done [] []))
      ∧ (mode ≠ .absent → mode ≠ .seating → ∃ u : State,
        exec (.cageRestart q cage) s = .next (u.answered q 0x14 .done [] [])
        ∧ u.cage c = { s.cage c with
            mode := .seating, failedCause := .none, resetLine := true, lowPower := true, guardOrigin := s.now,
            seatingTimer := timer, readyTimer := none, guardTimer := none, powerUpTimer := none, pollTimer := none,
            flagRequested := false, readAgain := false, identityBytes := [], busRequests := []
            lastPage := if (s.cage c).resetLine = true then (s.cage c).lastPage else none }
        ∧ (∀ d, d ≠ c → u.cage d = s.cage d)
        ∧ u.search = { s.search with waiting := s.search.waiting.set c false }
        ∧ (∀ j, loses j → LostTo .restart .down j s u)
        ∧ (∀ j, cageOf j = c → u.link j = { s.link j with
              engine := (u.link j).engine, hold := (u.link j).hold, park := (u.link j).park, meter := (u.link j).meter
              counters := { (s.link j).counters with
                losses := (u.link j).counters.losses, discards := (u.link j).counters.discards }
              fabricSide := (u.link j).fabricSide }
            ∧ (∀ k, (u.link j).park.fifos.get k = [])
            ∧ (∀ k, (u.link j).park.critical.get k
              = if (s.link j).park.fifos.get k = [] then (s.link j).park.critical.get k else false))
        ∧ (∀ j, cageOf j = c → ¬ loses j →
            (u.link j).engine = (s.link j).engine ∧ (u.link j).meter = (s.link j).meter
            ∧ (u.link j).hold = { (s.link j).hold with paused := (u.link j).hold.paused }
            ∧ (u.link j).counters.losses = (s.link j).counters.losses)
        ∧ (∀ j k, cageOf j = c → (u.link j).hold.paused.get k =
            (if (s.link j).park.fifos.get k ≠ [] ∧ ((u.link j).hold.service = .replay
                ∨ ((u.link j).hold.service = .hold ∧ s.settings.pauseOnHold = false)) then none
            else if loses j then s.pausedAfterLoss j k
            else (s.link j).hold.paused.get k))
        ∧ (∀ j, cageOf j = c → ReleasesSent j s u)
        ∧ (∀ j k, cageOf j = c → (s.link j).hold.paused.get k = none → ((u.link j).hold.paused.get k).isSome →
            prioritiesOf s.settings k ≠ 0 →
            (u.link j).fabricSide.holdsPause ⟨prioritiesOf s.settings k, s.settings.pauseTime⟩)
        ∧ AllDiscarded records s u
        ∧ u.raised.filter (fun x => !x.isDiscard) = s.raised.filter (fun x => !x.isDiscard)
            ++ ((linksOf c).filter fun j => loses j).map
              (fun j => Signal.event ⟨.linkLost, j.val, LossCause.restart.code⟩)
        ∧ u.poolFree = s.poolFree + ((linksOf c).map fun j => (s.link j).park.occupancy).sum
        ∧ u.poolLow = (if (∃ j ∈ linksOf c, (s.link j).park.isEmpty = false) ∧ s.settings.poolLowMark ≤ u.poolFree
            then false else s.poolLow)
        ∧ (∀ j, cageOf j ≠ c → u.link j = s.link j)
        ∧ (∀ k, k ≠ controllerOf c → u.controller k = s.controller k)
        ∧ (∃ later : Bool, u.controller (controllerOf c) = { s.controller (controllerOf c) with
            inFlight := (s.controller (controllerOf c)).inFlight.map fun x : Transaction =>
              if x.request.cage = c then { x with
                wiped := if (s.cage c).resetLine = true then x.wiped else x.wiped || !(x.selecting && later)
                discarded := decide (x.request.requester ≠ .passThrough) || x.discarded }
              else x })
        ∧ u = { s with
            cages := u.cages, controllers := u.controllers, search := u.search, links := u.links,
            poolFree := u.poolFree, poolLow := u.poolLow, slotA := u.slotA, slotB := u.slotB, raised := u.raised,
            freeCount := if (s.cage c).resetLine = true then s.freeCount else s.freeCount + 1 })

/-! ### The device -/

/-- Power-on reset (R1, R22, R36, R59, R122, R142, R174, section 10.4): the configuration, the parameter sets and every
block take their reset values, each cage from the PRESENT and ALERT levels the reset finds; of every link the engine,
the hold, the store, the meter, the counters and the egresses hold nothing (sections 5.2, 6.1, 8.2, 9.1, 10.6; what
State holds beside the manual's tables is empty: log 1). The queue of commands and the free values' counter go on, and
time starts again (log 20: the model's choice). -/
def Obligations.PowerOnResetSetsEveryBlock : Prop :=
  ∀ (present alert : BitVec 16) (straps : BitVec 4) (s : State), ∃ u : State,
    exec (.powerOnReset present alert straps) s = .next u
    ∧ u.pending = s.pending ∧ u.freeCount = s.freeCount ∧ u.now = 0 ∧ u.raised = [] ∧ u.engaged = false
    ∧ u.settings = {
        seatingTime := 300, managementReadyTime := 250, identityReadList := [(0, 0), (0, 1), (0, 2), (0, 3)],
        serialLocation := (0, 196), pageSelectLocation := 127, lockLossConfirmTime := 100, lossIncrement := 1000,
        removalIncrement := 0, ceiling := 12000, suppressThreshold := 3000, reuseThreshold := 750, decayFactor := 57344,
        decayTick := 1000, pausable := Bank.fill 4 false, pauseTime := 65535, pauseOnHold := false,
        dscpMapEnable := false, dscpMap := Bank.fill 64 0, defaultPriority := 0,
        classMap := Bank.tabulate fun n => ⟨n.val / 2, by omega⟩, classLimit := 256, criticalLevel := 192,
        resumeLevel := 64, linkLimit := 512, poolLowMark := 512,
        managementAddress := BitVec.ofNat 48 (0x02F0A0000000 + straps.toNat), managementType := 0xA17E,
        noticeGap := 10 }
    ∧ (∀ c : CageId, u.cage c = freshCage 0 300 (present.getLsbD c.val) (alert.getLsbD c.val))
    ∧ u.table = ⟨[], .active, none⟩ ∧ (∀ n, (u.sets.get n).bytes =
        [1, 1, 1, 0, 0, 1, 2, 3, 4, 5, 6, 7, 0, 0, 0, 2, 0, 0, 0, 9, 0, 0, 0, 0, 0x07, 0xD0, 0, 20, 0x05, 0xDC, 0, 200,
         0, 100, 32, 3, 0, 100, 3, 2, 0x01, 0x2C, 0x03, 0xE8, 0, 200, 0x0C, 0x35, 0, 10, 0, 1, 0, 0, 0x01, 0xF4])
    ∧ u.search = ⟨none, Bank.fill 16 false, 15, false⟩ ∧ u.controllers = Bank.fill 4 ⟨none, none, 0, 3⟩
    ∧ u.memory = ⟨Bank.fill 16 none, Bank.fill 16 false, [], Bank.fill 64 none⟩
    ∧ (∀ j, u.link j =
        { engine := emptyEngine (if j.val % 4 = 0 then .down else .inactive), penalty := 0, suppressed := false
          hold := ⟨.off, none, .none, Bank.fill 4 none⟩, park := ⟨Bank.fill 4 [], Bank.fill 4 false⟩
          meter := idleMeter, counters := ⟨0, 0, 0, Bank.fill 9 0⟩, discardMark := false
          fabricSide := ⟨none, [], [], []⟩, moduleSide := ⟨none, []⟩, probeSent := none })
    ∧ u.tickTimer = 1000 * 3125000 ∧ u.poolFree = 8192 ∧ u.poolLow = false ∧ u.slotA = none ∧ u.slotB = none
    ∧ u.management = ⟨[], none, none⟩ ∧ u.notices.entries = [] ∧ u.notices.gapTimer = none
    ∧ u.notices.levels.items = [4, 3, 5, 4, 6, 5, 5, 6, 2, 5, 5, 6, 3, 5, 4, 4, 3, 3, 3, 2, 5, 1, 2]
    ∧ (∀ h, u.channel h = ⟨false, none, .single, 0, none, 0, none, 0⟩) ∧ u.service = ⟨none, []⟩

/-- ENGAGE (R4, R120): on an engaged device nothing changes; otherwise the device is engaged, every active link that is
OFF is in SHED, and every cage in WAIT-ENGAGE enters WAKING, or IDENTIFYING where the ready time is 0; with a ready time
above 0 no bus request and no controller changes. -/
def Obligations.EngageOpensService : Prop :=
  ∀ (q : Requester) (s : State), s.engineIdle →
    (s.engaged = true → exec (.engage q) s = .next (s.answered q 0x11 .done [] []))
    ∧ (s.engaged = false → ∃ u : State, exec (.engage q) s = .next (u.answered q 0x11 .done [] [])
      ∧ u = { s with engaged := true, cages := u.cages, controllers := u.controllers, links := u.links }
      ∧ (0 < s.settings.managementReadyTime → u.controllers = s.controllers
          ∧ ∀ c, (u.cage c).busRequests = (s.cage c).busRequests)
      ∧ (∀ j, u.link j =
          if s.isActive j = true ∧ (s.link j).hold.service = .off then
            { s.link j with hold := { (s.link j).hold with service := .shed } }
          else s.link j)
      ∧ (∀ c, (s.cage c).mode ≠ .waitEngage →
          u.cage c = { s.cage c with busRequests := (u.cage c).busRequests })
      ∧ ∀ c, (s.cage c).mode = .waitEngage →
        (0 < s.settings.managementReadyTime →
          u.cage c = { s.cage c with
            mode := .waking, visit := (s.cage c).visit + 1, resetLine := false, guardOrigin := s.now,
            readyTimer := some (s.now + s.settings.managementReadyTime * 3125000),
            busRequests := (u.cage c).busRequests })
        ∧ (s.settings.managementReadyTime = 0 →
          u.cage c = { s.cage c with
            mode := .identifying, visit := (s.cage c).visit + 1, resetLine := false, guardOrigin := s.now,
            readyTimer := none, identityKey := none, serialDigest := none, identityBytes := [],
            readList := s.settings.identityReadList, serialLocation := s.settings.serialLocation,
            busRequests := (u.cage c).busRequests }
          ∧ u.holdsRead c .identification (s.settings.identityReadList.getD 0 (0, 0)).1
            (s.settings.identityReadList.getD 0 (0, 0)).2 1))

/-- DISENGAGE (R3, R78, R121, R126, R141): on a disengaged device nothing changes; otherwise every link is OFF with no
hold timer and a stopped meter, its paused classes released, each with its frame, and its frames discarded FLUSHED:
links ascending, class 3 first, each FIFO from head to tail; the discards are counted, kept in the empty slots and
handed on, and no event is raised; every block returns to the pool, every cage after SEATING returns to WAIT-ENGAGE with
both lines asserted, its timers stopped and all else of it kept, its identity, its layout and its alert enable among
them, and its active links that had left DOWN are DOWN with their epoch, skew and last failure alone, with no loss
counted, no penalty and no cause. A transaction in flight goes on, its outcome void; the page record of a cage whose
reset line was released is unknown, and whether a page select write is still to come is a free value (R10, R12, logs 2
and 11). The profile table, the sets, recovery memory and the configuration are untouched. The DONE goes after the
change, so that of a DISENGAGE that came on a fabric link, OFF by then, it is dropped: R121 and R161 fix no such order,
and it is log 28, the model's choice. That a class to which no priority maps is released without a frame is log 29: the
model's choice. That a cage whose low-power line is asserted keeps its guard origin is log 23: the model's reading of
R40. -/
def Obligations.DisengageClosesService : Prop :=
  ∀ (q : Requester) (s : State), s.engineIdle →
    (s.engaged = false → exec (.disengage q) s = .next (s.answered q 0x12 .done [] []))
    ∧ (s.engaged = true → ∃ u : State, exec (.disengage q) s = .next (u.answered q 0x12 .done [] [])
      ∧ u = { s with
          engaged := false, cages := u.cages, controllers := u.controllers, search := u.search, links := u.links,
          poolFree := s.poolFree + s.blocksHeld, poolLow := u.poolLow, slotA := u.slotA, slotB := u.slotB,
          raised := u.raised, freeCount := u.freeCount }
      ∧ u.search = { s.search with waiting := u.search.waiting }
      ∧ (∀ j, u.link j = { s.link j with
            engine := (u.link j).engine
            hold := { (s.link j).hold with service := .off, holdTimer := none, paused := Bank.fill 4 none }
            park := ⟨Bank.fill 4 [], (u.link j).park.critical⟩
            meter := idleMeter
            counters := { (s.link j).counters with discards := (u.link j).counters.discards }
            fabricSide := (u.link j).fabricSide }
          ∧ (∀ k, (u.link j).park.critical.get k
            = if (s.link j).park.fifos.get k = [] then (s.link j).park.critical.get k else false)
          ∧ ReleasesSent j s u)
      ∧ AllDiscarded (allLinks.flatMap (s.flushRecords .flushed)) s u
      ∧ u.raised = s.raised ++ (allLinks.flatMap (s.flushRecords .flushed)).map (fun r => Signal.discard r.link)
      ∧ u.poolLow = (if (∃ j ∈ allLinks, (s.link j).park.isEmpty = false) ∧ s.settings.poolLowMark ≤ u.poolFree
          then false else s.poolLow)
      ∧ (∀ k, ∃ later : Bool, u.controller k = { s.controller k with
          inFlight := (s.controller k).inFlight.map fun x : Transaction =>
            if controllerOf x.request.cage = k ∧ (s.cage x.request.cage).mode ≠ .absent
                ∧ (s.cage x.request.cage).mode ≠ .seating then { x with
              wiped := if (s.cage x.request.cage).resetLine = true then x.wiped
                else x.wiped || !(x.selecting && later)
              discarded := decide (x.request.requester ≠ .passThrough) || x.discarded }
            else x })
      ∧ ∀ c,
        ((s.cage c).mode = .absent ∨ (s.cage c).mode = .seating → u.cage c = s.cage c
          ∧ u.search.waiting.get c = s.search.waiting.get c
          ∧ ∀ j, cageOf j = c → (u.link j).engine = (s.link j).engine)
        ∧ ((s.cage c).mode ≠ .absent → (s.cage c).mode ≠ .seating →
          u.cage c = { s.cage c with
            mode := .waitEngage, failedCause := .none, resetLine := true, lowPower := true
            guardOrigin := if (s.cage c).lowPower = true then (s.cage c).guardOrigin else s.now
            seatingTimer := none, readyTimer := none, guardTimer := none, powerUpTimer := none, pollTimer := none,
            flagRequested := false, readAgain := false, identityBytes := [], busRequests := []
            lastPage := if (s.cage c).resetLine = true then (s.cage c).lastPage else none }
          ∧ u.search.waiting.get c = false
          ∧ ∀ j, cageOf j = c →
            (s.departs c j → (u.link j).engine = { emptyEngine .down with
              epoch := (s.link j).engine.epoch
              measuredSkew := (s.link j).engine.measuredSkew
              lastFailure := (s.link j).engine.lastFailure })
            ∧ (¬ s.departs c j → (u.link j).engine = (s.link j).engine)))

/-- DEVICE-RESTART (R165): the reply DONE goes first: onto the service port in its order, or onto a link in service
ahead of what ends its service (log 22: the model's choice). The profile table, the sets, the configuration, the notice
levels, the layouts, the alert enables, the working copies and the records of recovery memory are kept; everything else
restarts: the device is disengaged, every present module is seated again, the active links are DOWN with nothing of an
attempt, the meters are STOPPED, the pool is full, no request waits, and the counters and the discard slots hold the
frames flushed alone: links ascending, class 3 first, each FIFO from head to tail (R141). On a link's egress toward the
switch the frame being sent goes on, and what waits there, or begins where none is sent, is in this order the pause
frames that waited before, the DONE where it is due on that link, and a release frame for each paused class that some
priority maps to, class 0 first; no reply made earlier and no forwarded frame waits (logs 8, 22, 28 and 29: the model's
choices). The queue of commands and time go on (log 22: the model's choice). -/
def Obligations.DeviceRestartKeepsConfiguration : Prop :=
  ∀ (q : Requester) (s : State), s.engineIdle → ∃ u : State,
    exec (.deviceRestart q) s = .next u.settle
    ∧ u.table = s.table ∧ u.sets = s.sets ∧ u.settings = s.settings ∧ u.memory.positions = s.memory.positions
    ∧ u.memory.cache = s.memory.cache ∧ u.memory.peers = s.memory.peers ∧ u.notices.levels = s.notices.levels
    ∧ u.now = s.now ∧ u.pending = s.pending ∧ u.engaged = false ∧ u.poolFree = 8192 ∧ u.poolLow = false
    ∧ u.management = ⟨[], none, none⟩ ∧ u.search = ⟨none, Bank.fill 16 false, 15, false⟩
    ∧ u.controllers = Bank.fill 4 ⟨none, none, 0, 3⟩ ∧ u.notices.entries = [] ∧ u.raised = []
    ∧ u.notices.gapTimer = none ∧ u.freeCount = s.freeCount
    ∧ u.tickTimer = s.now + s.settings.decayTick * 3125000
    ∧ (let m := s.replyFrame (askedBy q 0x13) .done [] []
      let sent := s.service.replies ++ [m]
      (q.port = .service → u.service = if s.service.sending = none then
          ⟨sent.head?.map (ManagementFrame.sentUnder s.settings), sent.drop 1⟩ else { s.service with replies := sent })
      ∧ ∀ j, q.port = .fabric j → u.service = s.service
        ∧ ((s.link j).hold.service.lanesUp = true →
          (u.link j).fabricSide.sending = some (.reply m) ∨ .reply m ∈ (u.link j).fabricSide.urgent))
    ∧ (let records := allLinks.flatMap (s.flushRecords .flushed)
      u.slotA = records.head? ∧ u.slotB = (records.drop 1).head?)
    ∧ (∀ h, u.channel h = ⟨false, none, .single, 0, none, 0, none, 0⟩)
    ∧ (∀ c, u.cage c = { freshCage s.now s.settings.seatingTime (s.cage c).present (s.cage c).alert with
          workingCopy := (s.cage c).workingCopy
          fabricLayout := (s.cage c).fabricLayout
          alertEnable := (s.cage c).alertEnable }
        ∧ u.memory.held.get c = ((s.memory.held.get c) && (s.cage c).present))
    ∧ ∀ j, u.link j =
        { engine := emptyEngine (if s.isActive j = true then .down else .inactive), penalty := 0, suppressed := false
          hold := ⟨.off, none, .none, Bank.fill 4 none⟩, park := ⟨Bank.fill 4 [], Bank.fill 4 false⟩
          meter := idleMeter, counters := (u.link j).counters, discardMark := false
          fabricSide := (u.link j).fabricSide, moduleSide := ⟨none, []⟩, probeSent := (s.link j).probeSent }
        ∧ (let e := (s.link j).fabricSide
          let released := (List.finRange 4).filter fun k =>
            ((s.link j).hold.paused.get k).isSome && prioritiesOf s.settings k != 0
          let waiting := e.urgent
            ++ (if q.port = .fabric j ∧ (s.link j).hold.service.lanesUp = true then
                [FabricFrame.reply (s.replyFrame (askedBy q 0x13) .done [] [])] else [])
            ++ released.map fun k => FabricFrame.pause ⟨prioritiesOf s.settings k, 0⟩
          (u.link j).fabricSide = match e.sending with
            | some f => ⟨some f, waiting, [], []⟩
            | none => ⟨waiting.head?.map (FabricFrame.sentUnder s.settings), waiting.drop 1, [], []⟩)
        ∧ (u.link j).counters.parked = 0 ∧ (u.link j).counters.replayed = 0 ∧ (u.link j).counters.losses = 0
        ∧ ∀ reason : DiscardReason, (u.link j).counters.discards.get reason.place
          = if reason = .flushed then min 4294967295 (s.link j).park.frames else 0

/-! ### The link engines -/

/-- A lane of the slot that reports converged in ADAPTING joins the converged set, and the last takes the link to
ALIGNING with its alignment timer running; a report of an attempt that has ended, as its bring-up epoch shows, and any
other report are ignored (R81, R83). The adaptation timer's expiry fails the attempt with ADAPT-TIMEOUT and the
alignment timer's with ALIGN-TIMEOUT; an expiry takes time to its moment, and a stopped timer does not expire (logs 3
and 17: the model's choices; R84, R85, R86). A decoded codeword is counted while the window timer runs, and counts
nothing while it is stopped (R92; log 25: the model's reading), and the probe interval's expiry sends the next probe
(R92, R99). -/
def Obligations.AdaptingAndDecodingEvents : Prop :=
  (∀ (j : LinkId) (n : LaneId) (attempt : BitVec 16) (s : State),
     let l := s.link j
     let e := l.engine
     let converged := e.converged.set n true
     let counts := e.recovery = .adapting ∧ e.epoch = attempt ∧ n ∈ s.moduleLanes j
     (¬ counts → exec (.laneConverged j ⟨n, attempt⟩) s = .next s.settle)
     ∧ (counts → (∃ m ∈ s.moduleLanes j, converged.get m = false) → exec (.laneConverged j ⟨n, attempt⟩) s = .next { s with
         links := s.links.set j { l with engine := { e with converged := converged } } }.settle)
     ∧ (counts → (∀ m ∈ s.moduleLanes j, converged.get m = true) → exec (.laneConverged j ⟨n, attempt⟩) s = .next { s with
         links := s.links.set j { l with engine := { e with
           converged := converged
           recovery := .aligning
           adaptationTimer := none
           alignmentTimer := some (s.now + (s.linkSet j).alignmentLimit * 3125000) } } }.settle))
  ∧ (∀ (j : LinkId) (s : State) (m : Moment),
     let reached := { s with now := max s.now m }
     let failed := fun (cause : FailureCause) (u : State) => AttemptEnded cause j reached u
       ∧ u = { reached with links := u.links, raised := s.raised ++ s.attemptEvents j }
       ∧ u.link j = { s.link j with engine := (u.link j).engine } ∧ ∀ i, i ≠ j → u.link i = s.link i
     ((s.link j).engine.adaptationTimer = none → exec (.adaptationTimerExpiry j) s = .next s.settle)
     ∧ ((s.link j).engine.alignmentTimer = none → exec (.alignmentTimerExpiry j) s = .next s.settle)
     ∧ ((s.link j).engine.adaptationTimer = some m → ∃ u : State,
         exec (.adaptationTimerExpiry j) s = .next u.settle ∧ failed .adaptTimeout u)
     ∧ ((s.link j).engine.alignmentTimer = some m → ∃ u : State,
         exec (.alignmentTimerExpiry j) s = .next u.settle ∧ failed .alignTimeout u))
  ∧ (∀ (j : LinkId) (corrected : Nat) (uncorrectable : Bool) (s : State) (m : Moment),
     let l := s.link j
     let e := l.engine
     (e.windowTimer = none → exec (.codewordDecoded j corrected uncorrectable) s = .next s.settle)
     ∧ (e.windowTimer ≠ none → exec (.codewordDecoded j corrected uncorrectable) s = .next { s with
         links := s.links.set j { l with engine := { e with
           codewords := min 4294967295 (e.codewords + 1)
           corrected := min 4294967295 (e.corrected + corrected)
           uncorrectable := min 4294967295 (e.uncorrectable + if uncorrectable then 1 else 0) } } }.settle)
     ∧ (e.probeTimer = none → exec (.probeIntervalExpiry j) s = .next s.settle)
     ∧ (e.probeTimer = some m → exec (.probeIntervalExpiry j) s = .next { s with
         now := max s.now m
         links := s.links.set j { l with
           engine := { e with probeTimer := some (max s.now m + 10 * 3125000) }
           probeSent := some (s.probeFor j) } }.settle))

/-- Marker lock of a lane whose lock is watched and lost or not yet reached (R83, R88): the lane's offset is taken, a
lock-loss timer stops where lock is whole again, and when every lane first holds marker lock at once in ALIGNING the
skew, the largest offset less the smallest and at most 1,023, is judged: beyond the max skew SKEW, from a warm attempt
more than 4 from the remembered skew SKEW-SHIFT, and otherwise the search for FEC lock begins. Any other report acts on
nothing (log 17: the model's choice); what an attempt has reached is held as log 6 gives. -/
def Obligations.MarkerLockMeasuresSkew : Prop :=
  (∀ offsets : List Nat, ∀ a ∈ offsets, ∀ b ∈ offsets, (∀ x ∈ offsets, b ≤ x ∧ x ≤ a) →
    skewOf offsets = min 1023 (a - b))
  ∧ ∀ (j : LinkId) (n : LaneId) (offset : Nat) (s : State),
    let l := s.link j
    let e := l.engine
    let p := s.linkSet j
    let counts := e.recovery.watchesLock = true ∧ n ∈ s.moduleLanes j ∧ e.markerLock.get n = false
    let locked := e.markerLock.set n true
    let offsets := e.markerOffset.set n offset
    let whole := (∀ m, (e.hadMarker.set n true).get m = true → locked.get m = true)
      ∧ (e.fecReached = true → e.fecLock = true)
    let due := e.recovery = .aligning ∧ e.skewAccepted = false ∧ ∀ m ∈ s.moduleLanes j, locked.get m = true
    let skew := skewOf ((s.moduleLanes j).map offsets.get)
    let remembered := (e.seeds.map SeedsInUse.skew).getD 0
    let shifted := e.warm = true ∧ (remembered + 4 < skew ∨ skew + 4 < remembered)
    ∀ timer : Timer, (whole → timer = none) → (¬ whole → timer = e.lockLossTimer) →
    let taken := { e with
      markerLock := locked, hadMarker := e.hadMarker.set n true, markerOffset := offsets, lockLossTimer := timer }
    let failed := fun (cause : FailureCause) (u : State) =>
      exec (.markerLock j n offset) s = .next u.settle
      ∧ AttemptEnded cause j { s with links := s.links.set j { l with engine := { taken with
          measuredSkew := some skew } } } u
      ∧ u = { s with links := u.links, raised := s.raised ++ s.attemptEvents j }
      ∧ u.link j = { l with engine := (u.link j).engine } ∧ ∀ i, i ≠ j → u.link i = s.link i
    (¬ counts → exec (.markerLock j n offset) s = .next s.settle)
    ∧ (counts → ¬ due → exec (.markerLock j n offset) s = .next { s with
        links := s.links.set j { l with engine := taken } }.settle)
    ∧ (counts → due → p.maxSkew < skew → ∃ u : State, failed .skew u)
    ∧ (counts → due → skew ≤ p.maxSkew → shifted → ∃ u : State, failed .skewShift u)
    ∧ (counts → due → skew ≤ p.maxSkew → ¬ shifted → exec (.markerLock j n offset) s = .next { s with
        links := s.links.set j { l with engine := { taken with
          measuredSkew := some skew, skewAccepted := true } } }.settle)

/-- FEC lock, with every lane's marker lock: in ALIGNING after the accepted skew the link enters QUALIFYING, where its
windows start from 0 and its first probe is sent; where it was reached before it is regained, and a lock-loss timer
stops where lock is whole. Any other acts on nothing (logs 6 and 17: the model's choices; R84, R88, R92, R99). -/
def Obligations.FecLockStartsQualification : Prop :=
  ∀ (j : LinkId) (s : State),
    let l := s.link j
    let e := l.engine
    let markers := ∀ n ∈ s.moduleLanes j, e.markerLock.get n = true
    let regained := e.recovery ≠ .aligning ∧ e.recovery.watchesLock = true ∧ e.fecReached = true
    let whole := ∀ m, e.hadMarker.get m = true → e.markerLock.get m = true
    (¬ markers → exec (.fecLock j) s = .next s.settle)
    ∧ (e.recovery = .aligning → e.skewAccepted = false → exec (.fecLock j) s = .next s.settle)
    ∧ (e.recovery ≠ .aligning → ¬ regained → exec (.fecLock j) s = .next s.settle)
    ∧ (markers → e.recovery = .aligning → e.skewAccepted = true → exec (.fecLock j) s = .next { s with
        links := s.links.set j { l with
          engine := { e with
            recovery := .qualifying, alignmentTimer := none, fecLock := true, fecReached := true, codewords := 0,
            corrected := 0, uncorrectable := 0,
            windowTimer := some (s.now + (s.linkSet j).windowLength * 3125000),
            probeTimer := some (s.now + 10 * 3125000) }
          probeSent := some (s.probeFor j) } }.settle)
    ∧ (markers → regained → whole → exec (.fecLock j) s = .next { s with
        links := s.links.set j { l with engine := { e with fecLock := true, lockLossTimer := none } } }.settle)
    ∧ (markers → regained → ¬ whole → exec (.fecLock j) s = .next { s with
        links := s.links.set j { l with engine := { e with fecLock := true } } }.settle)

/-- A loss of a lane's marker lock, and with it of FEC lock, or of FEC lock alone, starts the lock-loss timer unless it
runs; a confirm time of 0, or the timer's expiry, confirms the loss: before PEER-HOLD the attempt fails, and from there
the link takes the loss path with cause SIGNAL, which raises LINK-LOST, SUPPRESSED where the flag becomes set and the
discards of what it sheds (R88, R89, R107, R114; that FEC lock goes with a marker is log 6: the model's reading). A loss
of what is not held acts on nothing, a stopped timer does not expire, and an expiry takes time to its moment (logs 3 and
17: the model's choices). That a class to which no priority maps is released without a frame is log 29: the model's
choice. That what one loss raises goes in the order of its causes is log 28: the model's choice. -/
def Obligations.LossOfLockIsConfirmed : Prop :=
  ∀ (j : LinkId) (n : LaneId) (s : State) (m : Moment),
    let l := s.link j
    let e := l.engine
    let watched := e.recovery.watchesLock = true
    let confirm := s.settings.lockLossConfirmTime
    let loses := fun (what : LockLoss) (held : Bool) (without : LinkEngine) =>
      let base := { s with links := s.links.set j { l with engine := without } }
      (¬ watched ∨ held = false → exec (.lossOfLock j what) s = .next s.settle)
      ∧ (watched → held = true → e.lockLossTimer ≠ none → exec (.lossOfLock j what) s = .next base.settle)
      ∧ (watched → held = true → e.lockLossTimer = none → 0 < confirm → exec (.lossOfLock j what) s = .next { s with
          links := s.links.set j { l with engine := { without with
            lockLossTimer := some (s.now + confirm * 3125) } } }.settle)
      ∧ (watched → held = true → e.lockLossTimer = none → confirm = 0 → ∃ u : State,
          exec (.lossOfLock j what) s = .next u.settle ∧ LossConfirmed j base u)
    loses (.marker n) (e.markerLock.get n) { e with markerLock := e.markerLock.set n false, fecLock := false }
    ∧ loses .fec e.fecLock { e with fecLock := false }
    ∧ (e.lockLossTimer = none → exec (.lockLossTimerExpiry j) s = .next s.settle)
    ∧ (e.lockLossTimer = some m → watched → ∃ u : State, exec (.lockLossTimerExpiry j) s = .next u.settle
        ∧ LossConfirmed j { s with
            now := max s.now m, links := s.links.set j { l with engine := { e with lockLossTimer := none } } } u)

/-- The verdict of a window is the first of these that holds: FAIL for no codeword, FAIL for an uncorrectable one, FAIL
above the degraded allowance, MARGINAL or, where degraded admission is not allowed, FAIL above the allowance, and PASS
(R93). -/
def Obligations.VerdictIsFirstCondition : Prop :=
  ∀ (p : ParameterSet) (c e x : Nat),
    (c = 0 → verdictOf p c e x = (.fail, .noBlocks))
    ∧ (0 < c → 0 < x → verdictOf p c e x = (.fail, .uncorrectable))
    ∧ (0 < c → x = 0 → p.degradedAllowance * c < e * 1000000 → verdictOf p c e x = (.fail, .rate))
    ∧ (0 < c → x = 0 → e * 1000000 ≤ p.degradedAllowance * c → p.allowance * c < e * 1000000 →
        verdictOf p c e x = if p.degradedAdmission then (.marginal, .none) else (.fail, .marginalRefused))
    ∧ (0 < c → x = 0 → e * 1000000 ≤ p.degradedAllowance * c → e * 1000000 ≤ p.allowance * c →
        verdictOf p c e x = (.pass, .none))

/-- A window ends (R92 to R98, R107): its counts and verdict are the last window, the counts return to 0, the timer
starts again and the runs follow the verdict. A fail run at its limit fails the attempt with QUAL-FAILED and the loss
increment before UP, and in UP takes the loss path with cause ERRORS, each raising SUPPRESSED exactly where the flag
becomes set; a pass run at its length completes qualification; a clean run at its length clears the degraded flag.
Otherwise nothing else changes. The window end is raised before the events of its verdict (log 7: the model's choice);
an expiry takes time to its moment, and a stopped timer does not expire (logs 3 and 17: the model's choices). That a
class to which no priority maps is released without a frame is log 29: the model's choice. That what one loss raises
goes in the order of its causes is log 28: the model's choice. -/
def Obligations.WindowEndAppliesVerdict : Prop :=
  ∀ (j : LinkId) (s : State),
    ((s.link j).engine.windowTimer = none → exec (.windowTimerExpiry j) s = .next s.settle)
    ∧ ∀ m : Moment, (s.link j).engine.windowTimer = some m →
      let now := max s.now m
      let l := s.link j
      let e := l.engine
      let p := s.linkSet j
      let v := verdictOf p e.codewords e.corrected e.uncorrectable
      let passes := if v.1 = .fail then 0 else min 255 (e.passRun + 1)
      let fails := if v.1 = .fail then min 15 (e.failRun + 1) else 0
      let clean := if v.1 = .pass then min 255 (e.cleanRun + 1) else 0
      let ended := { e with
        lastWindow := some ⟨e.codewords, e.corrected, e.uncorrectable, v.1, v.2⟩, codewords := 0, corrected := 0,
        uncorrectable := 0, windowTimer := some (now + p.windowLength * 3125000), passRun := passes, failRun := fails,
        cleanRun := clean,
        marginal := if v.1 = .marginal then true else if v.1 = .fail then false else e.marginal }
      let base := { s with
        now := now, links := s.links.set j { l with engine := ended }, raised := s.raised ++ [.windowEnd j] }
      let tried := e.recovery = .qualifying ∨ e.recovery = .peerHold ∨ e.recovery = .damped
      let failing := v.1 = .fail ∧ p.failRunLimit ≤ fails
      let done := e.recovery = .qualifying ∧ v.1 ≠ .fail ∧ p.passRunNeeded ≤ passes
      let cleared := e.recovery = .up ∧ v.1 = .pass ∧ e.degraded = true ∧ p.passRunNeeded ≤ clean
      (tried → failing → ∃ u : State, exec (.windowTimerExpiry j) s = .next u.settle
        ∧ AttemptEnded .qualFailed j base u
        ∧ (u.link j).penalty = min s.settings.ceiling (l.penalty + s.settings.lossIncrement)
        ∧ (u.link j).suppressed = (l.suppressed || decide (s.settings.suppressThreshold ≤ (u.link j).penalty))
        ∧ u.raised = s.raised ++ [.windowEnd j, .event ⟨.qualFailed, j.val, 0⟩]
          ++ (if s.settings.suppressThreshold ≤ (u.link j).penalty ∧ l.suppressed = false
            then [.event ⟨.suppressed, j.val, 0⟩] else [])
          ++ s.attemptEvents j
        ∧ u.link j = { l with
            engine := (u.link j).engine, penalty := (u.link j).penalty, suppressed := (u.link j).suppressed }
        ∧ (∀ i, i ≠ j → u.link i = s.link i) ∧ u = { base with links := u.links, raised := u.raised })
      ∧ (done → exec (.windowTimerExpiry j) s = .next (base.completeQualification j).settle)
      ∧ (e.recovery = .up → failing → ∃ u : State, exec (.windowTimerExpiry j) s = .next u.settle
        ∧ LostTo .errors .adapting j base u ∧ LossPauses j base u ∧ LossesTold .errors [j] [] base u
        ∧ AttemptBegun none 0 e.lastFailure j base u
        ∧ (∀ i, i ≠ j → u.link i = s.link i)
        ∧ u = { base with
            links := u.links, poolFree := u.poolFree, poolLow := u.poolLow, slotA := u.slotA, slotB := u.slotB,
            raised := u.raised })
      ∧ (cleared → exec (.windowTimerExpiry j) s = .next { base with
          links := s.links.set j { l with
            engine := { ended with degraded := false }
            meter := if l.meter.mode = MeterMode.stopped then l.meter else { l.meter with
              degraded := false
              rateCeiling := (s.linkLayout j).lanesPerLink * 6250
              rampTimer := if l.meter.rampTimer = none then some (now + p.rampStep * 3125000) else l.meter.rampTimer } }
          raised := s.raised ++ [Signal.windowEnd j, Signal.event ⟨.degraded, j.val, 0⟩] }.settle)
      ∧ (¬ (tried ∧ failing) → ¬ done → ¬ (e.recovery = .up ∧ failing) → ¬ cleared →
          exec (.windowTimerExpiry j) s = .next base.settle)

/-- Completed qualification (R95, R101, R102): the grade is DEGRADED where the marginal mark is set, and FULL otherwise;
the peer check raises PEER-SILENT or PEER-CHANGED, stores the heard peer where the mode lets it, and under ENFORCE holds
a silent or changed peer in PEER-HOLD; a link that proceeds is DAMPED while it is suppressed, and is admitted otherwise:
UP and in REPLAY or PASS, its meter started, its classes released by level and its settings and skew recorded (R69,
R105, R119, R126, R147; the settings its lanes have come to are free values: log 5). That a class to which no priority
maps is released without a frame is log 29: the model's choice. -/
def Obligations.PeerCheckDecides : Prop :=
  ∀ (j : LinkId) (s : State),
    let l := s.link j
    let e := l.engine
    let mode := (s.linkSet j).peerMode
    let heard := e.heardPeer.map HeardPeer.identity
    let stored := s.memory.peers.get j
    let changed := heard ≠ none ∧ stored ≠ none ∧ heard ≠ stored
    let grade : Grade := if e.marginal then .degraded else .full
    let events : List Signal := if mode = .off then []
      else if heard = none then [.event ⟨.peerSilent, j.val, 0⟩]
      else if changed then [.event ⟨.peerChanged, j.val, 0⟩]
      else []
    let holds := mode = .enforce ∧ (heard = none ∨ changed)
    let stores := (mode = .learn ∧ heard ≠ none ∧ heard ≠ stored) ∨ (mode = .enforce ∧ heard ≠ none ∧ stored = none)
    let checked := fun recovery => { s with
      links := s.links.set j { l with engine := { e with recovery := recovery, probeTimer := none, grade := grade } }
      memory := if stores then { s.memory with peers := s.memory.peers.set j heard } else s.memory
      raised := s.raised ++ events }
    (holds → s.completeQualification j = checked .peerHold)
    ∧ (¬ holds → l.suppressed = true → s.completeQualification j = checked .damped)
    ∧ (¬ holds → l.suppressed = false →
        Admitted grade j (checked e.recovery) (s.completeQualification j)
        ∧ (checked e.recovery).admissionTold (s.completeQualification j) j grade true)

/-- The damping tick (R108): the tick timer starts again with the tick in force, every penalty becomes its floor of P ×
D / 65,536, and then every suppressed link below the reuse threshold is reused: REUSED is raised, for no other link, and
from DAMPED it is admitted, as R69, R105, R119 and R147 give (the settings its lanes have come to are free values: log
5); its slot stays seeded in its cage's record, with the skew of that admission. The expiry takes time to its moment
(log 3: the model's choice), and the links are judged by ascending number (log 28: the model's choice). That a class to
which no priority maps is released without a frame is log 29: the model's choice. -/
def Obligations.DampingTickDecaysAndReuses : Prop :=
  ∀ s : State, ∃ u : State, exec .decayTickExpiry s = .next u.settle
    ∧ u.tickTimer = max s.now s.tickTimer + s.settings.decayTick * 3125000
    ∧ u.now = max s.now s.tickTimer
    ∧ ∀ j,
      let p := (s.link j).penalty * s.settings.decayFactor / 65536
      let reused := (s.link j).suppressed = true ∧ p < s.settings.reuseThreshold
      (u.link j).penalty = p
      ∧ u.raised.count (.event ⟨.reused, j.val, 0⟩)
          = s.raised.count (.event ⟨.reused, j.val, 0⟩) + (if reused then 1 else 0)
      ∧ ((s.link j).engine.recovery ≠ .damped ∨ ¬ reused →
          u.link j = { s.link j with
            penalty := p, suppressed := (s.link j).suppressed && !decide (p < s.settings.reuseThreshold) })
      ∧ (reused → (s.link j).engine.recovery = .damped → (u.link j).suppressed = false
          ∧ (u.link j).engine.recovery = .up ∧ (u.link j).engine.grade = (s.link j).engine.grade
          ∧ ((u.link j).hold.service = .replay ∨ (u.link j).hold.service = .pass)
          ∧ .event ⟨.linkUp, j.val, 0⟩ ∈ u.raised
          ∧ ∃ a b : State, Admitted (s.link j).engine.grade j a b ∧ a.admissionTold b j (s.link j).engine.grade true
            ∧ a = { s with
                now := u.now, tickTimer := u.tickTimer, links := a.links, memory := a.memory, freeCount := a.freeCount,
                poolFree := a.poolFree, poolLow := a.poolLow, slotA := a.slotA, slotB := a.slotB, raised := a.raised }
            ∧ a.link j = { s.link j with penalty := p, suppressed := false } ∧ u.link j = b.link j
            ∧ (a.ownRecord (cageOf j)).isSome = (s.ownRecord (cageOf j)).isSome
            ∧ ∀ r, b.ownRecord (cageOf j) = some r → ∃ r', u.ownRecord (cageOf j) = some r'
              ∧ r'.skews.get (slotOf j) = r.skews.get (slotOf j) ∧ r'.seeded.get (slotOf j) = true)
      ∧ u = { s with
          now := u.now, tickTimer := u.tickTimer, links := u.links, memory := u.memory, freeCount := u.freeCount,
          poolFree := u.poolFree, poolLow := u.poolLow, slotA := u.slotA, slotB := u.slotB, raised := u.raised }

/-- The requests on an admission (R87, R104, R110, R111): each is refused with BAD-ARGUMENT for a link above 63.
FORCE-ADMIT admits a QUALIFYING, PEER-HOLD or DAMPED link with grade FULL and without LINK-UP; ACCEPT-PEER in PEER-HOLD
stores the heard peer, or clears the record, and proceeds; LINK-RETRY begins a cold attempt from FAILED; in every other
state each is refused with WRONG-STATE. CLEAR-PENALTY is taken in every state and admits a DAMPED link. An admission is
that of R69, R105, R119, R126 and R147 (the settings its lanes have come to are free values: log 5). Of a peer record
that is not valid the reply of ACCEPT-PEER sends 0 as its identity (log 27: the model's choice). That a class to which
no priority maps is released without a frame is log 29: the model's choice. That the reply goes after the change, so
that a reply on a fabric link meets the service state and the release frames the change leaves there, is log 28: the
model's choice. -/
def Obligations.AdmissionRequests : Prop :=
  ∀ (q : Requester) (link : Byte) (s : State), s.engineIdle →
    (63 < link.toNat →
      exec (.forceAdmit q link) s = .next (s.answered q 0x41 .badArgument [] [])
      ∧ exec (.acceptPeer q link) s = .next (s.answered q 0x42 .badArgument [] [])
      ∧ exec (.linkRetry q link) s = .next (s.answered q 0x43 .badArgument [] [])
      ∧ exec (.clearPenalty q link) s = .next (s.answered q 0x44 .badArgument [] []))
    ∧ ∀ j : LinkId, j.val = link.toNat →
      let l := s.link j
      let e := l.engine
      let heard := e.heardPeer.map HeardPeer.identity
      let accepted := { s with memory := { s.memory with peers := s.memory.peers.set j heard } }
      let cleared := { s with links := s.links.set j { l with penalty := 0, suppressed := false } }
      let tried := e.recovery = .qualifying ∨ e.recovery = .peerHold ∨ e.recovery = .damped
      (tried → ∃ u : State, exec (.forceAdmit q link) s = .next (u.answered q 0x41 .done [] [])
        ∧ Admitted .full j s u ∧ s.admissionTold u j .full false)
      ∧ (¬ tried → exec (.forceAdmit q link) s = .next (s.answered q 0x41 .wrongState [] []))
      ∧ (e.recovery = .peerHold → l.suppressed = true → exec (.acceptPeer q link) s = .next
          ({ accepted with links := s.links.set j { l with engine := { e with recovery := .damped } } }.answered
            q 0x42 .done [] (peerBytes heard)))
      ∧ (e.recovery = .peerHold → l.suppressed = false → ∃ u : State,
          exec (.acceptPeer q link) s = .next (u.answered q 0x42 .done [] (peerBytes heard))
          ∧ Admitted e.grade j accepted u ∧ accepted.admissionTold u j e.grade true)
      ∧ (e.recovery ≠ .peerHold → exec (.acceptPeer q link) s = .next (s.answered q 0x42 .wrongState [] []))
      ∧ (e.recovery = .failed → ∃ u : State, exec (.linkRetry q link) s = .next (u.answered q 0x43 .done [] [])
          ∧ AttemptBegun none 0 e.lastFailure j s u ∧ u = { s with links := u.links } ∧ (∀ i, i ≠ j → u.link i = s.link i)
          ∧ u.link j = { l with engine := (u.link j).engine })
      ∧ (e.recovery ≠ .failed → exec (.linkRetry q link) s = .next (s.answered q 0x43 .wrongState [] []))
      ∧ (e.recovery ≠ .damped → exec (.clearPenalty q link) s = .next (cleared.answered q 0x44 .done [] []))
      ∧ (e.recovery = .damped → ∃ u : State, exec (.clearPenalty q link) s = .next (u.answered q 0x44 .done [] [])
          ∧ Admitted e.grade j cleared u ∧ cleared.admissionTold u j e.grade true)

/-! ### Holds, pauses and frames -/

/-- A hold ends unsuccessfully when its timer expires: the link is in SHED, its frames are discarded EXPIRED and its
paused classes released, each with its frame, and HOLD-EXPIRED is raised after the discards (R117, R141). A pause
refresh sends the class's pause frame again and restarts its timer at half the pause time, in whole quanta (R125).
EXTEND-HOLD lengthens a hold to at most 2,000 ms from now, is TOO-LATE in SHED and WRONG-STATE elsewhere (R118).
FLUSH-PARK empties a link's store with FLUSHED discards, answers with the frames and blocks, releases the classes it
empties where the link releases by level, and ends an UNMETERED replay (R126, R154, R156). An expiry takes time to its
moment, a stopped timer does not expire, the reply to an EXTEND-HOLD names the extension only where the extension itself
was clamped, and its remaining time counts a part of a millisecond as a whole one (logs 3, 17, 18 and 24: the model's
choices). That a class to which no priority maps is refreshed and released without a frame is log 29: the model's
choice. That the reply goes after the change, so that a reply on a fabric link meets the service state and the release
frames the change leaves there, is log 28: the model's choice. -/
def Obligations.HoldsEndExtendAndFlush : Prop :=
  (∀ (j : LinkId) (s : State),
    ((s.link j).hold.holdTimer = none → exec (.holdTimerExpiry j) s = .next s.settle)
    ∧ ∀ m : Moment, (s.link j).hold.holdTimer = some m → ∃ u : State, exec (.holdTimerExpiry j) s = .next u.settle
      ∧ u.link j = { s.link j with
          hold := ⟨.shed, none, (s.link j).hold.lastLoss, Bank.fill 4 none⟩
          park := (u.link j).park
          counters := { (s.link j).counters with discards := (u.link j).counters.discards }
          fabricSide := (u.link j).fabricSide }
      ∧ (let due := { s with now := max s.now m }
        Flushed .expired j due u ∧ ReleasesSent j due u
        ∧ u.raised = s.raised ++ (due.flushRecords .expired j).map (fun _ => .discard j)
            ++ [.event ⟨.holdExpired, j.val, 0⟩])
      ∧ (∀ i, i ≠ j → u.link i = s.link i)
      ∧ u = { s with
          now := max s.now m, links := u.links, poolFree := u.poolFree, poolLow := u.poolLow, slotA := u.slotA,
          slotB := u.slotB, raised := u.raised })
  ∧ (∀ (j : LinkId) (k : ClassId) (s : State),
    ((s.link j).hold.paused.get k = none → exec (.pauseRefreshExpiry j k) s = .next s.settle)
    ∧ ∀ m : Moment, (s.link j).hold.paused.get k = some m → ∃ u : State,
      exec (.pauseRefreshExpiry j k) s = .next u.settle
      ∧ u = { s with now := max s.now m, links := u.links } ∧ (∀ i, i ≠ j → u.link i = s.link i)
      ∧ u.link j = { s.link j with
          hold := { (s.link j).hold with
            paused := (s.link j).hold.paused.set k (some (max s.now m
              + max 1 (s.settings.pauseTime / 2) * ((s.linkLayout j).slots * 4))) }
          fabricSide := (u.link j).fabricSide }
      ∧ (prioritiesOf s.settings k ≠ 0 →
          (u.link j).fabricSide.holdsPause ⟨prioritiesOf s.settings k, s.settings.pauseTime⟩)
      ∧ (prioritiesOf s.settings k = 0 → (u.link j).fabricSide = (s.link j).fabricSide))
  ∧ ∀ (q : Requester) (link : Byte) (extension : BitVec 16) (s : State), s.engineIdle →
    (63 < link.toNat → exec (.extendHold q link extension) s = .next (s.answered q 0x40 .badArgument [] [])
      ∧ exec (.flushPark q link) s = .next (s.answered q 0x45 .badArgument [] []))
    ∧ ∀ j : LinkId, j.val = link.toNat →
      let l := s.link j
      let n := extension.toNat
      let clamped := n < 1 ∨ 2000 < n
      let longest := s.now + 2000 * 3125000
      ((∀ m, l.hold.service = .hold → l.hold.holdTimer = some m →
        let lengthened := m + max 1 (min 2000 n) * 3125000
        let held := { s with links := s.links.set j { l with
          hold := { l.hold with holdTimer := some (min longest lengthened) } } }
        exec (.extendHold q link extension) s = .next (held.answered q 0x40
          (if clamped ∨ longest < lengthened then .adjusted else .done) (if clamped then [1] else [])
          (s.timerBytes (some (min longest lengthened)))))
      ∧ (l.hold.service = .shed → exec (.extendHold q link extension) s = .next (s.answered q 0x40 .tooLate [] []))
      ∧ (l.hold.service ≠ .hold → l.hold.service ≠ .shed →
          exec (.extendHold q link extension) s = .next (s.answered q 0x40 .wrongState [] []))
      ∧ ∃ u : State, exec (.flushPark q link) s = .next
          (u.answered q 0x45 .done [] (bytesOf 2 l.park.frames ++ bytesOf 2 l.park.occupancy))
        ∧ Flushed .flushed j s u ∧ ReleasesSent j s u
        ∧ u.raised = s.raised ++ (s.flushRecords .flushed j).map (fun _ => .discard j)
        ∧ (l.meter.mode = .unmetered → (u.link j).hold.service = .pass ∧ (u.link j).meter = idleMeter
            ∧ ∀ k, (u.link j).hold.paused.get k = none)
        ∧ (l.meter.mode ≠ .unmetered → (u.link j).hold.service = l.hold.service ∧ (u.link j).meter = l.meter
            ∧ ∀ k, (u.link j).hold.paused.get k
              = if l.park.fifos.get k ≠ [] ∧ s.levelReleases j then none else l.hold.paused.get k)
        ∧ u.link j = { l with
            hold := { l.hold with service := (u.link j).hold.service, paused := (u.link j).hold.paused }
            meter := (u.link j).meter
            park := (u.link j).park
            counters := { l.counters with discards := (u.link j).counters.discards }
            fabricSide := (u.link j).fabricSide }
        ∧ (∀ i, i ≠ j → u.link i = s.link i)
        ∧ u = { s with
            links := u.links, poolFree := u.poolFree, poolLow := u.poolLow, slotA := u.slotA, slotB := u.slotB,
            raised := u.raised })

/-- A frame on the management address, from the service port or from the switch on a link whose lanes are up, reaches
the engine where it is a REQUEST of the type value in force, and is otherwise discarded without a count (R158); on an
idle engine it is in execution, for the next step on an empty queue (log 16: the model's choice), or answered where its
header or outline fails, and on a busy one it waits or is answered BUSY (R159, R160, R161). On the service port any
other frame is discarded without a count. -/
def Obligations.ManagementFramesReachEngine : Prop :=
  ∀ (j : LinkId) (frame : List Byte) (s : State) (onLink : Bool),
    let command : Instr := if onLink then .frameFromSwitch j frame else .servicePortFrame frame
    let r := requestIn (if onLink then .fabric j else .service) frame
    64 ≤ frame.length → frame.length ≤ 9216 →
    (onLink = true → (s.link j).engine.recovery ≠ .inactive ∧ (s.link j).hold.service.lanesUp = true) →
    (destinationOf frame ≠ s.settings.managementAddress → onLink = false → exec command s = .next s.settle)
    ∧ (destinationOf frame = s.settings.managementAddress →
      (typeOf frame ≠ s.settings.managementType ∨ kindOf frame ≠ 1 → exec command s = .next s.settle)
      ∧ (typeOf frame = s.settings.managementType → kindOf frame = 1 →
        (∀ i, s.engineIdle → decodeRequest r = .ok i → exec command s = .next { s with
          management := { s.management with executing := some ⟨r, false⟩ } }.settle)
        ∧ (∀ o, s.engineIdle → decodeRequest r = .error o → exec command s = .next (s.sendReply r o [] []).settle)
        ∧ (∀ e, s.management.executing = some e → s.management.queue.length < 8 → exec command s = .next { s with
          management := { s.management with queue := s.management.queue ++ [r] } }.settle)
        ∧ (8 ≤ s.management.queue.length → exec command s = .next (s.sendReply r .busy [] []).settle)))

/-- A frame from the switch (R129, R132, R158): too short a reception and one on an INACTIVE slot are no frames (log 21:
the model's choice); a frame above 9,216 bytes is discarded OVERSIZE, one for the management address on a link whose
lanes are down SHED, and a data frame SHED in SHED and OFF; it passes in PASS, behind the frames that wait for the
egress (log 9: the model's choice), and in HOLD and REPLAY it is offered to the park store (R136). In REPLAY the meter
then judges its candidate where the frame has joined an empty FIFO, be it one that its own displacements emptied, or was
admissible and has displaced frames of the candidate's class down to no more than there were; and where nothing is
judged, a replay that has nothing left to send ends (R149, R154). A discard is counted for its reason, kept in the first
empty slot and handed on (R143, R167). That a class to which no priority maps is released without a frame is log 29: the
model's choice. -/
def Obligations.SwitchFramesFollowService : Prop :=
  ∀ (j : LinkId) (frame : List Byte) (s : State),
    let l := s.link j
    let priority := priorityOf s.settings frame
    let k := s.settings.classMap.get priority
    let command : Instr := .frameFromSwitch j frame
    let discarded := fun (reason : DiscardReason) (cls : Option ClassId) (length : Nat) =>
      let record : DiscardRecord := ⟨reason, j, cls, length, BitVec.ofNat 32 (s.now / 3125)⟩
      { s with
        links := s.links.set j { l with counters := { l.counters with
          discards := l.counters.discards.set reason.place (min 4294967295 (l.counters.discards.get reason.place + 1)) } }
        slotA := if s.slotA = none then some record else s.slotA
        slotB := if s.slotA ≠ none ∧ s.slotB = none then some record else s.slotB
        raised := s.raised ++ [Signal.discard j] }
    (frame.length < 64 ∨ l.engine.recovery = .inactive → exec command s = .next s.settle)
    ∧ (64 ≤ frame.length → l.engine.recovery ≠ .inactive →
      (9216 < frame.length → exec command s = .next (discarded .oversize none (min 65535 frame.length)).settle)
      ∧ (frame.length ≤ 9216 → destinationOf frame = s.settings.managementAddress → l.hold.service.lanesUp = false →
          exec command s = .next (discarded .shed none frame.length).settle)
      ∧ (frame.length ≤ 9216 → destinationOf frame ≠ s.settings.managementAddress →
        (l.hold.service = .shed ∨ l.hold.service = .off →
          exec command s = .next (discarded .shed (some k) frame.length).settle)
        ∧ (l.hold.service = .pass → l.moduleSide = ⟨none, []⟩ → exec command s = .next { s with
            links := s.links.set j { l with moduleSide := ⟨some frame, []⟩ } }.settle)
        ∧ (∀ f, l.hold.service = .pass → l.moduleSide.transit = some f → exec command s = .next { s with
            links := s.links.set j { l with moduleSide := ⟨some f, l.moduleSide.waiting ++ [frame]⟩ } }.settle)
        ∧ (l.hold.service = .hold → l.meter.mode = .stopped →
            exec command s = .next (s.park j k priority frame).settle)
        ∧ (l.hold.service = .replay →
            let v := s.park j k priority frame
            let before := (l.park.fifos.get k).length
            let joinsEmpty := (frame.length + 255) / 256 ≤ s.settings.classLimit
              ∧ ((v.link j).park.fifos.get k).length = 1
            let displaces := (frame.length + 255) / 256 ≤ s.settings.classLimit ∧ l.park.fifos.get k ≠ []
              ∧ (∀ h, k < h → l.park.fifos.get h = []) ∧ ((v.link j).park.fifos.get k).length ≤ before
            (joinsEmpty ∨ displaces → exec command s = .next (v.judge j).settle)
            ∧ (¬ joinsEmpty → ¬ displaces → ¬ v.replayDone j → exec command s = .next v.settle)
            ∧ (¬ joinsEmpty → ¬ displaces → v.replayDone j →
                ∃ u : State, exec command s = .next u.settle ∧ ReplayEnded j v u))
        ∧ (l.hold.service = .replay → ∃ u : State, exec command s = .next u.settle
            ∧ ((u.link j).hold.service = .replay ∨ (u.link j).hold.service = .pass)
            ∧ (u.link j).engine = l.engine ∧ (u.link j).penalty = l.penalty ∧ (∀ i, i ≠ j → u.link i = s.link i)
            ∧ u = { s with
                links := u.links, poolFree := u.poolFree, poolLow := u.poolLow, slotA := u.slotA, slotB := u.slotB,
                raised := u.raised })))

/-- The admission procedure and what follows it (R136, R137): an arrival above the class limit on its own is discarded
alone. Otherwise the oldest frames of its own class are displaced, no more than it takes, each with the reason of the
first condition that then holds, and the arrival joins the tail with its blocks from the pool; where the class is
emptied and a condition still holds, the arrival itself is discarded. Other classes are untouched. The discards are
counted and handed out in their order (R143). By the occupancy that is left, a joined arrival above the critical level
pauses a pausable class of a link in HOLD or REPLAY (R124) and sets a clear critical mark with CLASS-CRITICAL (R139),
and an occupancy at or below the resume level clears the mark and releases the class where the link releases by level
(R126, R139); each sends its pause frame. A join below the pool-low mark sets a clear pool-low state with POOL-LOW, and
blocks returned clear it at the mark (R140). That a join which removes no frame also clears the critical mark and
releases the class, where the resume level has been raised to the occupancy it leaves, is log 30: the model's choice.
That a class to which no priority maps is released without a frame is log 29: the model's choice. -/
def Obligations.ParkingDisplacesOldestFirst : Prop :=
  ∀ (j : LinkId) (k : ClassId) (priority : Fin 8) (frame : List Byte) (s : State),
    let n := (frame.length + 255) / 256
    let l := s.link j
    let fifo := l.park.fifos.get k
    let u := s.park j k priority frame
    let returned := fun d : Nat => blocksIn (fifo.take d)
    let barAt := fun d : Nat =>
      if s.settings.classLimit < blocksIn (fifo.drop d) + n then some DiscardReason.classFull
      else if s.settings.linkLimit + returned d < l.park.occupancy + n then some .linkFull
      else if s.poolFree + returned d < n then some .poolFull
      else none
    let record := fun (reason : DiscardReason) (length : Nat) =>
      (⟨reason, j, some k, length, BitVec.ofNat 32 (s.now / 3125)⟩ : DiscardRecord)
    (s.settings.classLimit < n → u = s.discard .classFull j (some k) frame.length)
    ∧ (n ≤ s.settings.classLimit → ∃ d : Nat, d ≤ fifo.length ∧ (∀ c < d, barAt c ≠ none)
      ∧ (barAt d ≠ none → d = fifo.length)
      ∧
      let joined := barAt d = none
      let left := blocksIn (fifo.drop d) + if joined then n else 0
      let above := joined ∧ s.settings.criticalLevel < left
      let low := (joined ∨ 0 < d) ∧ ¬ above ∧ left ≤ s.settings.resumeLevel
      let pauses := above ∧ (l.hold.service = .hold ∨ l.hold.service = .replay) ∧ s.settings.pausable.get k = true
        ∧ l.hold.paused.get k = none
      let releases := low ∧ s.levelReleases j ∧ (l.hold.paused.get k).isSome
      let dropped := (fifo.take d).zipIdx.filterMap (fun f => (barAt f.2).map fun reason => record reason f.1.length)
        ++ ((barAt d).map fun reason => record reason frame.length).toList
      let critical := above ∧ l.park.critical.get k = false
      let scarce := joined ∧ u.poolFree < s.settings.poolLowMark
      u.link j = { l with
        hold := { l.hold with
          paused := l.hold.paused.set k
            (if pauses then some (s.refreshEnd j) else if releases then none else l.hold.paused.get k) }
        park := ⟨l.park.fifos.set k (fifo.drop d
            ++ if joined then [⟨frame, frame.length, n, priority, k, BitVec.ofNat 32 (s.now / 3125)⟩] else []),
          l.park.critical.set k (if above then true else if low then false else l.park.critical.get k)⟩
        counters := { l.counters with
          parked := if joined then min 4294967295 (l.counters.parked + 1) else l.counters.parked
          discards := (u.link j).counters.discards }
        fabricSide := (u.link j).fabricSide }
      ∧ (pauses → prioritiesOf s.settings k ≠ 0 →
          (u.link j).fabricSide.holdsPause ⟨prioritiesOf s.settings k, s.settings.pauseTime⟩)
      ∧ (releases → prioritiesOf s.settings k ≠ 0 →
          (u.link j).fabricSide.holdsPause ⟨prioritiesOf s.settings k, 0⟩)
      ∧ ((¬ pauses ∧ ¬ releases) ∨ prioritiesOf s.settings k = 0 → (u.link j).fabricSide = l.fabricSide)
      ∧ u.poolFree + (if joined then n else 0) = s.poolFree + returned d
      ∧ (u.poolLow = true ↔ scarce ∨ (s.poolLow = true ∧ ¬ (0 < d ∧ s.settings.poolLowMark ≤ u.poolFree)))
      ∧ Discarded j dropped s u
      ∧ u.raised = s.raised ++ dropped.map (fun _ => .discard j)
          ++ (if critical then [.event ⟨.classCritical, j.val, k.val⟩] else [])
          ++ (if scarce ∧ s.poolLow = false then [.event ⟨.poolLow, 0, 0⟩] else [])
      ∧ (∀ i, i ≠ j → u.link i = s.link i)
      ∧ u = { s with
          links := u.links, poolFree := u.poolFree, poolLow := u.poolLow, slotA := u.slotA, slotB := u.slotB,
          raised := u.raised })

/-- A frame's priority is its tag's, or with the DSCP map enabled its DSCP's, or else the default priority (R130, R131).
-/
def Obligations.PriorityFollowsTagOrDscp : Prop :=
  ∀ (g : Settings) (frame : List Byte),
    let byte := fun i => (frame.getD i 0).toNat
    let type := byte 12 * 256 + byte 13
    (type = 0x8100 → (priorityOf g frame).val = byte 14 / 32)
    ∧ (type = 0x0800 → g.dscpMapEnable = true → ∀ d : Fin 64, d.val = byte 15 / 4 → priorityOf g frame = g.dscpMap.get d)
    ∧ (type = 0x86DD → g.dscpMapEnable = true → ∀ d : Fin 64, d.val = (byte 14 % 16) * 4 + byte 15 / 64 →
        priorityOf g frame = g.dscpMap.get d)
    ∧ (type ≠ 0x8100 → (type ≠ 0x0800 ∧ type ≠ 0x86DD) ∨ g.dscpMapEnable = false →
        priorityOf g frame = g.defaultPriority)

/-- A frame from the module (R100, R144): received from QUALIFYING on, and too short a reception is none (log 21: the
model's choice); above 9,216 bytes it is discarded OVERSIZE; a probe is consumed, and a well-formed one is the heard
peer; any other frame goes to the switch in PASS and REPLAY, and is discarded NOT-ADMITTED otherwise. A free egress that
sends nothing is no event (log 17: the model's choice). The egress toward the switch, in the order of log 8 (the model's
choice), sends pause frames first, then replies, then forwarded frames, and in SHED and OFF drops the last two (R113,
R161); a reply leaves with the address and the type value in force as its sending begins (R164), and a pause frame with
the pause time then in force, or 0 where it releases (R123, R126), and with the priorities it was made with (log 8: the
model's reading of R125). -/
def Obligations.ModuleFramesAndFabricEgress : Prop :=
  ∀ (j : LinkId) (frame : List Byte) (s : State),
    let l := s.link j
    let command : Instr := .frameFromModule j frame
    let header := if isTagged frame then 18 else 14
    let probe := typeOf frame = s.settings.managementType ∧ kindOf frame = 5
    let cage := (byteAt frame (header + 14)).toNat
    let slot := (byteAt frame (header + 15)).toNat
    let wellFormed := byteAt frame header = 1 ∧ field16 frame (header + 6) = 10 ∧ cage < 16 ∧ slot < 4
    let sent := fun e : FabricEgress => { s with links := s.links.set j { l with fabricSide := e } }
    let e := l.fabricSide
    (frame.length < 64 ∨ l.engine.recovery.runsWindows = false → exec command s = .next s.settle)
    ∧ (64 ≤ frame.length → l.engine.recovery.runsWindows = true →
      (9216 < frame.length →
        exec command s = .next (s.discard .oversize j none (min 65535 frame.length)).settle)
      ∧ (frame.length ≤ 9216 → probe → ¬ wellFormed → exec command s = .next s.settle)
      ∧ (∀ (c : CageId) (k : SlotId), frame.length ≤ 9216 → probe → wellFormed → c.val = cage → k.val = slot →
          exec command s = .next { s with links := s.links.set j { l with engine := { l.engine with
            heardPeer := some ⟨⟨field48 frame (header + 8), c, k⟩, field16 frame (header + 16)⟩ } } }.settle)
      ∧ (frame.length ≤ 9216 → ¬ probe → l.hold.service ≠ .pass → l.hold.service ≠ .replay →
          exec command s = .next (s.discard .notAdmitted j none frame.length).settle)
      ∧ (frame.length ≤ 9216 → ¬ probe → l.hold.service = .pass ∨ l.hold.service = .replay →
          (e = ⟨none, [], [], []⟩ → exec command s = .next (sent ⟨some (.forwarded frame), [], [], []⟩).settle)
          ∧ (e.sending ≠ none → exec command s = .next (sent { e with forwards := e.forwards ++ [frame] }).settle)))
    ∧ (e.sending = none → exec (.fabricEgressFree j) s = .next s.settle)
    ∧ (e.sending ≠ none →
      (∀ p rest, e.urgent = .pause p :: rest →
        exec (.fabricEgressFree j) s = .next (sent { e with
          sending := some (.pause ⟨p.priorities, if p.quanta = 0 then 0 else s.settings.pauseTime⟩), urgent := rest }).settle)
      ∧ (∀ m rest, e.urgent = .reply m :: rest →
        exec (.fabricEgressFree j) s = .next (sent { e with
          sending := some (.reply { m with
            source := s.settings.managementAddress, typeValue := s.settings.managementType })
          urgent := rest }).settle)
      ∧ (∀ b rest, e.urgent = .forwarded b :: rest →
        exec (.fabricEgressFree j) s = .next (sent { e with sending := some (.forwarded b), urgent := rest }).settle)
      ∧ (e.urgent = [] → l.hold.service = .shed ∨ l.hold.service = .off →
        exec (.fabricEgressFree j) s = .next (sent ⟨none, [], [], []⟩).settle)
      ∧ (e.urgent = [] → l.hold.service ≠ .shed → l.hold.service ≠ .off →
        (∀ m rest, e.replies = m :: rest →
          exec (.fabricEgressFree j) s = .next (sent { e with
            sending := some (.reply { m with
              source := s.settings.managementAddress, typeValue := s.settings.managementType })
            replies := rest }).settle)
        ∧ (∀ f rest, e.replies = [] → e.forwards = f :: rest →
          exec (.fabricEgressFree j) s = .next (sent { e with sending := some (.forwarded f), forwards := rest }).settle)
        ∧ (e.replies = [] → e.forwards = [] →
          exec (.fabricEgressFree j) s = .next (sent ⟨none, [], [], []⟩).settle)))

/-! ### The meter -/

/-- The judgement of a candidate, the head of the highest class that holds a frame (R149, R150, R151, R154): a stopped
meter and a busy egress send nothing; a candidate within its age begins its transit where the tokens cover its charge,
its length but at most the burst, or the meter is UNMETERED; a stale one is discarded, and what is left is judged anew;
in both the head's leaving is told to the marks, the pauses and the pool (R126, R139, R140); and an UNMETERED meter with
nothing parked ends the replay, releasing every paused class. A token tick adds the rate to the tokens of a METERED
meter, up to the burst; a frame's transit ends, and the next waiting frame begins on a link in UP, while on any other
what waits is dropped (R82; log 9); a ramp step doubles the rate below the ceiling, and at it a degraded meter stays at
the ceiling and any other is UNMETERED (R148, R152). The candidate is judged after each that can let it go. A tick
counts one microsecond (log 4), frames wait for the egress (log 9), an expiry takes time to its moment (log 3), and what
is stopped does not tick or expire (log 17): the model's choices. That a class to which no priority maps is released
without a frame is log 29: the model's choice. -/
def Obligations.MeterPacesReplay : Prop :=
  (∀ (j : LinkId) (s : State),
     let l := s.link j
     let u := s.judge j
     let free := l.moduleSide = ⟨none, []⟩
     let metered := l.meter.mode = .metered
     let unmetered := l.meter.mode = .unmetered
     let empty := ∀ k, l.park.fifos.get k = []
     (l.meter.mode = .stopped → u = s)
     ∧ (metered → ¬ free ∨ empty → u = s)
     ∧ (unmetered → ¬ free → ¬ empty → u = s)
     ∧ (unmetered → empty → ReplayEnded j s u)
     ∧ (∀ i, i ≠ j → u.link i = s.link i)
     ∧ (u.link j).engine = l.engine ∧ (u.link j).penalty = l.penalty
     ∧ ∀ (k : ClassId) (f : ParkedFrame) (rest : List ParkedFrame), free → l.park.fifos.get k = f :: rest →
       (∀ h, k < h → l.park.fifos.get h = []) →
       let age := (BitVec.ofNat 32 (s.now / 3125) - f.stamp).toNat
       let stale := (s.linkSet j).ageLimit * 1000 < age
       let charge := min f.length l.meter.burst
       (metered → ¬ stale → l.meter.tokens < charge → u = s)
       ∧ (¬ stale → (metered ∧ charge ≤ l.meter.tokens) ∨ unmetered →
         ∃ v : State, HeadLeft j k f rest s v
           ∧ v.link j = { l with
               hold := (v.link j).hold
               park := (v.link j).park
               meter := { l.meter with tokens := if metered then l.meter.tokens - charge else l.meter.tokens }
               moduleSide := ⟨some f.frame, []⟩
               counters := { l.counters with replayed := min 4294967295 (l.counters.replayed + 1) }
               fabricSide := (v.link j).fabricSide }
           ∧ v = { s with links := v.links, poolFree := v.poolFree, poolLow := v.poolLow }
           ∧ (¬ v.replayDone j → u = v) ∧ (v.replayDone j → ReplayEnded j v u))
       ∧ (stale → metered ∨ unmetered → ∃ v : State, HeadLeft j k f rest s v
           ∧ Discarded j [⟨.stale, j, some k, f.length, BitVec.ofNat 32 (s.now / 3125)⟩] s v
           ∧ v.link j = { l with
               hold := (v.link j).hold
               park := (v.link j).park
               counters := { l.counters with discards := (v.link j).counters.discards }
               fabricSide := (v.link j).fabricSide }
           ∧ v = { s with
               links := v.links, poolFree := v.poolFree, poolLow := v.poolLow, slotA := v.slotA, slotB := v.slotB,
               raised := s.raised ++ [.discard j] }
           ∧ u = v.judge j))
  ∧ (∀ (j : LinkId) (s : State),
     let l := s.link j
     let g := l.meter
     let tick := max (s.now / 3125) (g.lastTick + 1)
     (g.mode ≠ .metered → exec (.tokenTick j) s = .next s.settle)
     ∧ (g.mode = .metered → exec (.tokenTick j) s = .next (State.judge j { s with
         now := max s.now (tick * 3125)
         links := s.links.set j { l with
           meter := { g with tokens := min g.burst (g.tokens + g.rate), lastTick := tick } } }).settle)
     ∧ (l.moduleSide.transit = none → exec (.moduleEgressTransitEnd j) s = .next s.settle)
     ∧ (∀ f waiting, l.moduleSide = ⟨some f, waiting⟩ → l.engine.recovery ≠ .up →
         exec (.moduleEgressTransitEnd j) s = .next
         (State.judge j { s with links := s.links.set j { l with moduleSide := ⟨none, []⟩ } }).settle)
     ∧ (∀ f next rest, l.moduleSide = ⟨some f, next :: rest⟩ → l.engine.recovery = .up →
         exec (.moduleEgressTransitEnd j) s = .next
         (State.judge j { s with links := s.links.set j { l with moduleSide := ⟨some next, rest⟩ } }).settle)
     ∧ (∀ f, l.moduleSide = ⟨some f, []⟩ → exec (.moduleEgressTransitEnd j) s = .next
         (State.judge j { s with links := s.links.set j { l with moduleSide := ⟨none, []⟩ } }).settle)
     ∧ (g.rampTimer = none → exec (.rampTimerExpiry j) s = .next s.settle)
     ∧ ∀ m : Moment, g.rampTimer = some m → g.mode = .metered →
       let now := max s.now m
       let stepped := fun g' : Meter => { s with now := now, links := s.links.set j { l with meter := g' } }
       (g.rate * 2 < g.rateCeiling → exec (.rampTimerExpiry j) s = .next (stepped { g with
         rate := g.rate * 2, rampTimer := some (now + (s.linkSet j).rampStep * 3125000) }).settle)
       ∧ (g.rateCeiling ≤ g.rate * 2 → g.degraded = true → exec (.rampTimerExpiry j) s = .next (stepped { g with
           rate := g.rateCeiling, rampTimer := none }).settle)
       ∧ (g.rateCeiling ≤ g.rate * 2 → g.degraded = false → exec (.rampTimerExpiry j) s = .next (State.judge j
           (stepped { g with mode := .unmetered, rate := g.rateCeiling, rampTimer := none })).settle))

/-! ### Notices and snapshots -/

/-- The service port (R161, R172, R179): what it sent has left when it is free and the gap timer's expiry stops it. A
free port begins the first waiting reply at once (that it goes before a notice is log 8: the model's choice), and with
the gap timer stopped the lowest channel's snapshot, its superseded count with it, or else the notice whose kind has the
highest level, then the lowest code, then the lowest source; each starts the gap timer. A reply leaves with the address
and the type value in force as its sending begins (R164). A notice carries the state of its source as it stands, a
snapshot what was captured, field by field (R168, R173, R177); a part of a millisecond counts as a whole one (log 24:
the model's choice). A reply goes to the source of its request, from the management address and with the type value in
force, as a REPLY with the request's tag and code, the outcome's code, and a body of the field list, a count byte and
two bytes a field, and the data; it joins the request's arrival port, where a fabric link's egress begins it as log 8
gives, and drops it without a count in SHED and OFF (R161, R168). A frame on the wire is its addresses, type value,
header and body, padded with 0 to 64 bytes with the frame check sequence, a free value of the bytes before it (log 14).
An expiry takes time to its moment, and a stopped timer does not expire (logs 3 and 17: the model's choices). -/
def Obligations.ServicePortSendsInOrder : Prop :=
  ∀ s : State,
    let gap : Timer := if s.settings.noticeGap = 0 then none else some (s.now + s.settings.noticeGap * 31250)
    exec .servicePortFree s = .next { s with service := { s.service with sending := none } }.settle
    ∧ (s.notices.gapTimer = none → exec .gapTimerExpiry s = .next s.settle)
    ∧ (∀ m, s.notices.gapTimer = some m → exec .gapTimerExpiry s = .next
        { s with now := max s.now m, notices := { s.notices with gapTimer := none } }.settle)
    ∧ (s.service.sending ≠ none → s.serveOut = s)
    ∧ (∀ m rest, s.service = ⟨none, m :: rest⟩ → s.serveOut = { s with
        service := ⟨some { m with
          source := s.settings.managementAddress, typeValue := s.settings.managementType }, rest⟩
        notices := { s.notices with gapTimer := gap } })
    ∧ (s.service = ⟨none, []⟩ → s.notices.gapTimer ≠ none → s.serveOut = s)
    ∧ (∀ (h : ChannelId) (r : SnapshotRecord), s.service = ⟨none, []⟩ → s.notices.gapTimer = none →
        (s.channel h).slot = some r → (∀ i, i < h → (s.channel i).slot = none) → s.serveOut = { s with
          service := ⟨some (s.frameTo broadcast .snapshot 0 0 0 (r.body (s.channel h).superseded)), []⟩
          channels := s.channels.set h { s.channel h with slot := none, superseded := 0 }
          notices := { s.notices with gapTimer := gap } })
    ∧ (s.service = ⟨none, []⟩ → s.notices.gapTimer = none → (∀ h, (s.channel h).slot = none) →
        (s.notices.entries = [] → s.serveOut = s)
        ∧ ∀ e ∈ s.notices.entries, (s.notices.entries.map fun x => (x.kind, x.source)).Nodup →
          (∀ x ∈ s.notices.entries, x ≠ e →
            let a := s.notices.levels.get e.kind.place
            let b := s.notices.levels.get x.kind.place
            b < a ∨ (a = b ∧ (e.kind.code < x.kind.code ∨ (e.kind = x.kind ∧ e.source < x.source)))) →
          s.serveOut = { s with
            service := ⟨some (s.frameTo broadcast .notice 0 0 0 (s.noticeBody e)), []⟩
            notices := { s.notices with entries := s.notices.entries.filter (fun x => x ≠ e), gapTimer := gap }
            links := if e.kind = .discard then
                s.links.set (indexOf 64 e.source) { s.link (indexOf 64 e.source) with discardMark := false }
              else s.links })
    ∧ (∀ e : PendingEntry, (s.noticeBody e).length = 12 ∧ Spells (s.noticeBody e) (s.noticeFields e))
    ∧ (∀ (r : SnapshotRecord) (superseded : Nat), (r.body superseded).length = 55
        ∧ Spells (r.body superseded)
          [(0, 1, r.channel.val), (1, 1, r.trigger.code), (2, 1, r.source), (3, 1, r.index), (4, 1, superseded)]
        ∧ (∀ j, r.link = some (s.captureLink j) → Spells (r.body superseded) (s.snapshotFields j))
        ∧ (r.link = none → (r.body superseded).drop 5
            = List.replicate 36 0 ++ [0xFF, 0xFF] ++ List.replicate 12 0))
    ∧ (∀ (target : MacAddress) (kind : FrameKind) (tag : BitVec 16) (code : Byte) (outcome : Nat) (body : List Byte),
        s.frameTo target kind tag code outcome body = ⟨target, s.settings.managementAddress, s.settings.managementType, kind,
          tag, code, BitVec.ofNat 8 outcome, body⟩)
    ∧ (∀ (r : Request) (o : RequestOutcome) (fields : List Nat) (data : List Byte),
        let m := s.replyFrame r o fields data
        m = ⟨r.source, s.settings.managementAddress, s.settings.managementType, .reply, r.tag, r.code,
          BitVec.ofNat 8 o.code, fieldList fields ++ data⟩
        ∧ (r.port = .service → s.sendReply r o fields data
            = { s with service := { s.service with replies := s.service.replies ++ [m] } })
        ∧ ∀ j, r.port = .fabric j →
          let e := (s.link j).fabricSide
          s.sendReply r o fields data = { s with links := s.links.set j { s.link j with fabricSide :=
            match e.sending, e.urgent with
            | some _, _ => { e with replies := e.replies ++ [m] }
            | none, f :: rest => { e with
                sending := some (f.sentUnder s.settings), urgent := rest, replies := e.replies ++ [m] }
            | none, [] =>
              if (s.link j).hold.service = .shed ∨ (s.link j).hold.service = .off then
                { e with replies := [], forwards := [] }
              else { e with
                sending := (e.replies ++ [m]).head?.map fun x => .reply (x.sentUnder s.settings)
                replies := (e.replies ++ [m]).drop 1 } } })
    ∧ (∀ fields : List Nat, (fieldList fields).length = 1 + 2 * fields.length
        ∧ Spells (fieldList fields)
          ((0, 1, fields.length) :: fields.zipIdx.map fun x => (1 + 2 * x.2, 2, x.1)))
    ∧ (∀ m : ManagementFrame,
        let b := m.bytes
        let filled := 22 + m.body.length
        b.length = max 64 (filled + 4) ∧ Spells b m.headerFields ∧ slice b 22 m.body.length = m.body
        ∧ slice b filled (60 - filled) = List.replicate (60 - filled) 0
        ∧ b.drop (max 60 filled) = bytes32 (Config.frameCheck (b.take (max 60 filled))))
    ∧ [.request, .reply, .notice, .snapshot, .probe].map FrameKind.code = List.range' 1 5
    ∧ [.done, .adjusted, .busy, .badRequest, .badArgument, .wrongState, .order, .full, .tooLate, .notPresent, .busFault,
        .checksumMismatch].map RequestOutcome.code = List.range 12

/-- An event that no armed channel's trigger matches is taken by the level of its kind: dropped at level 0, counted in
the entry of its kind and source with its detail, or a new entry, which for DISCARD sets the link's mark (R170, R171).
The lowest-numbered channel that matches claims it: a single channel captures and counts down, and at 0 disarms and
raises SNAPSHOT-DONE, which is offered at once (log 7: the model's choice); a series takes its link, or ignores it where
it has one (R176, R177, R178). -/
def Obligations.PendingSetTakesEvents : Prop :=
  ∀ (e : Event) (s : State),
    let matching := fun h : ChannelId => (s.channel h).armed = true
      ∧ ∃ t, (s.channel h).trigger = some t ∧ t.kind = e.kind ∧ (t.source = none ∨ t.source = some e.source)
    let level := s.notices.levels.get e.kind.place
    let twin := fun x : PendingEntry => x.kind = e.kind ∧ x.source = e.source
    let counted := fun x : PendingEntry =>
      if x.kind = e.kind ∧ x.source = e.source then { x with detail := e.detail, count := min 255 (x.count + 1) } else x
    ((∀ h, ¬ matching h) →
      (level = 0 → s.offerEvent e = s)
      ∧ (level ≠ 0 → (∃ x ∈ s.notices.entries, twin x) → s.offerEvent e = { s with
          notices := { s.notices with entries := s.notices.entries.map counted } })
      ∧ (level ≠ 0 → (∀ x ∈ s.notices.entries, ¬ twin x) → s.offerEvent e = { s with
          notices := { s.notices with entries := s.notices.entries ++ [⟨e.kind, e.source, e.detail, 1⟩] }
          links := if e.kind = .discard then
              s.links.set (indexOf 64 e.source) { s.link (indexOf 64 e.source) with discardMark := true }
            else s.links }))
    ∧ ∀ h : ChannelId, matching h → (∀ i, i < h → ¬ matching i) →
      let c := s.channel h
      let record : SnapshotRecord := ⟨h, e.kind, e.source, c.sequence + 1,
        if e.kind.sourceRange = .link then some (s.captureLink (indexOf 64 e.source)) else none⟩
      let captured := { c with
        sequence := c.sequence + 1
        slot := some record
        superseded := if c.slot = none then c.superseded else min 255 (c.superseded + 1)
        remaining := c.remaining - 1 }
      (c.mode = .single → 1 < c.remaining → s.offerEvent e = { s with channels := s.channels.set h captured })
      ∧ (c.mode = .single → c.remaining ≤ 1 → s.offerEvent e = State.offerEvent ⟨.snapshotDone, h.val, 0⟩ { s with
          channels := s.channels.set h { captured with
            armed := false, trigger := none, seriesLink := none, mode := .single } })
      ∧ (c.mode = .series → c.seriesLink = none → s.offerEvent e = { s with
          channels := s.channels.set h { c with seriesLink := some (indexOf 64 e.source) } })
      ∧ (c.mode = .series → c.seriesLink ≠ none → s.offerEvent e = s)

/-- SNAP-ARM, SNAP-START and SNAP-DISARM (R175, R176, R178, R180): the arguments are checked, then the channel's state.
SNAP-ARM arms a disarmed channel, a count of 0 taken as 1 and answered ADJUSTED; SNAP-START claims for an armed channel
as its trigger's event would, with a source within the trigger: a SINGLE channel captures into its slot, counts a record
it supersedes, counts down, and after its last disarms and raises SNAPSHOT-DONE; a SERIES channel takes the source as
its series link unless it has one; SNAP-DISARM disarms and empties the slot. -/
def Obligations.SnapshotRequests : Prop :=
  ∀ (q : Requester) (channel kind source count mode : Byte) (s : State), s.engineIdle →
    let code := kind.toNat
    let sources := if 1 ≤ code ∧ code ≤ 8 then 16 else if code = 21 then 1 else if code = 23 then 4 else 64
    let link := (9 ≤ code ∧ code ≤ 20) ∨ code = 22
    let bad := 3 < channel.toNat ∨ code = 0 ∨ 23 < code ∨ (source ≠ 0xFF ∧ sources ≤ source.toNat)
      ∨ 1 < mode.toNat ∨ (mode = 1 ∧ ¬ link)
    (bad → exec (.snapArm q channel kind source count mode) s = .next (s.answered q 0x60 .badArgument [] []))
    ∧ (3 < channel.toNat → exec (.snapStart q channel source) s = .next (s.answered q 0x61 .badArgument [] [])
        ∧ exec (.snapDisarm q channel) s = .next (s.answered q 0x62 .badArgument [] []))
    ∧ ∀ h : ChannelId, h.val = channel.toNat →
      let c := s.channel h
      (¬ bad → c.armed = true →
        exec (.snapArm q channel kind source count mode) s = .next (s.answered q 0x60 .wrongState [] []))
      ∧ (∀ k : EventKind, ¬ bad → c.armed = false → k.code = code →
        exec (.snapArm q channel kind source count mode) s = .next ({ s with
          channels := s.channels.set h { c with
            armed := true, trigger := some ⟨k, if source = 0xFF then none else some source.toNat⟩,
            mode := if mode = 1 then .series else .single, remaining := max 1 count.toNat, seriesLink := none,
            sequence := 0 } }.answered q 0x60 (if count = 0 then .adjusted else .done)
              (if count = 0 then [3] else []) []))
      ∧ (c.armed = false → exec (.snapStart q channel source) s = .next (s.answered q 0x61 .wrongState [] []))
      ∧ (∀ t : Trigger, c.armed = true → c.trigger = some t →
        (t.kind.sourceRange.size ≤ source.toNat ∨ (t.source ≠ none ∧ t.source ≠ some source.toNat) →
          exec (.snapStart q channel source) s = .next (s.answered q 0x61 .badArgument [] []))
        ∧ (source.toNat < t.kind.sourceRange.size → t.source = none ∨ t.source = some source.toNat →
          let captured := { c with
            sequence := c.sequence + 1
            slot := some ⟨h, t.kind, source.toNat, c.sequence + 1,
              if t.kind.sourceRange = .link then some (s.captureLink (indexOf 64 source.toNat)) else none⟩
            superseded := if c.slot = none then c.superseded else min 255 (c.superseded + 1)
            remaining := c.remaining - 1 }
          (c.mode = .single → 1 < c.remaining → exec (.snapStart q channel source) s = .next
            ({ s with channels := s.channels.set h captured }.answered q 0x61 .done [] []))
          ∧ (c.mode = .single → c.remaining ≤ 1 → exec (.snapStart q channel source) s = .next ({ s with
              channels := s.channels.set h { captured with
                armed := false, trigger := none, seriesLink := none, mode := .single }
              raised := s.raised ++ [Signal.event ⟨.snapshotDone, h.val, 0⟩] }.answered q 0x61 .done [] []))
          ∧ (c.mode = .series → exec (.snapStart q channel source) s = .next ({ s with
              channels := s.channels.set h { c with
                seriesLink := if c.seriesLink = none then some (indexOf 64 source.toNat) else c.seriesLink } }.answered
                  q 0x61 .done [] []))))
      ∧ exec (.snapDisarm q channel) s = .next ({ s with
          channels := s.channels.set h { c with
            armed := false, trigger := none, mode := .single, remaining := 0, seriesLink := none, slot := none,
            superseded := 0 } }.answered q 0x62 .done [] [])

/-! ### Recovery memory -/

/-- The lookup that completes an identification, for a cage whose position, cache and other positions hold a digest at
most once (R60 to R66): the cage's own record is kept, a cached one moves to the position, and so does one in a position
that is not held, but a record of another key is replaced by a fresh one; a record held in another cage's position stays
there and the cage gets none; and a digest found nowhere gets a fresh record: of the cage's key and digest, the cage its
home, its valid flag and seeded marks clear, its seeds and skews 0 (R58, R65), and its layout and lane map, a
permutation, free values (log 13: the model's choice). What the position held joins the head of the cache where it was
valid, the cache keeping 16. FORGET removes what it names and answers with the number removed (R72). -/
def Obligations.RecoveryMemoryMovesRecords : Prop :=
  (∀ (n : Nat) (c : CageId) (key digest : BitVec 32),
    let fresh := freshRecord n c key digest
    fresh.key = key ∧ fresh.digest = digest ∧ fresh.home = c ∧ fresh.valid = false
    ∧ fresh.seeded = Bank.fill 4 false ∧ fresh.seeds = Bank.fill 8 (Bank.fill 5 0) ∧ fresh.skews = Bank.fill 4 0
    ∧ ∀ a b, fresh.laneMap.get a = fresh.laneMap.get b → a = b)
  ∧ (∀ (m : RecoveryMemory) (c : CageId) (fresh : CageRecord),
    let here := m.positions.get c
    let cached := m.cache.find? fun r => r.digest = fresh.digest
    let elsewhere := fun d => d ≠ c ∧ ∃ r, m.positions.get d = some r ∧ r.digest = fresh.digest
    let chosen := fun r : CageRecord => { (if r.key = fresh.key then r else fresh) with home := c }
    let displacing := fun cache : List CageRecord => match here with
      | some x => if x.valid then x :: (cache.filter fun r => decide (r.digest ≠ x.digest)).take 15 else cache
      | none => cache
    let uncached := m.cache.filter fun r => decide (r.digest ≠ fresh.digest)
    (∀ r, here = some r → r.digest = fresh.digest → m.lookup c fresh = { m with
      positions := if r.key = fresh.key then m.positions else m.positions.set c (some { fresh with home := c })
      held := m.held.set c true })
    ∧ ((∀ r, here = some r → r.digest ≠ fresh.digest) →
      (∀ r, cached = some r → m.lookup c fresh = { m with
        positions := m.positions.set c (some (chosen r)), cache := displacing uncached, held := m.held.set c true })
      ∧ (∀ d r, cached = none → elsewhere d → (∀ i, elsewhere i → i = d) → m.positions.get d = some r →
        (m.held.get d = true → m.lookup c fresh = { m with
          positions := m.positions.set c none, cache := displacing m.cache, held := m.held.set c false })
        ∧ (m.held.get d = false → m.lookup c fresh = { m with
          positions := (m.positions.set d none).set c (some (chosen r)), cache := displacing m.cache,
          held := m.held.set c true }))
      ∧ (cached = none → (∀ i, ¬ elsewhere i) → m.lookup c fresh = { m with
        positions := m.positions.set c (some { fresh with home := c }), cache := displacing m.cache,
        held := m.held.set c true })))
  ∧ ∀ (q : Requester) (x : BitVec 32) (s : State), s.engineIdle →
    let m := s.memory
    let left := fun (m' : RecoveryMemory) (n : Nat) =>
      { s with memory := m' }.answered q 0x50 .done [] [BitVec.ofNat 8 n]
    (15 < x.toNat → exec (.forgetCage q x) s = .next (s.answered q 0x50 .badArgument [] []))
    ∧ (∀ c : CageId, c.val = x.toNat → exec (.forgetCage q x) s = .next (left
        { m with positions := m.positions.set c none, held := m.held.set c false }
        (if m.positions.get c = none then 0 else 1)))
    ∧ (∃ m' : RecoveryMemory, exec (.forgetDigest q x) s = .next (left m'
          ((allCages.filter fun c => ((m.positions.get c).map CageRecord.digest) = some x).length
            + (m.cache.filter fun r => decide (r.digest = x)).length))
        ∧ m'.cache = (m.cache.filter fun r => decide (r.digest ≠ x)) ∧ m'.peers = m.peers
        ∧ ∀ c, (if (m.positions.get c).map CageRecord.digest = some x then
              m'.positions.get c = none ∧ m'.held.get c = false
            else m'.positions.get c = m.positions.get c ∧ m'.held.get c = m.held.get c))
    ∧ (63 < x.toNat → exec (.forgetPeer q x) s = .next (s.answered q 0x50 .badArgument [] []))
    ∧ (∀ j : LinkId, j.val = x.toNat → exec (.forgetPeer q x) s = .next (left
        { m with peers := m.peers.set j none } (if m.peers.get j = none then 0 else 1)))
    ∧ exec (.forgetAll q) s = .next (left ⟨Bank.fill 16 none, Bank.fill 16 false, [], Bank.fill 64 none⟩
        ((allCages.filter fun c => (m.positions.get c).isSome).length + m.cache.length
          + (allLinks.filter fun j => (m.peers.get j).isSome).length))

/-! ### What always holds -/

/-- The state after reset meets every invariant below. -/
def Obligations.ResetMeetsInvariants : Prop :=
  State.reset.poolConserved ∧ State.reset.Bounded ∧ State.reset.Reported ∧ State.reset.Lawful
  ∧ State.reset.memory.Single ∧ State.reset.table.Ordered

/-- Whatever happens, pool free plus the blocks held by parked frames stays 8,192 (R133). -/
def Obligations.EveryStepConservesPool : Prop :=
  ∀ s t : State, s.poolConserved → step s = .next t → t.poolConserved

/-- Whatever happens, at most 8 requests wait, penalties stay within the ceiling and tokens within the burst (R106,
R146, R160), the pending set holds one entry at most for a kind and source, none of a kind of level 0, each with a count
of 1 to 255, and a channel's count, trigger, mode and series link fit whether it is armed, its superseded count whether
its slot is filled (R170, R175, section 12.1). -/
def Obligations.EveryStepKeepsBounds : Prop :=
  ∀ s t : State, s.Bounded → s.Reported → step s = .next t → t.Bounded ∧ t.Reported

/-- Whatever happens, every cage's lines and timers are those of its state (R40), and every link's recovery state,
service state, meter and timers fit each other, its cage and its cage's layout (R49, R75, R81, R83, R113, R116, R146).
-/
def Obligations.EveryStepKeepsLinesAndServiceLawful : Prop :=
  ∀ s t : State, s.Lawful → step s = .next t → t.Lawful

/-- Whatever happens, no serial digest stands in recovery memory twice and the cache holds at most 16 records (R60,
R61); and whatever happens but damage to an entry, the table's keys strictly increase (R20, R21). -/
def Obligations.EveryStepKeepsDigestsAndKeys : Prop :=
  ∀ s t : State, step s = .next t →
    (s.memory.Single → t.memory.Single)
    ∧ (s.table.Ordered → (∀ index key attr rest, s.pending ≠ .entryDamage index key attr :: rest) → t.table.Ordered)
end

