-- ==== Sys2Proof/Laws/Layouts.lean ====
section
/-! SUPPORT. Bytes and numbers: what bytes written most significant first read back as, and how the fields of joined byte
lists are read. -/

namespace Sys2Proof.Machine

/-! ### Numbers -/

@[simp] theorem numberOf_nil : numberOf [] = 0 := rfl

/-- A fold that starts at `n` counts `n` above the bytes. -/
theorem numberOf_from (b : List Byte) (n : Nat) :
    b.foldl (fun n x => n * 256 + x.toNat) n = n * 256 ^ b.length + numberOf b := by
  induction b generalizing n with
  | nil => simp
  | cons x rest ih =>
    have h := ih (n * 256 + x.toNat)
    have z := ih x.toNat
    simp only [numberOf, List.foldl_cons, List.length_cons] at h z ⊢
    rw [h, Nat.zero_mul, Nat.zero_add, z, Nat.pow_succ, Nat.add_mul]
    ring

/-- The first byte is the most significant (R168). -/
theorem numberOf_cons (x : Byte) (b : List Byte) : numberOf (x :: b) = x.toNat * 256 ^ b.length + numberOf b := by
  show b.foldl _ (0 * 256 + x.toNat) = _
  rw [numberOf_from]
  simp

theorem numberOf_append (a b : List Byte) : numberOf (a ++ b) = numberOf a * 256 ^ b.length + numberOf b := by
  show (a ++ b).foldl _ 0 = _
  rw [List.foldl_append, numberOf_from]
  rfl

@[simp] theorem bytesOf_length (k n : Nat) : (bytesOf k n).length = k := by
  induction k with
  | zero => rfl
  | succ k ih => simp [bytesOf, ih]

/-- A number written in `k` bytes reads back as its low `k` bytes. -/
@[simp] theorem numberOf_bytesOf (k n : Nat) : numberOf (bytesOf k n) = n % 256 ^ k := by
  induction k with
  | zero => simp [bytesOf, Nat.mod_one]
  | succ k ih =>
    rw [bytesOf, numberOf_cons, ih, bytesOf_length, byteOf, BitVec.toNat_ofNat, Nat.pow_succ 256 k, Nat.mod_mul,
      Nat.mul_comm, Nat.add_comm]

@[simp] theorem bytes16_length (w : BitVec 16) : (bytes16 w).length = 2 := rfl
@[simp] theorem bytes32_length (w : BitVec 32) : (bytes32 w).length = 4 := rfl
@[simp] theorem bytes48_length (w : MacAddress) : (bytes48 w).length = 6 := rfl

@[simp] theorem numberOf_bytes16 (w : BitVec 16) : numberOf (bytes16 w) = w.toNat := by
  simp only [bytes16, numberOf_cons, numberOf_nil, BitVec.extractLsb'_toNat, List.length_cons, List.length_nil]
  omega

@[simp] theorem numberOf_bytes32 (w : BitVec 32) : numberOf (bytes32 w) = w.toNat := by
  simp only [bytes32, numberOf_append, numberOf_bytes16, bytes16_length, BitVec.extractLsb'_toNat]
  omega

@[simp] theorem numberOf_bytes48 (w : MacAddress) : numberOf (bytes48 w) = w.toNat := by
  simp only [bytes48, numberOf_append, numberOf_bytes16, numberOf_bytes32, bytes32_length, BitVec.extractLsb'_toNat]
  omega

/-! ### Fields -/

theorem slice_append_left (a b : List Byte) (i k : Nat) (h : i + k ≤ a.length) : slice (a ++ b) i k = slice a i k := by
  rw [slice, slice, List.drop_append_of_le_length (by omega), List.take_append_of_le_length (by simp; omega)]

theorem slice_append_right (a b : List Byte) (i k : Nat) : slice (a ++ b) (i + a.length) k = slice b i k := by
  have h : a.drop (i + a.length) = [] := List.drop_eq_nil_of_le (by omega)
  simp [slice, List.drop_append, h]

/-- Fields within the front of joined bytes are read from the front. -/
theorem Spells.append_left {a : List Byte} {fields : List (Nat × Nat × Nat)} (b : List Byte) (h : Spells a fields)
    (within : ∀ f ∈ fields, f.1 + f.2.1 ≤ a.length) : Spells (a ++ b) fields := by
  intro f hf
  rw [slice_append_left a b _ _ (within f hf)]
  exact h f hf

/-- Fields of the rear of joined bytes are read at their offsets beyond the front. -/
theorem Spells.append_right {b : List Byte} {fields : List (Nat × Nat × Nat)} (a : List Byte) (h : Spells b fields) :
    Spells (a ++ b) (fields.map fun f => (f.1 + a.length, f.2)) := by
  intro f hf
  obtain ⟨g, hg, rfl⟩ := List.mem_map.mp hf
  show numberOf (slice (a ++ b) (g.1 + a.length) g.2.1) = _
  rw [slice_append_right]
  exact h g hg

/-- Bytes spell the fields of both lists where they spell those of each. -/
theorem Spells.both {b : List Byte} {x y : List (Nat × Nat × Nat)} (hx : Spells b x) (hy : Spells b y) :
    Spells b (x ++ y) := by
  intro f hf
  rcases List.mem_append.mp hf with h | h
  · exact hx f h
  · exact hy f h

/-- One field that fills all the bytes. -/
theorem Spells.whole (b : List Byte) (n : Nat) (h : numberOf b = n % 256 ^ b.length) : Spells b [(0, b.length, n)] := by
  intro f hf
  obtain rfl := List.mem_singleton.mp hf
  simpa [slice] using h

end Sys2Proof.Machine
end

