-- ==== Sys2Proof/Laws/State.lean ====
section
/-! SUPPORT. The small lemmas of the state's updates: what a bank holds after a change, and each field after each update. -/

namespace Sys2Proof

/-! ### Banks -/

/-- The thing just set is the thing read. -/
@[simp] theorem Bank.get_set_self {n : Nat} {α : Type} (b : Bank n α) (i : Fin n) (x : α) : (b.set i x).get i = x := by
  simp [Bank.get, Bank.set]

/-- A thing set elsewhere is not the thing read. -/
theorem Bank.get_set_ne {n : Nat} {α : Type} (b : Bank n α) (i j : Fin n) (x : α) (h : i ≠ j) :
    (b.set i x).get j = b.get j := by
  have h' : i.val ≠ j.val := fun e => h (Fin.ext e)
  simp [Bank.get, Bank.set, h']

/-- The thing read after a set, in either case. -/
theorem Bank.get_set {n : Nat} {α : Type} (b : Bank n α) (i j : Fin n) (x : α) :
    (b.set i x).get j = if i = j then x else b.get j := by
  split
  · next h => rw [h, Bank.get_set_self]
  · next h => exact Bank.get_set_ne b i j x h

/-- A filled bank holds the same thing everywhere. -/
@[simp] theorem Bank.get_fill {n : Nat} {α : Type} (x : α) (i : Fin n) : (Bank.fill n x).get i = x := by
  simp [Bank.get, Bank.fill]

/-- A tabulated bank holds what the function gives. -/
@[simp] theorem Bank.get_tabulate {n : Nat} {α : Type} (f : Fin n → α) (i : Fin n) : (Bank.tabulate f).get i = f i := by
  simp [Bank.get, Bank.tabulate]

/-- Banks that read the same everywhere are the same. -/
theorem Bank.eq_of_get {n : Nat} {α : Type} (a b : Bank n α) (h : ∀ i, a.get i = b.get i) : a = b := by
  obtain ⟨as, ha⟩ := a
  obtain ⟨bs, hb⟩ := b
  have : as = bs := by
    apply List.ext_getElem (by omega)
    intro i h1 h2
    exact h ⟨i, by omega⟩
  subst this
  rfl

end Sys2Proof

namespace Sys2Proof.Machine

/-! ### Fields after updates -/

/-! `updCage` changes the cages alone. -/

@[simp] theorem State.updCage_pending (c : CageId) (f : Cage → Cage) (s : State) :
    (State.updCage c f s).pending = s.pending := rfl
@[simp] theorem State.updCage_now (c : CageId) (f : Cage → Cage) (s : State) : (State.updCage c f s).now = s.now := rfl
@[simp] theorem State.updCage_freeCount (c : CageId) (f : Cage → Cage) (s : State) :
    (State.updCage c f s).freeCount = s.freeCount := rfl
@[simp] theorem State.updCage_raised (c : CageId) (f : Cage → Cage) (s : State) :
    (State.updCage c f s).raised = s.raised := rfl
@[simp] theorem State.updCage_settings (c : CageId) (f : Cage → Cage) (s : State) :
    (State.updCage c f s).settings = s.settings := rfl
@[simp] theorem State.updCage_cages (c : CageId) (f : Cage → Cage) (s : State) :
    (State.updCage c f s).cages = s.cages.set c (f (s.cages.get c)) := rfl
@[simp] theorem State.updCage_controllers (c : CageId) (f : Cage → Cage) (s : State) :
    (State.updCage c f s).controllers = s.controllers := rfl
@[simp] theorem State.updCage_table (c : CageId) (f : Cage → Cage) (s : State) :
    (State.updCage c f s).table = s.table := rfl
@[simp] theorem State.updCage_sets (c : CageId) (f : Cage → Cage) (s : State) :
    (State.updCage c f s).sets = s.sets := rfl
@[simp] theorem State.updCage_search (c : CageId) (f : Cage → Cage) (s : State) :
    (State.updCage c f s).search = s.search := rfl
@[simp] theorem State.updCage_memory (c : CageId) (f : Cage → Cage) (s : State) :
    (State.updCage c f s).memory = s.memory := rfl
@[simp] theorem State.updCage_links (c : CageId) (f : Cage → Cage) (s : State) :
    (State.updCage c f s).links = s.links := rfl
@[simp] theorem State.updCage_tickTimer (c : CageId) (f : Cage → Cage) (s : State) :
    (State.updCage c f s).tickTimer = s.tickTimer := rfl
@[simp] theorem State.updCage_engaged (c : CageId) (f : Cage → Cage) (s : State) :
    (State.updCage c f s).engaged = s.engaged := rfl
@[simp] theorem State.updCage_poolFree (c : CageId) (f : Cage → Cage) (s : State) :
    (State.updCage c f s).poolFree = s.poolFree := rfl
@[simp] theorem State.updCage_poolLow (c : CageId) (f : Cage → Cage) (s : State) :
    (State.updCage c f s).poolLow = s.poolLow := rfl
@[simp] theorem State.updCage_management (c : CageId) (f : Cage → Cage) (s : State) :
    (State.updCage c f s).management = s.management := rfl
@[simp] theorem State.updCage_slotA (c : CageId) (f : Cage → Cage) (s : State) :
    (State.updCage c f s).slotA = s.slotA := rfl
@[simp] theorem State.updCage_slotB (c : CageId) (f : Cage → Cage) (s : State) :
    (State.updCage c f s).slotB = s.slotB := rfl
@[simp] theorem State.updCage_notices (c : CageId) (f : Cage → Cage) (s : State) :
    (State.updCage c f s).notices = s.notices := rfl
@[simp] theorem State.updCage_channels (c : CageId) (f : Cage → Cage) (s : State) :
    (State.updCage c f s).channels = s.channels := rfl
@[simp] theorem State.updCage_service (c : CageId) (f : Cage → Cage) (s : State) :
    (State.updCage c f s).service = s.service := rfl

/-! `updLink` changes the links alone. -/

@[simp] theorem State.updLink_pending (j : LinkId) (f : Link → Link) (s : State) :
    (State.updLink j f s).pending = s.pending := rfl
@[simp] theorem State.updLink_now (j : LinkId) (f : Link → Link) (s : State) : (State.updLink j f s).now = s.now := rfl
@[simp] theorem State.updLink_freeCount (j : LinkId) (f : Link → Link) (s : State) :
    (State.updLink j f s).freeCount = s.freeCount := rfl
@[simp] theorem State.updLink_raised (j : LinkId) (f : Link → Link) (s : State) :
    (State.updLink j f s).raised = s.raised := rfl
@[simp] theorem State.updLink_settings (j : LinkId) (f : Link → Link) (s : State) :
    (State.updLink j f s).settings = s.settings := rfl
@[simp] theorem State.updLink_cages (j : LinkId) (f : Link → Link) (s : State) :
    (State.updLink j f s).cages = s.cages := rfl
@[simp] theorem State.updLink_controllers (j : LinkId) (f : Link → Link) (s : State) :
    (State.updLink j f s).controllers = s.controllers := rfl
@[simp] theorem State.updLink_table (j : LinkId) (f : Link → Link) (s : State) :
    (State.updLink j f s).table = s.table := rfl
@[simp] theorem State.updLink_sets (j : LinkId) (f : Link → Link) (s : State) :
    (State.updLink j f s).sets = s.sets := rfl
@[simp] theorem State.updLink_search (j : LinkId) (f : Link → Link) (s : State) :
    (State.updLink j f s).search = s.search := rfl
@[simp] theorem State.updLink_memory (j : LinkId) (f : Link → Link) (s : State) :
    (State.updLink j f s).memory = s.memory := rfl
@[simp] theorem State.updLink_links (j : LinkId) (f : Link → Link) (s : State) :
    (State.updLink j f s).links = s.links.set j (f (s.links.get j)) := rfl
@[simp] theorem State.updLink_tickTimer (j : LinkId) (f : Link → Link) (s : State) :
    (State.updLink j f s).tickTimer = s.tickTimer := rfl
@[simp] theorem State.updLink_engaged (j : LinkId) (f : Link → Link) (s : State) :
    (State.updLink j f s).engaged = s.engaged := rfl
@[simp] theorem State.updLink_poolFree (j : LinkId) (f : Link → Link) (s : State) :
    (State.updLink j f s).poolFree = s.poolFree := rfl
@[simp] theorem State.updLink_poolLow (j : LinkId) (f : Link → Link) (s : State) :
    (State.updLink j f s).poolLow = s.poolLow := rfl
@[simp] theorem State.updLink_management (j : LinkId) (f : Link → Link) (s : State) :
    (State.updLink j f s).management = s.management := rfl
@[simp] theorem State.updLink_slotA (j : LinkId) (f : Link → Link) (s : State) :
    (State.updLink j f s).slotA = s.slotA := rfl
@[simp] theorem State.updLink_slotB (j : LinkId) (f : Link → Link) (s : State) :
    (State.updLink j f s).slotB = s.slotB := rfl
@[simp] theorem State.updLink_notices (j : LinkId) (f : Link → Link) (s : State) :
    (State.updLink j f s).notices = s.notices := rfl
@[simp] theorem State.updLink_channels (j : LinkId) (f : Link → Link) (s : State) :
    (State.updLink j f s).channels = s.channels := rfl
@[simp] theorem State.updLink_service (j : LinkId) (f : Link → Link) (s : State) :
    (State.updLink j f s).service = s.service := rfl

/-! `updController` changes the controllers alone. -/

@[simp] theorem State.updController_pending (k : ControllerId) (f : Controller → Controller) (s : State) :
    (State.updController k f s).pending = s.pending := rfl
@[simp] theorem State.updController_now (k : ControllerId) (f : Controller → Controller) (s : State) :
    (State.updController k f s).now = s.now := rfl
@[simp] theorem State.updController_freeCount (k : ControllerId) (f : Controller → Controller) (s : State) :
    (State.updController k f s).freeCount = s.freeCount := rfl
@[simp] theorem State.updController_raised (k : ControllerId) (f : Controller → Controller) (s : State) :
    (State.updController k f s).raised = s.raised := rfl
@[simp] theorem State.updController_settings (k : ControllerId) (f : Controller → Controller) (s : State) :
    (State.updController k f s).settings = s.settings := rfl
@[simp] theorem State.updController_cages (k : ControllerId) (f : Controller → Controller) (s : State) :
    (State.updController k f s).cages = s.cages := rfl
@[simp] theorem State.updController_controllers (k : ControllerId) (f : Controller → Controller) (s : State) :
    (State.updController k f s).controllers = s.controllers.set k (f (s.controllers.get k)) := rfl
@[simp] theorem State.updController_table (k : ControllerId) (f : Controller → Controller) (s : State) :
    (State.updController k f s).table = s.table := rfl
@[simp] theorem State.updController_sets (k : ControllerId) (f : Controller → Controller) (s : State) :
    (State.updController k f s).sets = s.sets := rfl
@[simp] theorem State.updController_search (k : ControllerId) (f : Controller → Controller) (s : State) :
    (State.updController k f s).search = s.search := rfl
@[simp] theorem State.updController_memory (k : ControllerId) (f : Controller → Controller) (s : State) :
    (State.updController k f s).memory = s.memory := rfl
@[simp] theorem State.updController_links (k : ControllerId) (f : Controller → Controller) (s : State) :
    (State.updController k f s).links = s.links := rfl
@[simp] theorem State.updController_tickTimer (k : ControllerId) (f : Controller → Controller) (s : State) :
    (State.updController k f s).tickTimer = s.tickTimer := rfl
@[simp] theorem State.updController_engaged (k : ControllerId) (f : Controller → Controller) (s : State) :
    (State.updController k f s).engaged = s.engaged := rfl
@[simp] theorem State.updController_poolFree (k : ControllerId) (f : Controller → Controller) (s : State) :
    (State.updController k f s).poolFree = s.poolFree := rfl
@[simp] theorem State.updController_poolLow (k : ControllerId) (f : Controller → Controller) (s : State) :
    (State.updController k f s).poolLow = s.poolLow := rfl
@[simp] theorem State.updController_management (k : ControllerId) (f : Controller → Controller) (s : State) :
    (State.updController k f s).management = s.management := rfl
@[simp] theorem State.updController_slotA (k : ControllerId) (f : Controller → Controller) (s : State) :
    (State.updController k f s).slotA = s.slotA := rfl
@[simp] theorem State.updController_slotB (k : ControllerId) (f : Controller → Controller) (s : State) :
    (State.updController k f s).slotB = s.slotB := rfl
@[simp] theorem State.updController_notices (k : ControllerId) (f : Controller → Controller) (s : State) :
    (State.updController k f s).notices = s.notices := rfl
@[simp] theorem State.updController_channels (k : ControllerId) (f : Controller → Controller) (s : State) :
    (State.updController k f s).channels = s.channels := rfl
@[simp] theorem State.updController_service (k : ControllerId) (f : Controller → Controller) (s : State) :
    (State.updController k f s).service = s.service := rfl

/-! `updChannel` changes the channels alone. -/

@[simp] theorem State.updChannel_pending (h : ChannelId) (f : Channel → Channel) (s : State) :
    (State.updChannel h f s).pending = s.pending := rfl
@[simp] theorem State.updChannel_now (h : ChannelId) (f : Channel → Channel) (s : State) :
    (State.updChannel h f s).now = s.now := rfl
@[simp] theorem State.updChannel_freeCount (h : ChannelId) (f : Channel → Channel) (s : State) :
    (State.updChannel h f s).freeCount = s.freeCount := rfl
@[simp] theorem State.updChannel_raised (h : ChannelId) (f : Channel → Channel) (s : State) :
    (State.updChannel h f s).raised = s.raised := rfl
@[simp] theorem State.updChannel_settings (h : ChannelId) (f : Channel → Channel) (s : State) :
    (State.updChannel h f s).settings = s.settings := rfl
@[simp] theorem State.updChannel_cages (h : ChannelId) (f : Channel → Channel) (s : State) :
    (State.updChannel h f s).cages = s.cages := rfl
@[simp] theorem State.updChannel_controllers (h : ChannelId) (f : Channel → Channel) (s : State) :
    (State.updChannel h f s).controllers = s.controllers := rfl
@[simp] theorem State.updChannel_table (h : ChannelId) (f : Channel → Channel) (s : State) :
    (State.updChannel h f s).table = s.table := rfl
@[simp] theorem State.updChannel_sets (h : ChannelId) (f : Channel → Channel) (s : State) :
    (State.updChannel h f s).sets = s.sets := rfl
@[simp] theorem State.updChannel_search (h : ChannelId) (f : Channel → Channel) (s : State) :
    (State.updChannel h f s).search = s.search := rfl
@[simp] theorem State.updChannel_memory (h : ChannelId) (f : Channel → Channel) (s : State) :
    (State.updChannel h f s).memory = s.memory := rfl
@[simp] theorem State.updChannel_links (h : ChannelId) (f : Channel → Channel) (s : State) :
    (State.updChannel h f s).links = s.links := rfl
@[simp] theorem State.updChannel_tickTimer (h : ChannelId) (f : Channel → Channel) (s : State) :
    (State.updChannel h f s).tickTimer = s.tickTimer := rfl
@[simp] theorem State.updChannel_engaged (h : ChannelId) (f : Channel → Channel) (s : State) :
    (State.updChannel h f s).engaged = s.engaged := rfl
@[simp] theorem State.updChannel_poolFree (h : ChannelId) (f : Channel → Channel) (s : State) :
    (State.updChannel h f s).poolFree = s.poolFree := rfl
@[simp] theorem State.updChannel_poolLow (h : ChannelId) (f : Channel → Channel) (s : State) :
    (State.updChannel h f s).poolLow = s.poolLow := rfl
@[simp] theorem State.updChannel_management (h : ChannelId) (f : Channel → Channel) (s : State) :
    (State.updChannel h f s).management = s.management := rfl
@[simp] theorem State.updChannel_slotA (h : ChannelId) (f : Channel → Channel) (s : State) :
    (State.updChannel h f s).slotA = s.slotA := rfl
@[simp] theorem State.updChannel_slotB (h : ChannelId) (f : Channel → Channel) (s : State) :
    (State.updChannel h f s).slotB = s.slotB := rfl
@[simp] theorem State.updChannel_notices (h : ChannelId) (f : Channel → Channel) (s : State) :
    (State.updChannel h f s).notices = s.notices := rfl
@[simp] theorem State.updChannel_channels (h : ChannelId) (f : Channel → Channel) (s : State) :
    (State.updChannel h f s).channels = s.channels.set h (f (s.channels.get h)) := rfl
@[simp] theorem State.updChannel_service (h : ChannelId) (f : Channel → Channel) (s : State) :
    (State.updChannel h f s).service = s.service := rfl

/-! `updSettings` changes the settings alone. -/

@[simp] theorem State.updSettings_pending (f : Settings → Settings) (s : State) :
    (State.updSettings f s).pending = s.pending := rfl
@[simp] theorem State.updSettings_now (f : Settings → Settings) (s : State) : (State.updSettings f s).now = s.now := rfl
@[simp] theorem State.updSettings_freeCount (f : Settings → Settings) (s : State) :
    (State.updSettings f s).freeCount = s.freeCount := rfl
@[simp] theorem State.updSettings_raised (f : Settings → Settings) (s : State) :
    (State.updSettings f s).raised = s.raised := rfl
@[simp] theorem State.updSettings_settings (f : Settings → Settings) (s : State) :
    (State.updSettings f s).settings = f s.settings := rfl
@[simp] theorem State.updSettings_cages (f : Settings → Settings) (s : State) :
    (State.updSettings f s).cages = s.cages := rfl
@[simp] theorem State.updSettings_controllers (f : Settings → Settings) (s : State) :
    (State.updSettings f s).controllers = s.controllers := rfl
@[simp] theorem State.updSettings_table (f : Settings → Settings) (s : State) :
    (State.updSettings f s).table = s.table := rfl
@[simp] theorem State.updSettings_sets (f : Settings → Settings) (s : State) :
    (State.updSettings f s).sets = s.sets := rfl
@[simp] theorem State.updSettings_search (f : Settings → Settings) (s : State) :
    (State.updSettings f s).search = s.search := rfl
@[simp] theorem State.updSettings_memory (f : Settings → Settings) (s : State) :
    (State.updSettings f s).memory = s.memory := rfl
@[simp] theorem State.updSettings_links (f : Settings → Settings) (s : State) :
    (State.updSettings f s).links = s.links := rfl
@[simp] theorem State.updSettings_tickTimer (f : Settings → Settings) (s : State) :
    (State.updSettings f s).tickTimer = s.tickTimer := rfl
@[simp] theorem State.updSettings_engaged (f : Settings → Settings) (s : State) :
    (State.updSettings f s).engaged = s.engaged := rfl
@[simp] theorem State.updSettings_poolFree (f : Settings → Settings) (s : State) :
    (State.updSettings f s).poolFree = s.poolFree := rfl
@[simp] theorem State.updSettings_poolLow (f : Settings → Settings) (s : State) :
    (State.updSettings f s).poolLow = s.poolLow := rfl
@[simp] theorem State.updSettings_management (f : Settings → Settings) (s : State) :
    (State.updSettings f s).management = s.management := rfl
@[simp] theorem State.updSettings_slotA (f : Settings → Settings) (s : State) :
    (State.updSettings f s).slotA = s.slotA := rfl
@[simp] theorem State.updSettings_slotB (f : Settings → Settings) (s : State) :
    (State.updSettings f s).slotB = s.slotB := rfl
@[simp] theorem State.updSettings_notices (f : Settings → Settings) (s : State) :
    (State.updSettings f s).notices = s.notices := rfl
@[simp] theorem State.updSettings_channels (f : Settings → Settings) (s : State) :
    (State.updSettings f s).channels = s.channels := rfl
@[simp] theorem State.updSettings_service (f : Settings → Settings) (s : State) :
    (State.updSettings f s).service = s.service := rfl

/-! `updSearch` changes the search alone. -/

@[simp] theorem State.updSearch_pending (f : SearchUnit → SearchUnit) (s : State) :
    (State.updSearch f s).pending = s.pending := rfl
@[simp] theorem State.updSearch_now (f : SearchUnit → SearchUnit) (s : State) : (State.updSearch f s).now = s.now := rfl
@[simp] theorem State.updSearch_freeCount (f : SearchUnit → SearchUnit) (s : State) :
    (State.updSearch f s).freeCount = s.freeCount := rfl
@[simp] theorem State.updSearch_raised (f : SearchUnit → SearchUnit) (s : State) :
    (State.updSearch f s).raised = s.raised := rfl
@[simp] theorem State.updSearch_settings (f : SearchUnit → SearchUnit) (s : State) :
    (State.updSearch f s).settings = s.settings := rfl
@[simp] theorem State.updSearch_cages (f : SearchUnit → SearchUnit) (s : State) :
    (State.updSearch f s).cages = s.cages := rfl
@[simp] theorem State.updSearch_controllers (f : SearchUnit → SearchUnit) (s : State) :
    (State.updSearch f s).controllers = s.controllers := rfl
@[simp] theorem State.updSearch_table (f : SearchUnit → SearchUnit) (s : State) :
    (State.updSearch f s).table = s.table := rfl
@[simp] theorem State.updSearch_sets (f : SearchUnit → SearchUnit) (s : State) :
    (State.updSearch f s).sets = s.sets := rfl
@[simp] theorem State.updSearch_search (f : SearchUnit → SearchUnit) (s : State) :
    (State.updSearch f s).search = f s.search := rfl
@[simp] theorem State.updSearch_memory (f : SearchUnit → SearchUnit) (s : State) :
    (State.updSearch f s).memory = s.memory := rfl
@[simp] theorem State.updSearch_links (f : SearchUnit → SearchUnit) (s : State) :
    (State.updSearch f s).links = s.links := rfl
@[simp] theorem State.updSearch_tickTimer (f : SearchUnit → SearchUnit) (s : State) :
    (State.updSearch f s).tickTimer = s.tickTimer := rfl
@[simp] theorem State.updSearch_engaged (f : SearchUnit → SearchUnit) (s : State) :
    (State.updSearch f s).engaged = s.engaged := rfl
@[simp] theorem State.updSearch_poolFree (f : SearchUnit → SearchUnit) (s : State) :
    (State.updSearch f s).poolFree = s.poolFree := rfl
@[simp] theorem State.updSearch_poolLow (f : SearchUnit → SearchUnit) (s : State) :
    (State.updSearch f s).poolLow = s.poolLow := rfl
@[simp] theorem State.updSearch_management (f : SearchUnit → SearchUnit) (s : State) :
    (State.updSearch f s).management = s.management := rfl
@[simp] theorem State.updSearch_slotA (f : SearchUnit → SearchUnit) (s : State) :
    (State.updSearch f s).slotA = s.slotA := rfl
@[simp] theorem State.updSearch_slotB (f : SearchUnit → SearchUnit) (s : State) :
    (State.updSearch f s).slotB = s.slotB := rfl
@[simp] theorem State.updSearch_notices (f : SearchUnit → SearchUnit) (s : State) :
    (State.updSearch f s).notices = s.notices := rfl
@[simp] theorem State.updSearch_channels (f : SearchUnit → SearchUnit) (s : State) :
    (State.updSearch f s).channels = s.channels := rfl
@[simp] theorem State.updSearch_service (f : SearchUnit → SearchUnit) (s : State) :
    (State.updSearch f s).service = s.service := rfl

/-! `updMemory` changes the memory alone. -/

@[simp] theorem State.updMemory_pending (f : RecoveryMemory → RecoveryMemory) (s : State) :
    (State.updMemory f s).pending = s.pending := rfl
@[simp] theorem State.updMemory_now (f : RecoveryMemory → RecoveryMemory) (s : State) :
    (State.updMemory f s).now = s.now := rfl
@[simp] theorem State.updMemory_freeCount (f : RecoveryMemory → RecoveryMemory) (s : State) :
    (State.updMemory f s).freeCount = s.freeCount := rfl
@[simp] theorem State.updMemory_raised (f : RecoveryMemory → RecoveryMemory) (s : State) :
    (State.updMemory f s).raised = s.raised := rfl
@[simp] theorem State.updMemory_settings (f : RecoveryMemory → RecoveryMemory) (s : State) :
    (State.updMemory f s).settings = s.settings := rfl
@[simp] theorem State.updMemory_cages (f : RecoveryMemory → RecoveryMemory) (s : State) :
    (State.updMemory f s).cages = s.cages := rfl
@[simp] theorem State.updMemory_controllers (f : RecoveryMemory → RecoveryMemory) (s : State) :
    (State.updMemory f s).controllers = s.controllers := rfl
@[simp] theorem State.updMemory_table (f : RecoveryMemory → RecoveryMemory) (s : State) :
    (State.updMemory f s).table = s.table := rfl
@[simp] theorem State.updMemory_sets (f : RecoveryMemory → RecoveryMemory) (s : State) :
    (State.updMemory f s).sets = s.sets := rfl
@[simp] theorem State.updMemory_search (f : RecoveryMemory → RecoveryMemory) (s : State) :
    (State.updMemory f s).search = s.search := rfl
@[simp] theorem State.updMemory_memory (f : RecoveryMemory → RecoveryMemory) (s : State) :
    (State.updMemory f s).memory = f s.memory := rfl
@[simp] theorem State.updMemory_links (f : RecoveryMemory → RecoveryMemory) (s : State) :
    (State.updMemory f s).links = s.links := rfl
@[simp] theorem State.updMemory_tickTimer (f : RecoveryMemory → RecoveryMemory) (s : State) :
    (State.updMemory f s).tickTimer = s.tickTimer := rfl
@[simp] theorem State.updMemory_engaged (f : RecoveryMemory → RecoveryMemory) (s : State) :
    (State.updMemory f s).engaged = s.engaged := rfl
@[simp] theorem State.updMemory_poolFree (f : RecoveryMemory → RecoveryMemory) (s : State) :
    (State.updMemory f s).poolFree = s.poolFree := rfl
@[simp] theorem State.updMemory_poolLow (f : RecoveryMemory → RecoveryMemory) (s : State) :
    (State.updMemory f s).poolLow = s.poolLow := rfl
@[simp] theorem State.updMemory_management (f : RecoveryMemory → RecoveryMemory) (s : State) :
    (State.updMemory f s).management = s.management := rfl
@[simp] theorem State.updMemory_slotA (f : RecoveryMemory → RecoveryMemory) (s : State) :
    (State.updMemory f s).slotA = s.slotA := rfl
@[simp] theorem State.updMemory_slotB (f : RecoveryMemory → RecoveryMemory) (s : State) :
    (State.updMemory f s).slotB = s.slotB := rfl
@[simp] theorem State.updMemory_notices (f : RecoveryMemory → RecoveryMemory) (s : State) :
    (State.updMemory f s).notices = s.notices := rfl
@[simp] theorem State.updMemory_channels (f : RecoveryMemory → RecoveryMemory) (s : State) :
    (State.updMemory f s).channels = s.channels := rfl
@[simp] theorem State.updMemory_service (f : RecoveryMemory → RecoveryMemory) (s : State) :
    (State.updMemory f s).service = s.service := rfl

/-! `updManagement` changes the management alone. -/

@[simp] theorem State.updManagement_pending (f : ManagementEngine → ManagementEngine) (s : State) :
    (State.updManagement f s).pending = s.pending := rfl
@[simp] theorem State.updManagement_now (f : ManagementEngine → ManagementEngine) (s : State) :
    (State.updManagement f s).now = s.now := rfl
@[simp] theorem State.updManagement_freeCount (f : ManagementEngine → ManagementEngine) (s : State) :
    (State.updManagement f s).freeCount = s.freeCount := rfl
@[simp] theorem State.updManagement_raised (f : ManagementEngine → ManagementEngine) (s : State) :
    (State.updManagement f s).raised = s.raised := rfl
@[simp] theorem State.updManagement_settings (f : ManagementEngine → ManagementEngine) (s : State) :
    (State.updManagement f s).settings = s.settings := rfl
@[simp] theorem State.updManagement_cages (f : ManagementEngine → ManagementEngine) (s : State) :
    (State.updManagement f s).cages = s.cages := rfl
@[simp] theorem State.updManagement_controllers (f : ManagementEngine → ManagementEngine) (s : State) :
    (State.updManagement f s).controllers = s.controllers := rfl
@[simp] theorem State.updManagement_table (f : ManagementEngine → ManagementEngine) (s : State) :
    (State.updManagement f s).table = s.table := rfl
@[simp] theorem State.updManagement_sets (f : ManagementEngine → ManagementEngine) (s : State) :
    (State.updManagement f s).sets = s.sets := rfl
@[simp] theorem State.updManagement_search (f : ManagementEngine → ManagementEngine) (s : State) :
    (State.updManagement f s).search = s.search := rfl
@[simp] theorem State.updManagement_memory (f : ManagementEngine → ManagementEngine) (s : State) :
    (State.updManagement f s).memory = s.memory := rfl
@[simp] theorem State.updManagement_links (f : ManagementEngine → ManagementEngine) (s : State) :
    (State.updManagement f s).links = s.links := rfl
@[simp] theorem State.updManagement_tickTimer (f : ManagementEngine → ManagementEngine) (s : State) :
    (State.updManagement f s).tickTimer = s.tickTimer := rfl
@[simp] theorem State.updManagement_engaged (f : ManagementEngine → ManagementEngine) (s : State) :
    (State.updManagement f s).engaged = s.engaged := rfl
@[simp] theorem State.updManagement_poolFree (f : ManagementEngine → ManagementEngine) (s : State) :
    (State.updManagement f s).poolFree = s.poolFree := rfl
@[simp] theorem State.updManagement_poolLow (f : ManagementEngine → ManagementEngine) (s : State) :
    (State.updManagement f s).poolLow = s.poolLow := rfl
@[simp] theorem State.updManagement_management (f : ManagementEngine → ManagementEngine) (s : State) :
    (State.updManagement f s).management = f s.management := rfl
@[simp] theorem State.updManagement_slotA (f : ManagementEngine → ManagementEngine) (s : State) :
    (State.updManagement f s).slotA = s.slotA := rfl
@[simp] theorem State.updManagement_slotB (f : ManagementEngine → ManagementEngine) (s : State) :
    (State.updManagement f s).slotB = s.slotB := rfl
@[simp] theorem State.updManagement_notices (f : ManagementEngine → ManagementEngine) (s : State) :
    (State.updManagement f s).notices = s.notices := rfl
@[simp] theorem State.updManagement_channels (f : ManagementEngine → ManagementEngine) (s : State) :
    (State.updManagement f s).channels = s.channels := rfl
@[simp] theorem State.updManagement_service (f : ManagementEngine → ManagementEngine) (s : State) :
    (State.updManagement f s).service = s.service := rfl

/-! `updNotices` changes the notices alone. -/

@[simp] theorem State.updNotices_pending (f : NoticeUnit → NoticeUnit) (s : State) :
    (State.updNotices f s).pending = s.pending := rfl
@[simp] theorem State.updNotices_now (f : NoticeUnit → NoticeUnit) (s : State) :
    (State.updNotices f s).now = s.now := rfl
@[simp] theorem State.updNotices_freeCount (f : NoticeUnit → NoticeUnit) (s : State) :
    (State.updNotices f s).freeCount = s.freeCount := rfl
@[simp] theorem State.updNotices_raised (f : NoticeUnit → NoticeUnit) (s : State) :
    (State.updNotices f s).raised = s.raised := rfl
@[simp] theorem State.updNotices_settings (f : NoticeUnit → NoticeUnit) (s : State) :
    (State.updNotices f s).settings = s.settings := rfl
@[simp] theorem State.updNotices_cages (f : NoticeUnit → NoticeUnit) (s : State) :
    (State.updNotices f s).cages = s.cages := rfl
@[simp] theorem State.updNotices_controllers (f : NoticeUnit → NoticeUnit) (s : State) :
    (State.updNotices f s).controllers = s.controllers := rfl
@[simp] theorem State.updNotices_table (f : NoticeUnit → NoticeUnit) (s : State) :
    (State.updNotices f s).table = s.table := rfl
@[simp] theorem State.updNotices_sets (f : NoticeUnit → NoticeUnit) (s : State) :
    (State.updNotices f s).sets = s.sets := rfl
@[simp] theorem State.updNotices_search (f : NoticeUnit → NoticeUnit) (s : State) :
    (State.updNotices f s).search = s.search := rfl
@[simp] theorem State.updNotices_memory (f : NoticeUnit → NoticeUnit) (s : State) :
    (State.updNotices f s).memory = s.memory := rfl
@[simp] theorem State.updNotices_links (f : NoticeUnit → NoticeUnit) (s : State) :
    (State.updNotices f s).links = s.links := rfl
@[simp] theorem State.updNotices_tickTimer (f : NoticeUnit → NoticeUnit) (s : State) :
    (State.updNotices f s).tickTimer = s.tickTimer := rfl
@[simp] theorem State.updNotices_engaged (f : NoticeUnit → NoticeUnit) (s : State) :
    (State.updNotices f s).engaged = s.engaged := rfl
@[simp] theorem State.updNotices_poolFree (f : NoticeUnit → NoticeUnit) (s : State) :
    (State.updNotices f s).poolFree = s.poolFree := rfl
@[simp] theorem State.updNotices_poolLow (f : NoticeUnit → NoticeUnit) (s : State) :
    (State.updNotices f s).poolLow = s.poolLow := rfl
@[simp] theorem State.updNotices_management (f : NoticeUnit → NoticeUnit) (s : State) :
    (State.updNotices f s).management = s.management := rfl
@[simp] theorem State.updNotices_slotA (f : NoticeUnit → NoticeUnit) (s : State) :
    (State.updNotices f s).slotA = s.slotA := rfl
@[simp] theorem State.updNotices_slotB (f : NoticeUnit → NoticeUnit) (s : State) :
    (State.updNotices f s).slotB = s.slotB := rfl
@[simp] theorem State.updNotices_notices (f : NoticeUnit → NoticeUnit) (s : State) :
    (State.updNotices f s).notices = f s.notices := rfl
@[simp] theorem State.updNotices_channels (f : NoticeUnit → NoticeUnit) (s : State) :
    (State.updNotices f s).channels = s.channels := rfl
@[simp] theorem State.updNotices_service (f : NoticeUnit → NoticeUnit) (s : State) :
    (State.updNotices f s).service = s.service := rfl

/-! `signal` changes the raised alone. -/

@[simp] theorem State.signal_pending (x : Signal) (s : State) : (State.signal x s).pending = s.pending := rfl
@[simp] theorem State.signal_now (x : Signal) (s : State) : (State.signal x s).now = s.now := rfl
@[simp] theorem State.signal_freeCount (x : Signal) (s : State) : (State.signal x s).freeCount = s.freeCount := rfl
@[simp] theorem State.signal_raised (x : Signal) (s : State) : (State.signal x s).raised = s.raised ++ [x] := rfl
@[simp] theorem State.signal_settings (x : Signal) (s : State) : (State.signal x s).settings = s.settings := rfl
@[simp] theorem State.signal_cages (x : Signal) (s : State) : (State.signal x s).cages = s.cages := rfl
@[simp] theorem State.signal_controllers (x : Signal) (s : State) :
    (State.signal x s).controllers = s.controllers := rfl
@[simp] theorem State.signal_table (x : Signal) (s : State) : (State.signal x s).table = s.table := rfl
@[simp] theorem State.signal_sets (x : Signal) (s : State) : (State.signal x s).sets = s.sets := rfl
@[simp] theorem State.signal_search (x : Signal) (s : State) : (State.signal x s).search = s.search := rfl
@[simp] theorem State.signal_memory (x : Signal) (s : State) : (State.signal x s).memory = s.memory := rfl
@[simp] theorem State.signal_links (x : Signal) (s : State) : (State.signal x s).links = s.links := rfl
@[simp] theorem State.signal_tickTimer (x : Signal) (s : State) : (State.signal x s).tickTimer = s.tickTimer := rfl
@[simp] theorem State.signal_engaged (x : Signal) (s : State) : (State.signal x s).engaged = s.engaged := rfl
@[simp] theorem State.signal_poolFree (x : Signal) (s : State) : (State.signal x s).poolFree = s.poolFree := rfl
@[simp] theorem State.signal_poolLow (x : Signal) (s : State) : (State.signal x s).poolLow = s.poolLow := rfl
@[simp] theorem State.signal_management (x : Signal) (s : State) : (State.signal x s).management = s.management := rfl
@[simp] theorem State.signal_slotA (x : Signal) (s : State) : (State.signal x s).slotA = s.slotA := rfl
@[simp] theorem State.signal_slotB (x : Signal) (s : State) : (State.signal x s).slotB = s.slotB := rfl
@[simp] theorem State.signal_notices (x : Signal) (s : State) : (State.signal x s).notices = s.notices := rfl
@[simp] theorem State.signal_channels (x : Signal) (s : State) : (State.signal x s).channels = s.channels := rfl
@[simp] theorem State.signal_service (x : Signal) (s : State) : (State.signal x s).service = s.service := rfl

/-! `reach` changes the now alone. -/

@[simp] theorem State.reach_pending (m : Moment) (s : State) : (State.reach m s).pending = s.pending := rfl
@[simp] theorem State.reach_now (m : Moment) (s : State) : (State.reach m s).now = max s.now m := rfl
@[simp] theorem State.reach_freeCount (m : Moment) (s : State) : (State.reach m s).freeCount = s.freeCount := rfl
@[simp] theorem State.reach_raised (m : Moment) (s : State) : (State.reach m s).raised = s.raised := rfl
@[simp] theorem State.reach_settings (m : Moment) (s : State) : (State.reach m s).settings = s.settings := rfl
@[simp] theorem State.reach_cages (m : Moment) (s : State) : (State.reach m s).cages = s.cages := rfl
@[simp] theorem State.reach_controllers (m : Moment) (s : State) : (State.reach m s).controllers = s.controllers := rfl
@[simp] theorem State.reach_table (m : Moment) (s : State) : (State.reach m s).table = s.table := rfl
@[simp] theorem State.reach_sets (m : Moment) (s : State) : (State.reach m s).sets = s.sets := rfl
@[simp] theorem State.reach_search (m : Moment) (s : State) : (State.reach m s).search = s.search := rfl
@[simp] theorem State.reach_memory (m : Moment) (s : State) : (State.reach m s).memory = s.memory := rfl
@[simp] theorem State.reach_links (m : Moment) (s : State) : (State.reach m s).links = s.links := rfl
@[simp] theorem State.reach_tickTimer (m : Moment) (s : State) : (State.reach m s).tickTimer = s.tickTimer := rfl
@[simp] theorem State.reach_engaged (m : Moment) (s : State) : (State.reach m s).engaged = s.engaged := rfl
@[simp] theorem State.reach_poolFree (m : Moment) (s : State) : (State.reach m s).poolFree = s.poolFree := rfl
@[simp] theorem State.reach_poolLow (m : Moment) (s : State) : (State.reach m s).poolLow = s.poolLow := rfl
@[simp] theorem State.reach_management (m : Moment) (s : State) : (State.reach m s).management = s.management := rfl
@[simp] theorem State.reach_slotA (m : Moment) (s : State) : (State.reach m s).slotA = s.slotA := rfl
@[simp] theorem State.reach_slotB (m : Moment) (s : State) : (State.reach m s).slotB = s.slotB := rfl
@[simp] theorem State.reach_notices (m : Moment) (s : State) : (State.reach m s).notices = s.notices := rfl
@[simp] theorem State.reach_channels (m : Moment) (s : State) : (State.reach m s).channels = s.channels := rfl
@[simp] theorem State.reach_service (m : Moment) (s : State) : (State.reach m s).service = s.service := rfl

/-! `spend` changes the freeCount alone. -/

@[simp] theorem State.spend_pending (s : State) : (State.spend s).pending = s.pending := rfl
@[simp] theorem State.spend_now (s : State) : (State.spend s).now = s.now := rfl
@[simp] theorem State.spend_freeCount (s : State) : (State.spend s).freeCount = s.freeCount + 1 := rfl
@[simp] theorem State.spend_raised (s : State) : (State.spend s).raised = s.raised := rfl
@[simp] theorem State.spend_settings (s : State) : (State.spend s).settings = s.settings := rfl
@[simp] theorem State.spend_cages (s : State) : (State.spend s).cages = s.cages := rfl
@[simp] theorem State.spend_controllers (s : State) : (State.spend s).controllers = s.controllers := rfl
@[simp] theorem State.spend_table (s : State) : (State.spend s).table = s.table := rfl
@[simp] theorem State.spend_sets (s : State) : (State.spend s).sets = s.sets := rfl
@[simp] theorem State.spend_search (s : State) : (State.spend s).search = s.search := rfl
@[simp] theorem State.spend_memory (s : State) : (State.spend s).memory = s.memory := rfl
@[simp] theorem State.spend_links (s : State) : (State.spend s).links = s.links := rfl
@[simp] theorem State.spend_tickTimer (s : State) : (State.spend s).tickTimer = s.tickTimer := rfl
@[simp] theorem State.spend_engaged (s : State) : (State.spend s).engaged = s.engaged := rfl
@[simp] theorem State.spend_poolFree (s : State) : (State.spend s).poolFree = s.poolFree := rfl
@[simp] theorem State.spend_poolLow (s : State) : (State.spend s).poolLow = s.poolLow := rfl
@[simp] theorem State.spend_management (s : State) : (State.spend s).management = s.management := rfl
@[simp] theorem State.spend_slotA (s : State) : (State.spend s).slotA = s.slotA := rfl
@[simp] theorem State.spend_slotB (s : State) : (State.spend s).slotB = s.slotB := rfl
@[simp] theorem State.spend_notices (s : State) : (State.spend s).notices = s.notices := rfl
@[simp] theorem State.spend_channels (s : State) : (State.spend s).channels = s.channels := rfl
@[simp] theorem State.spend_service (s : State) : (State.spend s).service = s.service := rfl

/-! ### One cage, one link, one controller, one channel -/

/-- The cage changed is read as changed. -/
@[simp] theorem State.cage_updCage_self (c : CageId) (f : Cage → Cage) (s : State) :
    (s.updCage c f).cage c = f (s.cage c) := by
  simp [State.cage]

/-- Another cage is read as before. -/
theorem State.cage_updCage_ne (c d : CageId) (f : Cage → Cage) (s : State) (h : c ≠ d) :
    (s.updCage c f).cage d = s.cage d := by
  simp [State.cage, Bank.get_set_ne _ _ _ _ h]

/-- The link changed is read as changed. -/
@[simp] theorem State.link_updLink_self (j : LinkId) (f : Link → Link) (s : State) :
    (s.updLink j f).link j = f (s.link j) := by
  simp [State.link]

/-- Another link is read as before. -/
theorem State.link_updLink_ne (i j : LinkId) (f : Link → Link) (s : State) (h : i ≠ j) :
    (s.updLink i f).link j = s.link j := by
  simp [State.link, Bank.get_set_ne _ _ _ _ h]

/-- The controller changed is read as changed. -/
@[simp] theorem State.controller_updController_self (k : ControllerId) (f : Controller → Controller) (s : State) :
    (s.updController k f).controller k = f (s.controller k) := by
  simp [State.controller]

/-- Another controller is read as before. -/
theorem State.controller_updController_ne (k i : ControllerId) (f : Controller → Controller) (s : State) (h : k ≠ i) :
    (s.updController k f).controller i = s.controller i := by
  simp [State.controller, Bank.get_set_ne _ _ _ _ h]

/-- The channel changed is read as changed. -/
@[simp] theorem State.channel_updChannel_self (h : ChannelId) (f : Channel → Channel) (s : State) :
    (s.updChannel h f).channel h = f (s.channel h) := by
  simp [State.channel]

/-- Another channel is read as before. -/
theorem State.channel_updChannel_ne (h i : ChannelId) (f : Channel → Channel) (s : State) (n : h ≠ i) :
    (s.updChannel h f).channel i = s.channel i := by
  simp [State.channel, Bank.get_set_ne _ _ _ _ n]

@[simp] theorem State.cage_updLink (j : LinkId) (f : Link → Link) (c : CageId) (s : State) :
    (s.updLink j f).cage c = s.cage c := rfl
@[simp] theorem State.cage_updController (k : ControllerId) (f : Controller → Controller) (c : CageId) (s : State) :
    (s.updController k f).cage c = s.cage c := rfl
@[simp] theorem State.cage_updManagement (f : ManagementEngine → ManagementEngine) (c : CageId) (s : State) :
    (s.updManagement f).cage c = s.cage c := rfl
@[simp] theorem State.link_updCage (c : CageId) (f : Cage → Cage) (j : LinkId) (s : State) :
    (s.updCage c f).link j = s.link j := rfl
@[simp] theorem State.link_updController (k : ControllerId) (f : Controller → Controller) (j : LinkId) (s : State) :
    (s.updController k f).link j = s.link j := rfl
@[simp] theorem State.link_updManagement (f : ManagementEngine → ManagementEngine) (j : LinkId) (s : State) :
    (s.updManagement f).link j = s.link j := rfl
@[simp] theorem State.link_updMemory (f : RecoveryMemory → RecoveryMemory) (j : LinkId) (s : State) :
    (s.updMemory f).link j = s.link j := rfl
@[simp] theorem State.link_signal (x : Signal) (j : LinkId) (s : State) : (s.signal x).link j = s.link j := rfl
@[simp] theorem State.cage_signal (x : Signal) (c : CageId) (s : State) : (s.signal x).cage c = s.cage c := rfl
@[simp] theorem State.link_reach (m : Moment) (j : LinkId) (s : State) : (s.reach m).link j = s.link j := rfl
@[simp] theorem State.cage_reach (m : Moment) (c : CageId) (s : State) : (s.reach m).cage c = s.cage c := rfl

/-! ### Frames as they are sent -/

@[simp] theorem ManagementFrame.sentUnder_source (g : Settings) (m : ManagementFrame) :
    (m.sentUnder g).source = g.managementAddress := rfl
@[simp] theorem ManagementFrame.sentUnder_typeValue (g : Settings) (m : ManagementFrame) :
    (m.sentUnder g).typeValue = g.managementType := rfl
@[simp] theorem ManagementFrame.sentUnder_destination (g : Settings) (m : ManagementFrame) :
    (m.sentUnder g).destination = m.destination := rfl
@[simp] theorem ManagementFrame.sentUnder_kind (g : Settings) (m : ManagementFrame) : (m.sentUnder g).kind = m.kind := rfl
@[simp] theorem ManagementFrame.sentUnder_tag (g : Settings) (m : ManagementFrame) : (m.sentUnder g).tag = m.tag := rfl
@[simp] theorem ManagementFrame.sentUnder_code (g : Settings) (m : ManagementFrame) : (m.sentUnder g).code = m.code := rfl
@[simp] theorem ManagementFrame.sentUnder_outcome (g : Settings) (m : ManagementFrame) :
    (m.sentUnder g).outcome = m.outcome := rfl
@[simp] theorem ManagementFrame.sentUnder_body (g : Settings) (m : ManagementFrame) : (m.sentUnder g).body = m.body := rfl
@[simp] theorem PauseFrame.sentUnder_priorities (g : Settings) (p : PauseFrame) :
    (p.sentUnder g).priorities = p.priorities := rfl
@[simp] theorem PauseFrame.sentUnder_release (g : Settings) (b : BitVec 8) :
    (⟨b, 0⟩ : PauseFrame).sentUnder g = ⟨b, 0⟩ := rfl
/-- A pause frame made and begun in one change carries the pause time in force. -/
@[simp] theorem PauseFrame.sentUnder_inForce (g : Settings) (b : BitVec 8) :
    (⟨b, g.pauseTime⟩ : PauseFrame).sentUnder g = ⟨b, g.pauseTime⟩ := by
  unfold PauseFrame.sentUnder
  split <;> simp_all
@[simp] theorem FabricFrame.sentUnder_pause (g : Settings) (p : PauseFrame) :
    (FabricFrame.pause p).sentUnder g = .pause (p.sentUnder g) := rfl
@[simp] theorem FabricFrame.sentUnder_reply (g : Settings) (m : ManagementFrame) :
    (FabricFrame.reply m).sentUnder g = .reply (m.sentUnder g) := rfl
@[simp] theorem FabricFrame.sentUnder_forwarded (g : Settings) (b : List Byte) :
    (FabricFrame.forwarded b).sentUnder g = .forwarded b := rfl

/-! ### The module side after a transit -/

@[simp] theorem ModuleEgress.afterTransit_quiet (e : ModuleEgress) : e.afterTransit false = ⟨none, []⟩ := rfl
@[simp] theorem ModuleEgress.afterTransit_last (f : Option (List Byte)) :
    (⟨f, []⟩ : ModuleEgress).afterTransit true = ⟨none, []⟩ := rfl
@[simp] theorem ModuleEgress.afterTransit_next (f : Option (List Byte)) (g : List Byte) (rest : List (List Byte)) :
    (⟨f, g :: rest⟩ : ModuleEgress).afterTransit true = ⟨some g, rest⟩ := rfl

/-! ### Page records that become unknown -/

@[simp] theorem Transaction.wipe_request (b : Bool) (t : Transaction) : (t.wipe b).request = t.request := rfl
@[simp] theorem Transaction.wipe_attempt (b : Bool) (t : Transaction) : (t.wipe b).attempt = t.attempt := rfl
@[simp] theorem Transaction.wipe_selecting (b : Bool) (t : Transaction) : (t.wipe b).selecting = t.selecting := rfl
@[simp] theorem Transaction.wipe_discarded (b : Bool) (t : Transaction) : (t.wipe b).discarded = t.discarded := rfl
@[simp] theorem Transaction.wipe_forgotten (b : Bool) (t : Transaction) : (t.wipe b).forgotten = t.forgotten := rfl
@[simp] theorem Transaction.wipe_wiped (b : Bool) (t : Transaction) :
    (t.wipe b).wiped = (t.wiped || !(t.selecting && b)) := rfl

/-- A page record that becomes unknown changes its cage, the cage's controller and the counter of free values. -/
theorem State.forgetPage_touches (c : CageId) (s : State) :
    s.forgetPage c = { s with
      cages := s.cages.set c { s.cage c with lastPage := none }
      controllers := s.controllers.set (controllerOf c)
        ((s.controller (controllerOf c)).markFor c (Transaction.wipe (Config.selectsLater s.freeCount)))
      freeCount := s.freeCount + 1 } := rfl

theorem State.forgetAtReset_released {c : CageId} {s : State} (h : (s.cage c).resetLine = false) :
    s.forgetAtReset c = s.forgetPage c := by
  simp [State.forgetAtReset, h]

theorem State.forgetAtReset_asserted {c : CageId} {s : State} (h : (s.cage c).resetLine = true) :
    s.forgetAtReset c = s := by
  simp [State.forgetAtReset, h]

end Sys2Proof.Machine
end

