-- ==== Sys2Proof/Laws/Ops.lean ====
section
/-! SUPPORT. What the shared operations do and leave, said once for each: iteration, requests and replies, and the end of a
step. -/

namespace Sys2Proof.Machine

/-! ### Iteration -/

@[simp] theorem State.forEach_nil {α : Type} (f : α → State → State) (s : State) : s.forEach f [] = s := rfl

@[simp] theorem State.forEach_cons {α : Type} (f : α → State → State) (x : α) (l : List α) (s : State) :
    s.forEach f (x :: l) = (f x s).forEach f l := rfl

/-- What every change of an iteration keeps, the iteration keeps. -/
theorem State.forEach_keeps {α : Type} (P : State → Prop) (f : α → State → State) (l : List α) (s : State) (h : P s)
    (step : ∀ x ∈ l, ∀ t, P t → P (f x t)) : P (s.forEach f l) := by
  induction l generalizing s with
  | nil => exact h
  | cons x rest ih =>
    exact ih (f x s) (step x (by simp) s h) fun y hy t ht => step y (by simp [hy]) t ht

/-! ### Replies -/

/-- A reply changes the service port or one link's fabric-side egress, and nothing else. -/
theorem State.sendReply_touches (r : Request) (o : RequestOutcome) (fields : List Nat) (data : List Byte) (s : State) :
    ∃ sv ls, s.sendReply r o fields data = { s with service := sv, links := ls } := by
  unfold State.sendReply
  split
  · exact ⟨_, s.links, rfl⟩
  · exact ⟨s.service, _, rfl⟩

@[simp] theorem State.sendReply_management (r : Request) (o : RequestOutcome) (fields : List Nat) (data : List Byte)
    (s : State) : (s.sendReply r o fields data).management = s.management := by
  obtain ⟨_, _, h⟩ := s.sendReply_touches r o fields data
  rw [h]

@[simp] theorem State.sendReply_settings (r : Request) (o : RequestOutcome) (fields : List Nat) (data : List Byte)
    (s : State) : (s.sendReply r o fields data).settings = s.settings := by
  obtain ⟨_, _, h⟩ := s.sendReply_touches r o fields data
  rw [h]

@[simp] theorem State.sendReply_raised (r : Request) (o : RequestOutcome) (fields : List Nat) (data : List Byte)
    (s : State) : (s.sendReply r o fields data).raised = s.raised := by
  obtain ⟨_, _, h⟩ := s.sendReply_touches r o fields data
  rw [h]

/-- A change of the management engine and a reply go in either order. -/
theorem State.sendReply_updManagement (r : Request) (o : RequestOutcome) (fields : List Nat) (data : List Byte)
    (f : ManagementEngine → ManagementEngine) (s : State) :
    (s.updManagement f).sendReply r o fields data = (s.sendReply r o fields data).updManagement f := by
  unfold State.sendReply
  split <;> rfl

/-- A reply reads its request's port, source, tag and code alone. -/
theorem State.sendReply_askedBy (r : Request) (o : RequestOutcome) (fields : List Nat) (data : List Byte) (s : State) :
    s.sendReply r o fields data = s.sendReply (askedBy (requesterOf r) r.code) o fields data := rfl

/-! ### The engine -/

/-- An engine with an empty queue that answers has nothing in execution. -/
theorem State.respond_last (e : Execution) (o : RequestOutcome) (fields : List Nat) (data : List Byte) (s : State)
    (he : s.management.executing = some e) (hq : s.management.queue = []) :
    s.respond o fields data = (s.sendReply e.request o fields data).updManagement fun m =>
      { m with executing := none, queue := [] } := by
  simp [State.respond, he, State.takeNext, hq, State.takeFrom, State.updManagement]

/-- A request is in execution as one that reaches an idle engine is. -/
def State.executing (r : Request) (s : State) : State :=
  s.updManagement fun m => { m with queue := [], executing := some ⟨r, false⟩ }

/-- A well-formed request that reaches an idle engine is executed at once (R161). -/
theorem serve_idle (i : Instr) (f : State → State) (r : Request) (s : State) (h : s.engineIdle)
    (he : encodeRequest i = some r) (hd : decodeRequest r = .ok i) :
    serve i f s = (f (s.executing r)).answer := by
  obtain ⟨h1, h2⟩ := h
  have arrived : s.receive i = s.executing r := by
    simp [State.receive, State.isExecuting, h1, he, State.arrive, h2, queueLimit, State.takeNext, State.takeFrom, hd,
      State.updManagement, State.executing]
  have executing : (s.executing r).isExecuting i = true := by
    simp [State.isExecuting, State.executing, hd]
  simp [serve, arrived, executing]

/-- A request that is answered as its only effect changes `s` by `g` and then by its reply. -/
theorem respond_idle (g : State → State) (r : Request) (o : RequestOutcome) (fields : List Nat) (data : List Byte)
    (s : State) (h : s.engineIdle)
    (comm : g (s.executing r) = (g s).updManagement fun m => { m with queue := [], executing := some ⟨r, false⟩ })
    (kept : (g s).management = s.management) :
    (g (s.executing r)).respond o fields data = (g s).sendReply r o fields data := by
  obtain ⟨h1, h2⟩ := h
  have back : (fun m : ManagementEngine => ({ m with executing := none, queue := [] } : ManagementEngine)) (g s).management
      = (g s).management := by
    rw [kept]
    cases hm : s.management
    simp_all
  rw [comm, State.respond_last ⟨r, false⟩ o fields data _ rfl rfl, State.sendReply_updManagement]
  obtain ⟨sv, ls, e⟩ := (g s).sendReply_touches r o fields data
  rw [e]
  simp only [State.updManagement] at back ⊢
  simp [back]

/-! ### The end of a step -/

/-- Beginning a frame changes the service port and the notice unit. -/
theorem State.beginService_touches (m : ManagementFrame) (s : State) :
    ∃ sv nt, s.beginService m = { s with service := sv, notices := nt } := ⟨_, _, rfl⟩

/-- The notice unit takes an event by changing itself and a DISCARD mark. -/
theorem State.noticeEvent_touches (e : Event) (s : State) :
    ∃ nt ls, s.noticeEvent e = { s with notices := nt, links := ls } := by
  unfold State.noticeEvent
  split
  · exact ⟨s.notices, s.links, rfl⟩
  · split
    · exact ⟨_, s.links, rfl⟩
    · split
      · exact ⟨_, _, rfl⟩
      · exact ⟨_, s.links, rfl⟩

/-- A capture changes a channel. -/
theorem State.capture_touches (h : ChannelId) (k : EventKind) (source : Nat) (s : State) :
    ∃ cs, (s.capture h k source).1 = { s with channels := cs } := ⟨_, rfl⟩

/-- A claim changes a channel. -/
theorem State.claim_touches (h : ChannelId) (k : EventKind) (source : Nat) (s : State) :
    ∃ cs, (s.claim h k source).1 = { s with channels := cs } := by
  unfold State.claim
  split
  · exact s.capture_touches h k source
  · split
    · exact ⟨s.channels, rfl⟩
    · exact ⟨_, rfl⟩

/-- A notice or a snapshot leaves by changing the notice unit, the channels, the service port and a DISCARD mark. -/
theorem State.sendNotice_touches (e : PendingEntry) (s : State) :
    ∃ sv nt ls, s.sendNotice e = { s with service := sv, notices := nt, links := ls } := by
  unfold State.sendNotice
  simp only
  split
  · exact ⟨_, _, _, rfl⟩
  · exact ⟨_, _, s.links, rfl⟩

/-- A channel's snapshot leaves by changing the channel, the service port and the gap timer. -/
theorem State.sendSnapshot_touches (h : ChannelId) (r : SnapshotRecord) (s : State) :
    ∃ sv nt cs, s.sendSnapshot h r = { s with service := sv, notices := nt, channels := cs } := ⟨_, _, _, rfl⟩

end Sys2Proof.Machine
end

