-- ==== Sys2Proof/Laws/PerInstr.lean ====
section
/-! SUPPORT. Per command: the family Wire. A request command is laid out as a request that passes the first two header
checks of R159: its version is 1 and its body has the length the header gives. -/

namespace Sys2Proof.Laws.Wire

/-- A request command's layout has version 1 and a body of the length it names; an event has no layout (R159, R168). -/
def Statement (i : Instr) : Prop :=
  ∀ r, encodeRequest i = some r → r.version = 1 ∧ r.bodyLength = r.body.length

/-- Every layout is made so. -/
theorem made (i : Instr) : Statement i := by
  intro r h
  unfold encodeRequest at h
  cases hp : requestParts i with
  | none => simp [hp] at h
  | some x =>
    simp only [hp, Option.map_some, Option.some.injEq] at h
    subst h
    exact ⟨rfl, rfl⟩

theorem powerOnReset (present alert : BitVec 16) (straps : BitVec 4) :
    Statement (.powerOnReset present alert straps) := made _
theorem presentAssertion (cage : CageId) : Statement (.presentAssertion cage) := made _
theorem presentDeassertionInSeating (cage : CageId) : Statement (.presentDeassertionInSeating cage) := made _
theorem removal (cage : CageId) : Statement (.removal cage) := made _
theorem alertAssertion (cage : CageId) : Statement (.alertAssertion cage) := made _
theorem seatingTimerExpiry (cage : CageId) : Statement (.seatingTimerExpiry cage) := made _
theorem readyTimerExpiry (cage : CageId) : Statement (.readyTimerExpiry cage) := made _
theorem moduleBusAttemptFailure (controller : ControllerId) (selected : Bool) :
    Statement (.moduleBusAttemptFailure controller selected) := made _
theorem busStretchTimeout (controller : ControllerId) : Statement (.busStretchTimeout controller) := made _
theorem moduleBusTransactionEnd (controller : ControllerId) (data : List Byte) :
    Statement (.moduleBusTransactionEnd controller data) := made _
theorem searchEnd : Statement .searchEnd := made _
theorem guardTimerExpiry (cage : CageId) : Statement (.guardTimerExpiry cage) := made _
theorem pollTimerExpiry (cage : CageId) : Statement (.pollTimerExpiry cage) := made _
theorem powerUpTimerExpiry (cage : CageId) : Statement (.powerUpTimerExpiry cage) := made _
theorem laneConverged (link : LinkId) (report : Convergence) : Statement (.laneConverged link report) := made _
theorem adaptationTimerExpiry (link : LinkId) : Statement (.adaptationTimerExpiry link) := made _
theorem markerLock (link : LinkId) (lane : LaneId) (offset : Nat) : Statement (.markerLock link lane offset) := made _
theorem fecLock (link : LinkId) : Statement (.fecLock link) := made _
theorem alignmentTimerExpiry (link : LinkId) : Statement (.alignmentTimerExpiry link) := made _
theorem lossOfLock (link : LinkId) (what : LockLoss) : Statement (.lossOfLock link what) := made _
theorem lockLossTimerExpiry (link : LinkId) : Statement (.lockLossTimerExpiry link) := made _
theorem windowTimerExpiry (link : LinkId) : Statement (.windowTimerExpiry link) := made _
theorem probeIntervalExpiry (link : LinkId) : Statement (.probeIntervalExpiry link) := made _
theorem decayTickExpiry : Statement .decayTickExpiry := made _
theorem holdTimerExpiry (link : LinkId) : Statement (.holdTimerExpiry link) := made _
theorem pauseRefreshExpiry (link : LinkId) (cls : ClassId) : Statement (.pauseRefreshExpiry link cls) := made _
theorem frameFromSwitch (link : LinkId) (frame : List Byte) : Statement (.frameFromSwitch link frame) := made _
theorem frameFromModule (link : LinkId) (frame : List Byte) : Statement (.frameFromModule link frame) := made _
theorem fabricEgressFree (link : LinkId) : Statement (.fabricEgressFree link) := made _
theorem tokenTick (link : LinkId) : Statement (.tokenTick link) := made _
theorem moduleEgressTransitEnd (link : LinkId) : Statement (.moduleEgressTransitEnd link) := made _
theorem rampTimerExpiry (link : LinkId) : Statement (.rampTimerExpiry link) := made _
theorem servicePortFrame (frame : List Byte) : Statement (.servicePortFrame frame) := made _
theorem readStateDevice (rq : Requester) : Statement (.readStateDevice rq) := made _
theorem readStateCage (rq : Requester) (cage : Byte) : Statement (.readStateCage rq cage) := made _
theorem readStateLink (rq : Requester) (link : Byte) : Statement (.readStateLink rq link) := made _
theorem readCounters (rq : Requester) (link : Byte) : Statement (.readCounters rq link) := made _
theorem readDiscards (rq : Requester) : Statement (.readDiscards rq) := made _
theorem seatingTime (rq : Requester) (value : BitVec 16) : Statement (.seatingTime rq value) := made _
theorem managementReadyTime (rq : Requester) (value : BitVec 16) : Statement (.managementReadyTime rq value) := made _
theorem identityReadList (rq : Requester) (value : List Byte) : Statement (.identityReadList rq value) := made _
theorem serialLocation (rq : Requester) (page offset : Byte) : Statement (.serialLocation rq page offset) := made _
theorem pageSelectLocation (rq : Requester) (value : Byte) : Statement (.pageSelectLocation rq value) := made _
theorem fabricLayout (rq : Requester) (cage value : Byte) : Statement (.fabricLayout rq cage value) := made _
theorem alertEnable (rq : Requester) (cage value : Byte) : Statement (.alertEnable rq cage value) := made _
theorem lockLossConfirmTime (rq : Requester) (value : BitVec 16) : Statement (.lockLossConfirmTime rq value) := made _
theorem lossIncrement (rq : Requester) (value : BitVec 16) : Statement (.lossIncrement rq value) := made _
theorem removalIncrement (rq : Requester) (value : BitVec 16) : Statement (.removalIncrement rq value) := made _
theorem ceiling (rq : Requester) (value : BitVec 16) : Statement (.ceiling rq value) := made _
theorem suppressThreshold (rq : Requester) (value : BitVec 16) : Statement (.suppressThreshold rq value) := made _
theorem reuseThreshold (rq : Requester) (value : BitVec 16) : Statement (.reuseThreshold rq value) := made _
theorem decayFactor (rq : Requester) (value : BitVec 16) : Statement (.decayFactor rq value) := made _
theorem decayTick (rq : Requester) (value : BitVec 16) : Statement (.decayTick rq value) := made _
theorem pausable (rq : Requester) (cls value : Byte) : Statement (.pausable rq cls value) := made _
theorem pauseTime (rq : Requester) (value : BitVec 16) : Statement (.pauseTime rq value) := made _
theorem pauseOnHold (rq : Requester) (value : Byte) : Statement (.pauseOnHold rq value) := made _
theorem dscpMapEnable (rq : Requester) (value : Byte) : Statement (.dscpMapEnable rq value) := made _
theorem dscpMap (rq : Requester) (value : List Byte) : Statement (.dscpMap rq value) := made _
theorem defaultPriority (rq : Requester) (value : Byte) : Statement (.defaultPriority rq value) := made _
theorem classMap (rq : Requester) (value : List Byte) : Statement (.classMap rq value) := made _
theorem classLimit (rq : Requester) (value : BitVec 16) : Statement (.classLimit rq value) := made _
theorem criticalLevel (rq : Requester) (value : BitVec 16) : Statement (.criticalLevel rq value) := made _
theorem resumeLevel (rq : Requester) (value : BitVec 16) : Statement (.resumeLevel rq value) := made _
theorem linkLimit (rq : Requester) (value : BitVec 16) : Statement (.linkLimit rq value) := made _
theorem poolLowMark (rq : Requester) (value : BitVec 16) : Statement (.poolLowMark rq value) := made _
theorem managementAddress (rq : Requester) (value : MacAddress) : Statement (.managementAddress rq value) := made _
theorem managementTypeValue (rq : Requester) (value : BitVec 16) : Statement (.managementTypeValue rq value) := made _
theorem noticeLevel (rq : Requester) (kind value : Byte) : Statement (.noticeLevel rq kind value) := made _
theorem noticeGap (rq : Requester) (value : Byte) : Statement (.noticeGap rq value) := made _
theorem engage (rq : Requester) : Statement (.engage rq) := made _
theorem disengage (rq : Requester) : Statement (.disengage rq) := made _
theorem deviceRestart (rq : Requester) : Statement (.deviceRestart rq) := made _
theorem cageRestart (rq : Requester) (cage : Byte) : Statement (.cageRestart rq cage) := made _
theorem tableEdit (rq : Requester) : Statement (.tableEdit rq) := made _
theorem tableAppend (rq : Requester) (key attr : BitVec 32) : Statement (.tableAppend rq key attr) := made _
theorem tableReplace (rq : Requester) (index : Byte) (key attr : BitVec 32) :
    Statement (.tableReplace rq index key attr) := made _
theorem tableTruncate (rq : Requester) (count : BitVec 16) : Statement (.tableTruncate rq count) := made _
theorem tableCommit (rq : Requester) (checksum : BitVec 32) : Statement (.tableCommit rq checksum) := made _
theorem commitChecksumDone : Statement .commitChecksumDone := made _
theorem tableRead (rq : Requester) (start : BitVec 16) (number : Byte) :
    Statement (.tableRead rq start number) := made _
theorem setWrite (rq : Requester) (set : Byte) (contents : List Byte) : Statement (.setWrite rq set contents) := made _
theorem setRead (rq : Requester) (set : Byte) : Statement (.setRead rq set) := made _
theorem moduleRead (rq : Requester) (cage page offset length : Byte) :
    Statement (.moduleRead rq cage page offset length) := made _
theorem moduleWrite (rq : Requester) (cage page offset length : Byte) (data : List Byte) :
    Statement (.moduleWrite rq cage page offset length data) := made _
theorem forceGateOff (rq : Requester) (cage : Byte) : Statement (.forceGateOff rq cage) := made _
theorem reArmGate (rq : Requester) (cage : Byte) : Statement (.reArmGate rq cage) := made _
theorem extendHold (rq : Requester) (link : Byte) (extension : BitVec 16) :
    Statement (.extendHold rq link extension) := made _
theorem forceAdmit (rq : Requester) (link : Byte) : Statement (.forceAdmit rq link) := made _
theorem acceptPeer (rq : Requester) (link : Byte) : Statement (.acceptPeer rq link) := made _
theorem linkRetry (rq : Requester) (link : Byte) : Statement (.linkRetry rq link) := made _
theorem clearPenalty (rq : Requester) (link : Byte) : Statement (.clearPenalty rq link) := made _
theorem flushPark (rq : Requester) (link : Byte) : Statement (.flushPark rq link) := made _
theorem forgetCage (rq : Requester) (number : BitVec 32) : Statement (.forgetCage rq number) := made _
theorem forgetDigest (rq : Requester) (digest : BitVec 32) : Statement (.forgetDigest rq digest) := made _
theorem forgetPeer (rq : Requester) (number : BitVec 32) : Statement (.forgetPeer rq number) := made _
theorem forgetAll (rq : Requester) : Statement (.forgetAll rq) := made _
theorem readMemoryCageRecords (rq : Requester) : Statement (.readMemoryCageRecords rq) := made _
theorem readMemoryCache (rq : Requester) : Statement (.readMemoryCache rq) := made _
theorem readMemoryPeerRecords (rq : Requester) : Statement (.readMemoryPeerRecords rq) := made _
theorem snapArm (rq : Requester) (channel kind source count mode : Byte) :
    Statement (.snapArm rq channel kind source count mode) := made _
theorem snapStart (rq : Requester) (channel source : Byte) : Statement (.snapStart rq channel source) := made _
theorem snapDisarm (rq : Requester) (channel : Byte) : Statement (.snapDisarm rq channel) := made _
theorem gapTimerExpiry : Statement .gapTimerExpiry := made _
theorem servicePortFree : Statement .servicePortFree := made _
theorem entryDamage (index : Fin 256) (key attr : BitVec 32) : Statement (.entryDamage index key attr) := made _
theorem codewordDecoded (link : LinkId) (corrected : Nat) (uncorrectable : Bool) :
    Statement (.codewordDecoded link corrected uncorrectable) := made _
theorem alertDeassertion (cage : CageId) : Statement (.alertDeassertion cage) := made _

end Sys2Proof.Laws.Wire
end

