-- ==== Sys2Proof/Tests/Slice0.lean ====
section
/-! SUPPORT. Tests: ill-formed commands are refused; the manual's worked examples come out as the manual gives them; and for
each statement of Certificates/Slice0/Obligations.lean that has hypotheses, `test_witness_…` shows concrete states and
operands that meet them, one for each clause, at the boundaries of its ranges. -/

namespace Sys2Proof.Tests

open Sys2Proof.Machine

/-! ### Small states -/

/-- A requester on the service port. -/
def q0 : Requester := ⟨.service, 0x020000000001#48, 7⟩

/-- The request that a command stands for, as the queue holds it. -/
def asked (i : Instr) : Request := (encodeRequest i).getD (askedBy q0 0)

/-- After reset, with a request in execution and others waiting. -/
def busy (i : Instr) (holding : Bool) (waiting : List Request := []) : State :=
  { State.reset with management := ⟨waiting, some ⟨asked i, holding⟩, none⟩ }

/-- After reset, but for cage 0. -/
def cageIn (mode : CageMode) (f : Cage → Cage := id) : State :=
  State.reset.updCage 0 fun m => f { m with mode := mode }

/-- A state but for link 0. -/
def linkIn (recovery : RecoveryState) (f : Link → Link := id) (s : State := State.reset) : State :=
  s.updLink 0 fun l => f { l with engine := { l.engine with recovery := recovery } }

/-- After reset, but for link 0's engine. -/
def engineIn (recovery : RecoveryState) (f : LinkEngine → LinkEngine) : State :=
  linkIn recovery fun l => { l with engine := f l.engine }

/-- A read of cage 0 that has been asked for. -/
def readOf (requester : BusRequester) (length : Nat := 1) : BusRequest := ⟨requester, 0, .read, 0, 0, length, []⟩

/-- A read of cage 0 in flight for its monitor. -/
def monitorRead (purpose : Purpose) (length : Nat := 1) (attempt : Nat := 1) (discarded : Bool := false) : Transaction :=
  ⟨readOf (.monitor purpose 0) length, attempt, 127, true, discarded, false, false⟩

/-- A state with a transaction in flight on controller 0. -/
def flying (x : Transaction) (s : State := State.reset) : State := s.updController 0 fun c => { c with inFlight := some x }

/-- What a command leaves. -/
def after (i : Instr) (s : State) : State :=
  match exec i s with
  | .next t => t
  | .fault _ | .refused _ => s

/-- A frame with the given first bytes, of `n` bytes in all. -/
def frameOf (front : List Byte) (n : Nat) : List Byte := front ++ List.replicate (n - front.length) 0

/-! ### Ill-formed commands -/

/-- A list one byte short. -/
theorem test_short_identity_list_refused : ¬ (Instr.identityReadList q0 (List.replicate 7 0)).WellFormed := by decide
theorem test_long_class_map_refused : ¬ (Instr.classMap q0 (List.replicate 9 0)).WellFormed := by decide
theorem test_short_dscp_map_refused : ¬ (Instr.dscpMap q0 (List.replicate 63 0)).WellFormed := by decide
theorem test_short_set_refused : ¬ (Instr.setWrite q0 0 (List.replicate 55 0)).WellFormed := by decide
theorem test_short_write_data_refused : ¬ (Instr.moduleWrite q0 0 0 0 1 [0]).WellFormed := by decide
theorem test_long_read_refused : ¬ (Instr.moduleBusTransactionEnd 0 (List.replicate 33 0)).WellFormed := by decide
theorem test_too_many_corrected_refused : ¬ (Instr.codewordDecoded 0 17 false).WellFormed := by decide

/-! ### Worked examples of the manual -/

/-- The worked identification of chapter 1. -/
theorem test_worked_identification :
    identityKeyOf [0x18, 0x00, 0x5B, 0x40] = 0x18005B40
    ∧ serialDigestOf [0x51, 0x58, 0x32, 0x31, 0x30, 0x37, 0x30, 0x33, 0x31, 0x38, 0x20, 0x20, 0x20, 0x20, 0x20, 0x20]
      = 0x4AC828C1 := by decide +kernel

/-- The table of the worked search of chapter 2, from the words of the worked checksum. -/
def workedTable : List ProfileEntry :=
  [entryOf 0x18000000 0x020400FF true, entryOf 0x18005B40 0x0007FF00 true, entryOf 0x21000000 0x010CFFFF true,
    entryOf 0xF0000000 0x001F0001 true]

/-- The fields of the worked entries. -/
theorem test_worked_entries :
    workedTable.map (fun e => (e.width, e.cageSet, e.setIndex))
      = [(16, 0x00FF, 4), (0, 0xFF00, 7), (8, 0xFFFF, 12), (0, 0x0001, 31)] := by decide +kernel

/-- The worked search of chapter 2, and R26 on a damaged entry 0. -/
theorem test_worked_search :
    searchFrom 9 0x18005B40 0 workedTable = .found 7 ∧ searchFrom 2 0x18005B40 0 workedTable = .found 4
    ∧ searchFrom 9 0x18010000 0 workedTable = .noCandidate ∧ searchFrom 3 0x21000080 0 workedTable = .found 12
    ∧ searchFrom 5 0xFFFFFFFF 0 workedTable = .noCandidate
    ∧ searchFrom 9 0x18005B40 0 (entryOf 0x18000000 0x020400FF false :: workedTable.drop 1) = .damaged 0 := by
  decide +kernel

/-- The worked checksum of chapter 2, and R35 on the empty table. -/
theorem test_worked_checksum :
    tableChecksum (workedTable.take 3) = 0xABE6A4C1 ∧ tableChecksum workedTable = 0xBBC7A4BF
    ∧ tableChecksum [] = 0xFFFFFFFF := by decide +kernel

/-- The set of the worked verdicts of chapter 6. -/
def verdictSet (degraded : Bool) : ParameterSet :=
  { factorySet with allowance := 300, degradedAllowance := 1000, degradedAdmission := degraded }

/-- The worked verdicts of chapter 6. -/
theorem test_worked_verdicts :
    verdictOf (verdictSet true) 4166000 1200 0 = (.pass, .none)
    ∧ verdictOf (verdictSet true) 4166000 1300 0 = (.marginal, .none)
    ∧ verdictOf (verdictSet true) 4166000 900 2 = (.fail, .uncorrectable)
    ∧ verdictOf (verdictSet true) 4166000 4200 0 = (.fail, .rate)
    ∧ verdictOf (verdictSet false) 4166000 1300 0 = (.fail, .marginalRefused) := by decide +kernel

/-- The pass run, fail run, marginal mark and clean run of windows 1 to 3 of the worked qualification. -/
theorem test_worked_runs :
    let runs := fun e : LinkEngine => (e.passRun, e.failRun, e.marginal, e.cleanRun)
    let one := (resetEngine .qualifying).countVerdict .pass
    let two := one.countVerdict .marginal
    runs one = (1, 0, false, 1) ∧ runs two = (2, 0, true, 0) ∧ runs (two.countVerdict .fail) = (0, 1, false, 0) := by
  decide +kernel

/-- The worked damping sequence of section 6.8. -/
theorem test_worked_damping :
    (List.range 11).foldl (fun ps _ => decayed 57344 (ps.headD 3000) :: ps) []
      = [688, 787, 900, 1029, 1176, 1344, 1537, 1757, 2009, 2296, 2625] := by decide +kernel

/-- The worked ramp of section 9.10: the first rates, and the last step full and degraded. -/
theorem test_worked_ramp :
    firstRateOf 25000 1000 false = 1000 ∧ firstRateOf 25000 1000 true = 500 ∧ rateCeilingOf 25000 true = 12500
    ∧ (({ stoppedMeter with mode := .metered, rate := 16000, rateCeiling := 25000 } : Meter).ramped 5)
      = { stoppedMeter with mode := .unmetered, rate := 25000, rateCeiling := 25000 }
    ∧ (({ stoppedMeter with mode := .metered, rate := 8000, rateCeiling := 12500, degraded := true } : Meter).ramped 5)
      = { stoppedMeter with mode := .metered, rate := 12500, rateCeiling := 12500, degraded := true }
    ∧ (({ stoppedMeter with mode := .metered, rate := 1000, rateCeiling := 25000 } : Meter).ramped 5)
      = { stoppedMeter with mode := .metered, rate := 2000, rateCeiling := 25000, rampTimer := some 5 } := by
  decide +kernel

/-- A parked frame of the worked sequences. -/
def parked (length blocks : Nat) (k : ClassId) : ParkedFrame := ⟨[], length, blocks, 0, k, 0⟩

/-- Link 20 as the worked parking sequence of section 8.5 has it after step 5. -/
def parkingState (class1 class3 : List ParkedFrame) (free : Nat) : State :=
  { State.reset.updLink 20 fun l =>
      { l with hold := { l.hold with service := .hold }, park := { l.park with fifos := ⟨[[], class1, [], class3], rfl⟩ } } with
    poolFree := free
    settings := { State.reset.settings with classLimit := 16, linkLimit := 24, criticalLevel := 12, resumeLevel := 4 } }

/-- The blocks of classes 1 and 3, pool free, and the discards CLASS-FULL, LINK-FULL and POOL-FULL. -/
def parkingShape (s : State) : List Nat × List Nat × Nat × List Nat :=
  let l := s.link 20
  ((l.park.fifos.get 1).map (·.blocks), (l.park.fifos.get 3).map (·.blocks), s.poolFree, l.counters.discards.items.take 3)

/-- Steps 6, 7 and 8 of the worked parking sequence. -/
theorem test_worked_parking :
    parkingShape ((parkingState [parked 1500 6 1, parked 1500 6 1, parked 1000 4 1] [parked 2000 8 3] 576).park 20 3 6
      (List.replicate 600 0)) = ([6, 6, 4], [3], 581, [0, 1, 0])
    ∧ parkingShape ((parkingState [parked 1500 6 1, parked 1500 6 1, parked 1000 4 1] [parked 600 3 3] 581).park 20 1 2
      (List.replicate 1500 0)) = ([6, 4, 6], [3], 581, [1, 0, 0])
    ∧ parkingShape ((parkingState [parked 1500 6 1, parked 1000 4 1, parked 1500 6 1] [parked 600 3 3] 1).park 20 3 7
      (List.replicate 1500 0)) = ([6, 4, 6], [], 4, [0, 1, 1]) := by decide +kernel

/-- The refresh interval of the worked pause of section 7.6: 83.88352 µs of an L2 link, in units of 0.32 ns. -/
theorem test_worked_pause_interval :
    (State.reset.updCage 3 fun m => { m with fabricLayout := .l2 }).refreshInterval 12 * 32 = 8388352 := by decide +kernel

/-- Link 0 in REPLAY as the worked bucket of section 9.11 has it at 0.3 µs. -/
def bucketState : State :=
  linkIn .up fun l => { l with
    hold := { l.hold with service := .replay }
    park := { l.park with fifos := ⟨[[], [], [], List.replicate 4 (parked 1500 6 3)], rfl⟩ }
    meter := ⟨.metered, 16384, 1384, 1000, 50000, false, none, 0⟩ }

/-- The first three token ticks of the worked bucket: tokens after, and frames left. -/
theorem test_worked_bucket :
    let shape := fun s : State => ((s.link 0).meter.tokens, ((s.link 0).park.fifos.get 3).length)
    let one := after (.tokenTick 0) bucketState
    let two := after (.tokenTick 0) (after (.moduleEgressTransitEnd 0) one)
    let three := after (.tokenTick 0) (after (.moduleEgressTransitEnd 0) two)
    shape one = (884, 3) ∧ shape two = (384, 2) ∧ shape three = (1384, 2) := by decide +kernel

/-- Controller 1 as the worked arbitration of chapter 1 begins: cage 6 last served, cages 4, 5, 6 and 7 waiting, a
pass-through in the slot. -/
def arbitrationState (served : Fin 4) (waiting : List CageId) (bypass : Nat) : State :=
  let read := fun c : CageId => (⟨.monitor .identification 0, c, .read, 0, 0, 1, []⟩ : BusRequest)
  (State.reset.forEach (fun c => State.updCage c fun m => { m with busRequests := [read c] }) waiting).updController 1
    fun k => { k with slot := some ⟨.passThrough, 4, .read, 0, 0, 1, []⟩, lastServed := served, bypass := bypass }

/-- Rows 1, 4 and 5 of the worked arbitration: the cage started, the last cage served, the bypass count. -/
theorem test_worked_arbitration :
    let shape := fun s : State =>
      let k := (s.chooseBus 1).controller 1
      (k.inFlight.map (·.request.cage), k.inFlight.map (·.request.requester), k.lastServed, k.bypass)
    shape (arbitrationState 2 [4, 5, 6, 7] 0) = (some 7, some (.monitor .identification 0), 3, 1)
    ∧ shape (arbitrationState 1 [6, 7] 3) = (some 6, some (.monitor .identification 0), 2, 4)
    ∧ shape (arbitrationState 2 [7] 4) = (some 4, some .passThrough, 2, 0) := by decide +kernel

/-- A record of section 4.7. -/
def record (key digest : BitVec 32) (home : CageId) (valid : Bool := true) : CageRecord :=
  ⟨key, digest, home, valid, .l2, identityLaneMap, Bank.fill 8 (Bank.fill 5 0), Bank.fill 4 0, Bank.fill 4 true⟩

/-- Step 2 of the worked sequence of section 4.7: A moves from position 9 to position 3, and B to the head of the cache. -/
theorem test_worked_vacated_position :
    let a := record 0x18005B40 0x4AC828C1 9
    let b := record 0x18000410 0x0E77A5D3 3
    let m := { resetMemory with positions := (resetMemory.positions.set 9 (some a)).set 3 (some b) }
    let t := m.lookup 3 (record 0x18005B40 0x4AC828C1 3 false)
    t.positions.get 9 = none ∧ t.positions.get 3 = some { a with home := 3 } ∧ t.cache = [b] ∧ t.held.get 3 = true := by
  decide +kernel

/-- The entries of the worked emission of section 11.5 before 100 µs, and the one sent first. -/
theorem test_worked_emission :
    ({ resetNotices with entries := [⟨.removed, 9, 0, 1⟩, ⟨.linkLost, 36, 1, 2⟩, ⟨.linkLost, 37, 1, 1⟩,
      ⟨.discard, 36, 0, 1⟩] } : NoticeUnit).choice = some ⟨.linkLost, 36, 1, 2⟩ := by decide +kernel

/-- Channels 0 and 1 of the worked chain of chapter 12. -/
def chainState (count : Nat) : State :=
  (State.reset.updChannel 0 fun c =>
    { c with armed := true, trigger := some ⟨.linkLost, some 37⟩, remaining := count }).updChannel 1 fun c =>
      { c with armed := true, trigger := some ⟨.linkLost, none⟩, mode := .series, remaining := 3 }

/-- Rows 1, 2 and 4 of the worked chain. -/
theorem test_worked_chain :
    let one := (chainState 2).offerEvent ⟨.linkLost, 37, 2⟩
    let two := one.offerEvent ⟨.linkLost, 37, 2⟩
    let four := two.offerEvent ⟨.linkLost, 37, 2⟩
    ((one.channel 0).remaining, (one.channel 0).slot.map (·.index)) = (1, some 1)
    ∧ ((two.channel 0).armed, (two.channel 0).slot.map (·.index), (two.channel 0).superseded) = (false, some 2, 1)
    ∧ two.notices.entries = [⟨.snapshotDone, 0, 0, 1⟩] ∧ (two.channel 1).seriesLink = none
    ∧ (four.channel 1).seriesLink = some 37 := by decide +kernel

/-- The worked queue of section 10.2: eight wait, and the ninth is answered BUSY. -/
theorem test_worked_queue :
    let s := busy (.moduleRead q0 4 0 0 1) true (List.replicate 7 (asked (.readStateDevice q0)))
    let eight := after (.readStateDevice q0) s
    let nine := after (.readStateDevice q0) eight
    eight.management.queue.length = 8 ∧ eight.service.sending = none
    ∧ nine.management.queue.length = 8 ∧ nine.service.sending.map (·.outcome) = some 2 := by decide +kernel

/-! ### Witnesses: the step, the requests and the configuration -/

/-- FrontCommandIsExecuted: a request is due, and none is. -/
theorem test_witness_front :
    (busy (.engage q0) false).requestDue = some (.engage q0) ∧ (busy (.engage q0) true).requestDue = none := by
  decide +kernel

/-- RequestsReadBackAsSent: a request of each body that a length bounds, and one without operands. -/
theorem test_witness_read_back :
    (Instr.dscpMap q0 (List.replicate 64 7)).WellFormed
    ∧ encodeRequest (.dscpMap q0 (List.replicate 64 7)) = some (asked (.dscpMap q0 (List.replicate 64 7)))
    ∧ (Instr.engage q0).WellFormed ∧ encodeRequest (.engage q0) = some (asked (.engage q0)) := by decide +kernel

/-- EngineServesRequestsInOrder: a busy engine with 7 and with 8 waiting, and an idle one; a request that is answered, one
that holds the engine, and a waiting request that passes the header check and one that does not. -/
theorem test_witness_engine :
    encodeRequest (.engage q0) = some (asked (.engage q0))
    ∧ (∀ n ∈ [7, 8], let s := busy (.tableEdit q0) true (List.replicate n (asked (.readDiscards q0)))
      s.management.executing = some ⟨asked (.tableEdit q0), true⟩ ∧ s.isExecuting (.engage q0) = false
      ∧ s.management.queue.length = n)
    ∧ (Instr.engage q0).WellFormed ∧ State.reset.engineIdle
    ∧ (after (.engage q0) State.reset).management.executing = none
    ∧ (Instr.moduleRead q0 0 0 0 1).WellFormed ∧ (cageIn .serving).engineIdle
    ∧ (after (.moduleRead q0 0 0 0 1) (cageIn .serving)).management.executing ≠ none
    ∧ (decodeRequest (asked (.readDiscards q0))).isOk = true ∧ (decodeRequest (askedBy q0 0xEE)).isOk = false := by
  decide +kernel

/-- R161: a request taken while others wait has its effect, and its answer lets the engine take the next. -/
theorem test_taken_while_others_wait :
    let next := asked (.readDiscards q0)
    let t := after (.engage q0) (State.reset.havingTaken (asked (.engage q0)) [next, next])
    t.engaged = true ∧ t.management.executing = some ⟨next, false⟩ ∧ t.management.queue = [next] := by decide +kernel

/-- SettleTouchesReportingAlone: a port with nothing to send; a link's mark clear and set; and a series on link 37 with a
count of 1 and of 2, which is not a series on link 36. -/
theorem test_witness_settle :
    let series := fun n : Nat => State.reset.updChannel 1 fun c =>
      { c with armed := true, trigger := some ⟨.linkLost, none⟩, mode := .series, remaining := n, seriesLink := some 37 }
    State.reset.settle.service.sending = none ∧ (State.reset.link 0).discardMark = false
    ∧ ((linkIn .up fun l => { l with discardMark := true }).link 0).discardMark = true
    ∧ (∀ n ∈ [1, 2], ((series n).channel 1).seriesLink = some 37 ∧ ((series n).channel 1).trigger = some ⟨.linkLost, none⟩
      ∧ ((series n).channel 1).armed = true ∧ ((series n).channel 1).remaining = n ∧ ((series n).channel 1).seriesLink ≠ some 36) := by decide +kernel

/-- PlainItemsAreTaken, CheckedItemsAreRefusedOrTaken, PageSelectAndCeilingReachFurther, TableEditsAreCheckedInOrder,
DeviceRestartKeepsConfiguration and every other statement about a request on an idle engine: the engine after reset, and
the numbers at the ends of their ranges. -/
theorem test_witness_idle_engine :
    State.reset.engineIdle ∧ (List.replicate 8 (0 : Byte)).length = 8 ∧ (List.replicate 64 (0 : Byte)).length = 64
    ∧ (15 : CageId).val = (15 : Byte).toNat ∧ 15 < (16 : Byte).toNat
    ∧ (63 : LinkId).val = (63 : Byte).toNat ∧ 63 < (64 : Byte).toNat ∧ (64 : Byte) ≠ 0xFF
    ∧ (31 : SetId).val = (31 : Byte).toNat ∧ 31 < (32 : Byte).toNat
    ∧ (3 : ClassId).val = (3 : Byte).toNat ∧ 3 < (4 : Byte).toNat
    ∧ (15 : CageId).val = (15 : BitVec 32).toNat ∧ 15 < (16 : BitVec 32).toNat
    ∧ (63 : LinkId).val = (63 : BitVec 32).toNat ∧ 63 < (64 : BitVec 32).toNat := by decide +kernel

/-- FabricLayoutMovesSlots: each refusal, each direction a slot can go, and a cage past its check. -/
theorem test_witness_fabric_layout :
    State.reset.engineIdle ∧ 15 < (16 : Byte).toNat ∧ layoutOfCode (3 : Byte).toNat = none
    ∧ (0 : CageId).val = (0 : Byte).toNat ∧ layoutOfCode (2 : Byte).toNat = some .l2
    ∧ (∀ m ∈ [CageMode.powering, .serving, .tripped, .forcedOff], ((cageIn m).cage 0).mode = m ∧ (cageIn m).engineIdle)
    ∧ ((cageIn .profiling).cage 0).mode = .profiling ∧ (cageIn .profiling).engineIdle
    ∧ cageOf 4 ≠ 0 ∧ Layout.l1.uses 0 = Layout.l2.uses 0 ∧ (Layout.l1.uses 1 = false ∧ Layout.l2.uses 1 = true)
    ∧ (Layout.l2.uses 1 = true ∧ Layout.l1.uses 1 = false) := by decide +kernel

/-- PauseItemsReleaseClasses: a class on and off, paused, with priorities that map to it, and a link in HOLD. -/
theorem test_witness_pause_items :
    let s := linkIn .down fun l => { l with hold := { l.hold with service := .hold, paused := Bank.fill 4 (some 9) } }
    let on := { s with settings := { s.settings with pauseOnHold := true } }
    s.engineIdle ∧ on.engineIdle ∧ on.settings.pauseOnHold = true ∧ ((on.link 0).hold.paused.get 3).isSome
    ∧ (((after (.pauseOnHold q0 0) on).link 0).hold.paused.get 3 = none) ∧ (State.reset.link 0).hold.paused.get 3 = none
    ∧ prioritiesOf { s.settings with classMap := Bank.fill 8 1 } 3 = 0
    ∧ (1 : Byte).getLsbD 0 = true ∧ (0 : Byte).getLsbD 0 = false
    ∧ ((s.link 0).hold.paused.get 3).isSome ∧ prioritiesOf s.settings 3 ≠ 0 ∧ (s.link 0).hold.service = .hold
    ∧ s.occupancy 0 3 ≤ s.settings.resumeLevel := by decide +kernel

/-- NoticeLevelSilencesKind: the kinds at the ends of the range and beyond it. -/
theorem test_witness_notice_level :
    State.reset.engineIdle ∧ eventKindOfCode (0 : Byte).toNat = none ∧ eventKindOfCode (24 : Byte).toNat = none
    ∧ EventKind.removed.code = (1 : Byte).toNat ∧ EventKind.snapshotDone.code = (23 : Byte).toNat
    ∧ EventKind.discard.code = (22 : Byte).toNat := by decide +kernel

/-- The parameter set record of section 10.7 on the factory set: its layout, power-up limit, burst size and age limit. -/
theorem test_set_record_fields :
    (factorySet.bytes.getD 0 9 = 1) ∧ slice factorySet.bytes 24 2 = [0x07, 0xD0]
    ∧ slice factorySet.bytes 50 6 = [0, 1, 0, 0, 0x01, 0xF4] ∧ numberOf (slice factorySet.bytes 24 2) = 2000 := by
  decide +kernel

/-- ReadsAnswerWithTheState: a lane map of 8 connections. -/
theorem test_witness_reads :
    let s := engineIn .down fun e => { e with laneMap := some (List.replicate 8 ⟨0, false, false⟩) }
    s.engineIdle ∧ ((s.link 0).engine.laneMap.getD []).length ≤ 8 := by decide +kernel

/-- ChecksumInvertsFoldedSum: the worked table's sum, which folds once; and two orders of one table. -/
theorem test_witness_checksum :
    Folds ((workedTable.map fun e =>
      e.key.toNat + (e.width * 2 ^ 21 + e.setIndex.val * 2 ^ 16 + e.cageSet.toNat) % 2 ^ 32).sum) 0x44385B40
    ∧ workedTable.Perm workedTable.reverse :=
  ⟨.round _ _ (by decide +kernel) (by
    have h : ∀ n, n = 0x44385B40 → Folds n 0x44385B40 := by
      intro n h
      subst h
      exact .done _ (by decide)
    exact h _ (by decide +kernel)), (List.reverse_perm _).symm⟩

/-- SearchesRunInTurn: entries passed, damaged, too high and a candidate; no search to start, and one for the cage right
after the last served and for the last served itself. -/
theorem test_witness_searches :
    let e := fun n => workedTable.getD n (entryOf 0 0 true)
    let waiting := fun c : CageId => { State.reset with
      search := { State.reset.search with waiting := (Bank.fill 16 false).set c true } }
    (∀ x ∈ [e 0], x.isPassed 9 0x18005B40) ∧ (e 1).intact = true ∧ (e 1).isCandidate 9 0x18005B40
    ∧ (entryOf 0 0 false).intact = false ∧ (e 2).intact = true ∧ (0x18005B40 : BitVec 32).toNat < (e 2).key.toNat
    ∧ (∀ c, State.reset.search.waiting.get c = false)
    ∧ (∀ n ∈ [0, 15], let c : CageId := indexOf 16 n
      (waiting c).search.inFlight = none ∧ (waiting c).search.editPending = false
      ∧ c.val = ((waiting c).search.lastServed.val + 1 + n) % 16 ∧ (waiting c).search.waiting.get c = true
      ∧ ∀ m < n, ∀ d : CageId, d.val = ((waiting c).search.lastServed.val + 1 + m) % 16 →
        (waiting c).search.waiting.get d = false) := by decide +kernel

/-- A search in flight for cage 0, in its first visit. -/
def searching (s : State) : State := { s with search := { s.search with inFlight := some ⟨0, 0, 5, 0, workedTable⟩ } }

/-- An engine that waits for the checksum of a table. -/
def committing (checksum : BitVec 32) (s : State) : State :=
  { s with
    table := ⟨workedTable, .edit, none⟩
    management := ⟨[], some ⟨asked (.tableCommit q0 checksum), true⟩, some workedTable⟩ }

/-- TableModesChange: both modes, with and without a search; both checksums, with and without a cage in PROFILE-WAIT. -/
theorem test_witness_table_modes :
    let edit := { State.reset with table := ⟨workedTable, .edit, none⟩ }
    let s := committing 0xBBC7A4BF (cageIn .profileWait)
    edit.engineIdle ∧ edit.table.mode = .edit ∧ State.reset.table.mode = .active ∧ State.reset.search.inFlight = none
    ∧ (searching State.reset).search.inFlight ≠ none ∧ (searching State.reset).table.mode = .active
    ∧ encodeRequest (.tableEdit q0) = some (asked (.tableEdit q0))
    ∧ s.management.executing = some ⟨asked (.tableCommit q0 0xBBC7A4BF), true⟩
    ∧ decodeRequest (asked (.tableCommit q0 0xBBC7A4BF)) = .ok (.tableCommit q0 0xBBC7A4BF)
    ∧ s.management.commitView = some workedTable ∧ tableChecksum workedTable = 0xBBC7A4BF
    ∧ tableChecksum workedTable ≠ 0xABE6A4C1 ∧ s.search.inFlight = none ∧ s.search.editPending = false
    ∧ (s.cage 0).mode = .profileWait ∧ (State.reset.cage 0).mode ≠ .profileWait := by decide +kernel

/-- SearchResultReachesItsCage: a cage that has left PROFILING, one whose layout is the set's and one whose is not. -/
theorem test_witness_search_result :
    let s := searching (cageIn .profiling)
    let other := searching (cageIn .profiling fun m => { m with fabricLayout := .l2 })
    s.search.inFlight = some ⟨0, 0, 5, 0, workedTable⟩ ∧ (s.cage 0).mode = .profiling ∧ (s.cage 0).visit = 0
    ∧ (s.sets.get 0).layout = (s.cage 0).fabricLayout ∧ (other.sets.get 0).layout ≠ (other.cage 0).fabricLayout
    ∧ ((searching State.reset).cage 0).mode ≠ .profiling := by decide +kernel

/-- SetWriteClampsThenChecks: a record of 56 bytes without a fault for set 31, which set 32 is. -/
theorem test_witness_set_write :
    State.reset.engineIdle ∧ factorySet.bytes.length = 56 ∧ (31 : SetId).val = (31 : Byte).toNat
    ∧ 31 < (32 : Byte).toNat ∧ (factorySet.bytes.getD 0 0).toNat = 1
    ∧ (List.range 8).all (fun n => ((factorySet.bytes.drop 4).take 8).count (BitVec.ofNat 8 n) = 1) = true
    ∧ (factorySet.bytes.getD 19 0).toNat + min 4 (factorySet.bytes.getD 3 0).toNat ≤ 256
    ∧ ¬ (factorySet.bytes.getD 42 0).toNat * 256 + (factorySet.bytes.getD 43 0).toNat
      < (factorySet.bytes.getD 40 0).toNat * 256 + (factorySet.bytes.getD 41 0).toNat
    ∧ (factorySet.bytes.getD 1 0).toNat ≤ 2 := by decide +kernel

/-! ### Witnesses: the module buses and the cages -/

/-- ControllerChoosesInTurn: a busy bus, an idle one, a pass-through alone and one bypassed four times, and the cage right
after the last served and the last served itself. -/
theorem test_witness_controller :
    let pass := readOf .passThrough
    let waiting := fun (p : Fin 4) (slot : Option BusRequest) (bypass : Nat) =>
      (State.reset.updCage (cageAt 0 p) fun m => { m with busRequests := [readOf (.monitor .readyPoll 0)] }).updController 0
        fun c => { c with slot := slot, bypass := bypass }
    let alone := State.reset.updController 0 fun c => { c with slot := some pass }
    ((flying (monitorRead .readyPoll)).controller 0).inFlight ≠ none
    ∧ (State.reset.controller 0).slot = none ∧ (∀ p : Fin 4, (State.reset.cage (cageAt 0 p)).busRequests = [])
    ∧ (alone.controller 0).slot = some pass ∧ (∀ p : Fin 4, (alone.cage (cageAt 0 p)).busRequests = [])
    ∧ (alone.controller 0).inFlight = none
    ∧ ((waiting 0 (some pass) 4).controller 0).slot = some pass ∧ 4 ≤ ((waiting 0 (some pass) 4).controller 0).bypass
    ∧ (∀ n ∈ [0, 3], let p : Fin 4 := indexOf 4 n
      let s := waiting p (if n = 0 then none else some pass) 3
      n < 4 ∧ p.val = ((s.controller 0).lastServed.val + 1 + n) % 4
      ∧ (s.cage (cageAt 0 p)).busRequests = [readOf (.monitor .readyPoll 0)] ∧ (s.controller 0).inFlight = none
      ∧ ((s.controller 0).slot = none ∨ (s.controller 0).bypass < 4)
      ∧ ∀ m < n, ∀ o : Fin 4, o.val = ((s.controller 0).lastServed.val + 1 + m) % 4 →
        (s.cage (cageAt 0 o)).busRequests = []) := by decide +kernel

/-- PassThroughEntersSlot: the longest READ and WRITE that end at offset 255, one byte more, and each refusing mode. -/
theorem test_witness_pass_through :
    State.reset.engineIdle ∧ (List.replicate 8 (1 : Byte)).length = 8
    ∧ (1 ≤ (32 : Byte).toNat ∧ (32 : Byte).toNat ≤ 32 ∧ (224 : Byte).toNat + (32 : Byte).toNat ≤ 256)
    ∧ (1 ≤ (8 : Byte).toNat ∧ (8 : Byte).toNat ≤ 8 ∧ (248 : Byte).toNat + (8 : Byte).toNat ≤ 256)
    ∧ ¬ (33 : Byte).toNat ≤ 32 ∧ ¬ (225 : Byte).toNat + (32 : Byte).toNat ≤ 256
    ∧ (∀ m ∈ [CageMode.absent, .seating, .waitEngage, .waking], ((cageIn m).cage 0).mode = m ∧ (cageIn m).engineIdle)
    ∧ encodeRequest (.moduleRead q0 0 0 224 32) = some (asked (.moduleRead q0 0 0 224 32))
    ∧ encodeRequest (.moduleWrite q0 0 0 248 8 (List.replicate 8 1))
      = some (asked (.moduleWrite q0 0 0 248 8 (List.replicate 8 1))) := by decide +kernel

/-- A cage that asks for flags. -/
def alertCage (mode : CageMode) (again enable : Bool) (flags : Nat := 2) : State :=
  cageIn mode fun m =>
    { m with
      alertEnable := enable, readAgain := again,
      workingCopy := some (0, { factorySet with flagLength := flags, tripMask := (Bank.fill 4 0).set 1 0x0C }) }

/-- FailedTransactionsEnd: the second and the third attempt, a pass-through, a void outcome, and each purpose, a flag read
with the read-again mark clear and set. -/
theorem test_witness_failed_transactions :
    ((flying (monitorRead .readyPoll 1 2)).controller 0).inFlight = some (monitorRead .readyPoll 1 2)
    ∧ (monitorRead .readyPoll 1 2).attempt < 3 ∧ 3 ≤ (monitorRead .readyPoll 1 3).attempt
    ∧ (readOf .passThrough).requester = .passThrough ∧ (monitorRead .readyPoll 1 3 true).discarded = true
    ∧ (State.reset.cage 0).awaits .identification = false ∧ controllerOf 0 = 0
    ∧ (let s := flying (monitorRead .identification 1 3) (cageIn .identifying)
      (s.controller 0).inFlight = some (monitorRead .identification 1 3) ∧ (s.cage 0).visit = 0
      ∧ (s.cage 0).mode = .identifying)
    ∧ (let s := flying (monitorRead .readyPoll 1 3) (cageIn .powering)
      (s.controller 0).inFlight = some (monitorRead .readyPoll 1 3) ∧ (s.cage 0).visit = 0 ∧ (s.cage 0).mode = .powering)
    ∧ (let s := flying (monitorRead .flagRead 2 3) (cageIn .serving)
      (s.controller 0).inFlight = some (monitorRead .flagRead 2 3) ∧ (s.cage 0).visit = 0 ∧ (s.cage 0).mode = .serving
      ∧ (s.cage 0).readAgain = false)
    ∧ (let s := flying (monitorRead .flagRead 2 3) (alertCage .serving true true)
      (s.controller 0).inFlight = some (monitorRead .flagRead 2 3) ∧ (s.cage 0).visit = 0 ∧ (s.cage 0).mode = .serving
      ∧ (s.cage 0).readAgain = true ∧ (s.cage 0).alertEnable = true) := by decide +kernel

/-- R10: a page select write that is acknowledged after a CAGE-RESTART stands in the record at DONE, and one acknowledged
before it does not. -/
theorem test_page_record_after_restart :
    (({ monitorRead .readyPoll with wiped := false } : Transaction).pageAfter .done = some 0)
    ∧ (({ monitorRead .readyPoll with wiped := true } : Transaction).pageAfter .done = none)
    ∧ ((((flying { monitorRead .readyPoll with wiped := true }).nextAttempt 0
        { monitorRead .readyPoll with wiped := true } true).controller 0).inFlight.map (·.wiped)) = some false := by
  decide +kernel

/-- DoneTransactionsEnd: no transaction, a READ with the wrong number of bytes, a pass-through READ, and a void outcome. -/
theorem test_witness_done_transactions :
    let pass : Transaction := ⟨readOf .passThrough 2, 1, 127, true, false, false, false⟩
    (State.reset.controller 0).inFlight = none ∧ ((flying pass).controller 0).inFlight = some pass
    ∧ pass.request.kind = .read ∧ ([0] : List Byte).length ≠ pass.request.length
    ∧ ([0, 0] : List Byte).length = pass.request.length ∧ pass.request.requester = .passThrough
    ∧ (monitorRead .readyPoll 1 1 true).request.requester = .monitor .readyPoll 0
    ∧ (monitorRead .readyPoll 1 1 true).discarded = true := by decide +kernel

/-- Cage 0 in POWERING with a record of its own, seeded for slot 0. -/
def warmCage : State :=
  { flying (monitorRead .readyPoll) (cageIn .powering fun m =>
      { m with identityKey := some 5, serialDigest := some 6, workingCopy := some (0, factorySet) }) with
    memory := { resetMemory with positions := resetMemory.positions.set 0 (some { record 5 6 0 with layout := .l1 }) } }

/-- ReadyPollServes: a poll that finds the module ready, with seeds, and one that does not. -/
theorem test_witness_ready_poll :
    (warmCage.controller 0).inFlight = some (monitorRead .readyPoll) ∧ (monitorRead .readyPoll).request.kind = .read
    ∧ ([0] : List Byte).length = (monitorRead .readyPoll).request.length ∧ (monitorRead .readyPoll).discarded = false
    ∧ (warmCage.cage 0).visit = 0 ∧ (warmCage.cage 0).mode = .powering
    ∧ ([0] : List Byte).headD 0 &&& (warmCage.workingSet 0).readyMask = (warmCage.workingSet 0).readyValue
    ∧ (warmCage.memory.positions.get 0).isSome = true ∧ cageOf 0 = 0 ∧ warmCage.isActive 0 = true
    ∧ warmCage.isActive 1 = false
    ∧ ((after (.moduleBusTransactionEnd 0 [0]) warmCage).link 0).engine.seeds.isSome = true
    ∧ (let s := { warmCage with cages := (cageIn .powering fun m =>
          { m with workingCopy := some (0, { factorySet with readyMask := 1 }) }).cages }
      (s.cage 0).mode = .powering
      ∧ ([1] : List Byte).headD 0 &&& (s.workingSet 0).readyMask ≠ (s.workingSet 0).readyValue) := by decide +kernel

/-- FlagReadTrips: the worked trip's flags, flags without a trip, and the read-again mark with the enable on. -/
theorem test_witness_flag_read :
    let s := flying (monitorRead .flagRead 2) (alertCage .serving true true)
    let calm := flying (monitorRead .flagRead 2) (alertCage .powering false true)
    (s.controller 0).inFlight = some (monitorRead .flagRead 2) ∧ (s.cage 0).visit = 0 ∧ (s.cage 0).mode = .serving
    ∧ ([0, 4] : List Byte).length = (monitorRead .flagRead 2).request.length
    ∧ (s.cage 0).alertEnable = true ∧ ([0, 4] : List Byte).getD 1 0 &&& (s.workingSet 0).tripMask.get 1 ≠ 0
    ∧ (∀ n : Fin 4, ([0, 0] : List Byte).getD n.val 0 &&& (s.workingSet 0).tripMask.get n = 0)
    ∧ (s.cage 0).readAgain = true
    ∧ (calm.controller 0).inFlight = some (monitorRead .flagRead 2) ∧ (calm.cage 0).mode = .powering
    ∧ (calm.cage 0).readAgain = false := by decide +kernel

/-- An engaged device. -/
def engagedDevice (s : State) : State := { s with engaged := true }

/-- PresenceDebouncesIntoInsertion: each mode, a seating timer that runs, and each way on from its expiry. -/
theorem test_witness_presence :
    let s := cageIn .seating fun m => { m with seatingTimer := some 7 }
    let quick := engagedDevice { s with settings := { s.settings with managementReadyTime := 0 } }
    (State.reset.cage 0).mode = .absent ∧ (s.cage 0).mode = .seating ∧ ((cageIn .waking).cage 0).mode = .waking
    ∧ (State.reset.cage 0).seatingTimer = none ∧ (s.cage 0).seatingTimer = some 7 ∧ s.engaged = false
    ∧ (engagedDevice s).engaged = true ∧ 0 < (engagedDevice s).settings.managementReadyTime
    ∧ ((engagedDevice s).cage 0).seatingTimer = some 7
    ∧ quick.engaged = true ∧ quick.settings.managementReadyTime = 0 ∧ (quick.cage 0).seatingTimer = some 7 := by
  decide +kernel

/-- IdentificationReadsFiveTimes: the ready timer, an item that is not the last, the last item, and the serial bytes with
the table in each mode. -/
theorem test_witness_identification :
    let s := fun (bytes : List Byte) (length : Nat) =>
      flying (monitorRead .identification length) (cageIn .identifying fun m => { m with identityBytes := bytes })
    let edit := { s [1, 2, 3, 4] 16 with table := ⟨workedTable, .edit, none⟩ }
    ((cageIn .waking fun m => { m with readyTimer := some 7 }).cage 0).readyTimer = some 7
    ∧ (∀ x ∈ [(([1, 2] : List Byte), 1), ([1, 2, 3], 1), ([1, 2, 3, 4], 16)],
      ((s x.1 x.2).controller 0).inFlight = some (monitorRead .identification x.2)
      ∧ ((s x.1 x.2).cage 0).visit = 0 ∧ ((s x.1 x.2).cage 0).mode = .identifying
      ∧ ((s x.1 x.2).cage 0).identityBytes = x.1
      ∧ (List.replicate x.2 (0 : Byte)).length = (monitorRead .identification x.2).request.length)
    ∧ ([1, 2, 3] : List Byte).length < 4 ∧ 4 ≤ ([1, 2, 3, 4] : List Byte).length
    ∧ (s [1, 2, 3, 4] 16).table.mode = .active ∧ edit.table.mode = .edit := by decide +kernel

/-- PoweringTimersExpire: each timer stopped and running. -/
theorem test_witness_powering_timers :
    let s := cageIn .powering fun m => { m with guardTimer := some 7, pollTimer := some 7, powerUpTimer := some 7 }
    (State.reset.cage 0).guardTimer = none ∧ (State.reset.cage 0).pollTimer = none
    ∧ (State.reset.cage 0).powerUpTimer = none ∧ (s.cage 0).guardTimer = some 7 ∧ (s.cage 0).pollTimer = some 7
    ∧ (s.cage 0).powerUpTimer = some 7 := by decide +kernel

/-- Cage 0 in SERVING with link 0 admitted. -/
def servingCage : State := linkIn .up (s := cageIn .serving)

/-- RemovalLeavesCageAbsent, GateRequestsCloseAndReopen and CageRestartSeatsAgain: every mode they distinguish, a link that
departs and one that does not. -/
theorem test_witness_removal :
    (∀ m ∈ [CageMode.absent, .seating, .serving, .powering, .tripped, .forcedOff, .failed],
      ((cageIn m).cage 0).mode = m ∧ (cageIn m).engineIdle)
    ∧ servingCage.departs 0 0 ∧ ¬ servingCage.departs 0 1 ∧ (servingCage.cage 0).mode = .serving
    ∧ ((flying (monitorRead .flagRead) servingCage).controller (controllerOf 0)).inFlight = some (monitorRead .flagRead)
    ∧ (monitorRead .flagRead).request.cage = 0
    ∧ (let pass : Transaction := ⟨readOf .passThrough, 1, 127, true, false, false, false⟩
      let asking := busy (.moduleRead q0 0 0 0 1) true
      let slotted := asking.updController 0 fun k => { k with slot := some (readOf .passThrough) }
      ((flying pass asking).controller (controllerOf 0)).inFlight = some pass ∧ pass.request.requester = .passThrough
      ∧ (slotted.controller (controllerOf 0)).slot = some (readOf .passThrough)
      ∧ (slotted.controller (controllerOf 0)).inFlight = none
      ∧ asking.management.executing = some ⟨asked (.moduleRead q0 0 0 0 1), true⟩
      ∧ (asked (.moduleRead q0 0 0 0 1)).port = .service) := by decide +kernel

/-- R54, R107: a gate forced off from POWERING raises nothing, and from SERVING what its link's loss raises, SUPPRESSED
where its penalty reaches the threshold of 3,000 (the loss increment is 1,000 and GATE is code 4). -/
theorem test_forced_off_raises_losses_alone :
    let raised := fun s : State => (s.closeGate 0 .forcedOff none).raised
    raised (cageIn .powering) = [] ∧ raised servingCage = [.event ⟨.linkLost, 0, 4⟩]
    ∧ raised (linkIn .up (fun l => { l with penalty := 2000 }) (cageIn .serving))
      = [.event ⟨.suppressed, 0, 0⟩, .event ⟨.linkLost, 0, 4⟩] := by decide +kernel

/-- R40: CAGE-RESTART in SEATING sets the guard origin. -/
theorem test_restart_in_seating_sets_origin :
    ((({ cageIn .seating with now := 9 } : State).restartCage 0).cage 0).guardOrigin = 9 := by decide +kernel

/-- R10, R56: CAGE-RESTART makes the page record unknown where the reset line was released, and keeps it in WAIT-ENGAGE. -/
theorem test_restart_forgets_page_at_reset :
    let s := fun (m : CageMode) (line : Bool) =>
      cageIn m fun c => { c with resetLine := line, lastPage := some 3 }
    (((s .serving false).restartCage 0).cage 0).lastPage = none
    ∧ (((s .waitEngage true).restartCage 0).cage 0).lastPage = some 3 := by decide +kernel

/-- CageRestartSeatsAgain: a class with frames and one without, on a link in REPLAY; a reset line released and asserted; and
a link that the loss path sheds, its hold-off 0, beside one that it does not. -/
theorem test_witness_restart :
    let s := bucketState.updCage 0 fun m => { m with mode := .serving }
    let short := s.updCage 0 fun m => { m with workingCopy := some (0, { factorySet with holdOff := 0 }) }
    short.departs 0 0 ∧ short.shedsAtLoss 0 ∧ ¬ s.shedsAtLoss 0 ∧ ((short.link 0).park.isEmpty = false)
    ∧ (s.cage 0).resetLine = true
    ∧ ((s.updCage 0 fun m => { m with resetLine := false }).cage 0).resetLine = false ∧
    (s.link 0).hold.service = .replay ∧ (s.link 0).park.fifos.get 3 ≠ [] ∧ (s.link 0).park.fifos.get 0 = []
    ∧ s.departs 0 0 ∧ s.engineIdle ∧ s.settings.pauseOnHold = false := by decide +kernel

/-- AlertsAskForFlags: an alert that stands, one that does not count, one that trips, one that finds a flag read asked for
and one that asks for it. -/
theorem test_witness_alerts :
    let asking := (alertCage .serving false true).updCage 0 fun m => { m with flagRequested := true }
    ((cageIn .serving fun m => { m with alert := true }).cage 0).alert = true
    ∧ (State.reset.cage 0).alert = false ∧ (State.reset.cage 0).alertEnable = false
    ∧ ((alertCage .serving false true 0).workingSet 0).flagLength = 0
    ∧ ((alertCage .serving false true 0).cage 0).alertEnable = true
    ∧ (asking.workingSet 0).flagLength ≠ 0 ∧ (asking.cage 0).flagRequested = true ∧ (asking.cage 0).alertEnable = true
    ∧ ((alertCage .powering false true).workingSet 0).flagLength ≠ 0
    ∧ ((alertCage .powering false true).cage 0).flagRequested = false := by decide +kernel

/-- EngageOpensService and DisengageClosesService: each state of engagement, an active link in OFF, a cage in WAIT-ENGAGE
with each ready time, and cages on both sides of SEATING. -/
theorem test_witness_engage :
    let s := cageIn .waitEngage
    let quick := { s with settings := { s.settings with managementReadyTime := 0 } }
    s.engineIdle ∧ s.engaged = false ∧ (engagedDevice s).engaged = true ∧ (engagedDevice s).engineIdle
    ∧ s.isActive 0 = true ∧ (s.link 0).hold.service = .off ∧ (s.cage 0).mode = .waitEngage
    ∧ (s.cage 1).mode ≠ .waitEngage ∧ 0 < s.settings.managementReadyTime ∧ quick.settings.managementReadyTime = 0
    ∧ ((engagedDevice servingCage).cage 0).mode = .serving ∧ (engagedDevice servingCage).departs 0 0
    ∧ ((engagedDevice servingCage).cage 1).mode = .absent
    ∧ ((flying (monitorRead .flagRead) (engagedDevice servingCage)).controller 0).inFlight = some (monitorRead .flagRead)
    ∧ controllerOf (monitorRead .flagRead).request.cage = 0 := by decide +kernel

/-- DeviceRestartKeepsConfiguration: a request on the service port that is free and that sends, and one on a link in service
with a class paused. -/
theorem test_witness_device_restart :
    let onLink : Requester := ⟨.fabric 0, 5, 9⟩
    let s := linkIn .up fun l => { l with hold := { l.hold with service := .pass, paused := Bank.fill 4 (some 9) } }
    q0.port = .service ∧ State.reset.service.sending = none ∧ onLink.port = .fabric 0 ∧ s.engineIdle
    ∧ (s.link 0).hold.service.lanesUp = true ∧ ((s.link 0).hold.paused.get 3).isSome
    ∧ prioritiesOf s.settings 3 ≠ 0 ∧ (linkIn .up).isActive 0 = true ∧ (linkIn .up).isActive 1 = false := by
  decide +kernel

/-! ### Witnesses: the link engines -/

/-- Link 0 in ADAPTING with the lanes below a number converged. -/
def adapting (n : Nat) : State := engineIn .adapting fun e => { e with converged := Bank.tabulate fun m => m.val < n }

/-- R81: a report of the attempt before is ignored. -/
theorem test_late_report_ignored :
    (((adapting 0).updEngine 0 fun e => { e with epoch := 2 }).converge 0 ⟨0, 1⟩).link 0
      = ((adapting 0).updEngine 0 fun e => { e with epoch := 2 }).link 0
    ∧ ((((adapting 0).updEngine 0 fun e => { e with epoch := 2 }).converge 0 ⟨0, 2⟩).link 0).engine.converged.get 0 = true := by
  decide +kernel

/-- AdaptingAndDecodingEvents: a lane that is not the last, the last lane, and a report that does not count; each timer
stopped and running. -/
theorem test_witness_adapting :
    let timed := engineIn .qualifying fun e =>
      { e with adaptationTimer := some 7, alignmentTimer := some 7, windowTimer := some 7, probeTimer := some 7 }
    ((adapting 6).link 0).engine.epoch = 0 ∧ ((adapting 6).link 0).engine.epoch ≠ 1
    ∧ ((adapting 6).link 0).engine.recovery = .adapting ∧ (6 : LaneId) ∈ (adapting 6).moduleLanes 0
    ∧ (∃ m ∈ (adapting 6).moduleLanes 0, (((adapting 6).link 0).engine.converged.set 6 true).get m = false)
    ∧ ((adapting 7).link 0).engine.recovery = .adapting ∧ (7 : LaneId) ∈ (adapting 7).moduleLanes 0
    ∧ (∀ m ∈ (adapting 7).moduleLanes 0, (((adapting 7).link 0).engine.converged.set 7 true).get m = true)
    ∧ (State.reset.link 0).engine.recovery ≠ .adapting ∧ (State.reset.link 0).engine.adaptationTimer = none
    ∧ (State.reset.link 0).engine.alignmentTimer = none ∧ (State.reset.link 0).engine.windowTimer = none
    ∧ (State.reset.link 0).engine.probeTimer = none ∧ (timed.link 0).engine.adaptationTimer = some 7
    ∧ (timed.link 0).engine.alignmentTimer = some 7 ∧ (timed.link 0).engine.windowTimer ≠ none
    ∧ (timed.link 0).engine.probeTimer = some 7 := by decide +kernel

/-- Link 0 in ALIGNING with the lanes below a number locked at offset 0, and perhaps a seed of skew 10. -/
def aligning (n : Nat) (warm : Bool) : State :=
  engineIn .aligning fun e =>
    { e with
      markerLock := Bank.tabulate fun m => m.val < n, hadMarker := Bank.tabulate fun m => m.val < n
      lockLossTimer := some 9, warm := warm, seeds := if warm then some ⟨[], 10⟩ else none }

/-- MarkerLockMeasuresSkew: offsets and their bounds; a lane that is not the last, where lock is not whole and where it is;
and the last lane with a skew at and beyond the limit of 32, and 4 and 5 from the remembered skew. -/
theorem test_witness_marker_lock :
    (9 ∈ [3, 9, 5] ∧ 3 ∈ [3, 9, 5] ∧ ∀ x ∈ [3, 9, 5], 3 ≤ x ∧ x ≤ 9)
    ∧ (∀ n ∈ [6, 7], ∀ w : Bool, let s := aligning n w
      let e := (s.link 0).engine
      let lane : LaneId := indexOf 8 n
      let locked := e.markerLock.set lane true
      e.recovery.watchesLock = true ∧ lane ∈ s.moduleLanes 0 ∧ e.markerLock.get lane = false
      ∧ (∀ m, (e.hadMarker.set lane true).get m = true → locked.get m = true) ∧ e.fecReached = false
      ∧ e.recovery = .aligning ∧ e.skewAccepted = false ∧ ((∀ m ∈ s.moduleLanes 0, locked.get m = true) ↔ n = 7)
      ∧ e.warm = w)
    ∧ (∀ x ∈ [32, 33, 14, 15], let s := aligning 7 true
      skewOf ((s.moduleLanes 0).map ((s.link 0).engine.markerOffset.set 7 x).get) = x)
    ∧ ((aligning 7 true).linkSet 0).maxSkew = 32
    ∧ (((aligning 7 true).link 0).engine.seeds.map SeedsInUse.skew).getD 0 = 10
    ∧ (let e := ((engineIn .up fun e =>
          { e with hadMarker := Bank.fill 8 true, fecReached := true, lockLossTimer := some 9 }).link 0).engine
      e.recovery.watchesLock = true ∧ e.markerLock.get 0 = false
      ∧ ¬ ((∀ m, (e.hadMarker.set 0 true).get m = true → (e.markerLock.set 0 true).get m = true)
        ∧ (e.fecReached = true → e.fecLock = true)))
    ∧ (State.reset.link 0).engine.recovery.watchesLock = false := by decide +kernel

/-- FecLockStartsQualification: a lane without lock, a skew not yet accepted and accepted, lock regained whole and not
whole, and a state that does not watch it. -/
theorem test_witness_fec_lock :
    let ready := fun (r : RecoveryState) (accepted : Bool) (lanes : Nat) => engineIn r fun e =>
      { e with
        markerLock := Bank.tabulate fun m => m.val < lanes, hadMarker := Bank.fill 8 true, fecReached := true
        skewAccepted := accepted }
    (∃ n ∈ (ready .aligning true 7).moduleLanes 0, ((ready .aligning true 7).link 0).engine.markerLock.get n = false)
    ∧ (∀ r ∈ [RecoveryState.aligning, .qualifying, .down], ∀ a : Bool, let s := ready r a 8
      (∀ n ∈ s.moduleLanes 0, (s.link 0).engine.markerLock.get n = true) ∧ (s.link 0).engine.recovery = r
      ∧ (s.link 0).engine.skewAccepted = a ∧ (s.link 0).engine.fecReached = true
      ∧ ∀ m, (s.link 0).engine.hadMarker.get m = true → (s.link 0).engine.markerLock.get m = true)
    ∧ RecoveryState.qualifying.watchesLock = true ∧ RecoveryState.down.watchesLock = false
    ∧ (let s := (ready .up true 8).updCage 0 fun m => { m with fabricLayout := .l2 }
      let t := s.updEngine 0 fun e => { e with markerLock := Bank.tabulate fun m => m.val < 4 }
      (∀ n ∈ t.moduleLanes 0, (t.link 0).engine.markerLock.get n = true) ∧ (t.link 0).engine.recovery = .up
      ∧ (t.link 0).engine.hadMarker.get 7 = true ∧ (t.link 0).engine.markerLock.get 7 = false) := by decide +kernel

/-- LossOfLockIsConfirmed: a loss of what is held and of what is not, with the timer running, stopped, and a confirm time
of 0. -/
theorem test_witness_loss_of_lock :
    let locked := fun t : Timer => engineIn .up fun e =>
      { e with markerLock := Bank.fill 8 true, fecLock := true, lockLossTimer := t }
    let instant := { locked none with settings := { State.reset.settings with lockLossConfirmTime := 0 } }
    ((locked none).link 0).engine.recovery.watchesLock = true ∧ ((locked none).link 0).engine.markerLock.get 7 = true
    ∧ ((locked none).link 0).engine.fecLock = true ∧ ((locked none).link 0).engine.lockLossTimer = none
    ∧ 0 < (locked none).settings.lockLossConfirmTime ∧ ((locked (some 7)).link 0).engine.lockLossTimer = some 7
    ∧ instant.settings.lockLossConfirmTime = 0 ∧ (instant.link 0).engine.lockLossTimer = none
    ∧ (State.reset.link 0).engine.fecLock = false ∧ (State.reset.link 0).engine.recovery.watchesLock = false := by
  decide +kernel

/-- VerdictIsFirstCondition: the worked verdicts' set at and just above each allowance. -/
theorem test_witness_verdict :
    let p := verdictSet true
    let c := 4166000
    (0 < c ∧ 0 < 1) ∧ p.degradedAllowance * c < 4167 * 1000000 ∧ 4166 * 1000000 ≤ p.degradedAllowance * c
    ∧ p.allowance * c < 1250 * 1000000 ∧ 1249 * 1000000 ≤ p.allowance * c
    ∧ 1250 * 1000000 ≤ p.degradedAllowance * c := by decide +kernel

/-- Link 0 with a window about to end. -/
def windowAt (recovery : RecoveryState) (codewords uncorrectable pass fail clean : Nat) (degraded : Bool := false) : State :=
  engineIn recovery fun e =>
    { e with
      windowTimer := some 7, codewords := codewords, uncorrectable := uncorrectable, passRun := pass, failRun := fail,
      cleanRun := clean, degraded := degraded }

/-- WindowEndAppliesVerdict: no window; a fail run at its limit of 2 before UP and in UP; a pass run at its length of 3; a
clean run at its length that clears the flag; and a first pass. -/
theorem test_witness_window_end :
    let verdict := fun s : State =>
      (verdictOf (s.linkSet 0) (s.link 0).engine.codewords (s.link 0).engine.corrected (s.link 0).engine.uncorrectable).1
    let p := State.reset.linkSet 0
    (State.reset.link 0).engine.windowTimer = none ∧ p.failRunLimit = 2 ∧ p.passRunNeeded = 3
    ∧ (∀ r ∈ [RecoveryState.qualifying, .peerHold, .damped, .up], let s := windowAt r 5 1 0 1 0
      (s.link 0).engine.windowTimer = some 7 ∧ (s.link 0).engine.recovery = r ∧ verdict s = .fail
      ∧ p.failRunLimit ≤ min 15 ((s.link 0).engine.failRun + 1))
    ∧ (let s := windowAt .qualifying 5 0 2 0 2
      (s.link 0).engine.windowTimer = some 7 ∧ verdict s ≠ .fail
      ∧ p.passRunNeeded ≤ min 255 ((s.link 0).engine.passRun + 1))
    ∧ (let s := windowAt .up 5 0 4 0 2 true
      (s.link 0).engine.windowTimer = some 7 ∧ verdict s = .pass ∧ (s.link 0).engine.degraded = true
      ∧ p.passRunNeeded ≤ min 255 ((s.link 0).engine.cleanRun + 1))
    ∧ (let s := windowAt .qualifying 5 0 0 0 0
      (s.link 0).engine.windowTimer = some 7 ∧ verdict s = .pass
      ∧ ¬ p.passRunNeeded ≤ min 255 ((s.link 0).engine.passRun + 1)) := by decide +kernel

/-- Link 0 at completed qualification under a peer mode, with a heard and a stored peer. -/
def peered (mode : PeerMode) (heard stored : Option PeerIdentity) (suppressed : Bool) : State :=
  let s := linkIn .qualifying (fun l =>
    { l with
      suppressed := suppressed
      engine := { l.engine with heardPeer := heard.map fun x => ⟨x, 1⟩ } })
    (cageIn .serving fun m => { m with workingCopy := some (0, { factorySet with peerMode := mode }) })
  { s with memory := { s.memory with peers := s.memory.peers.set 0 stored } }

/-- PeerCheckDecides: a silent and a changed peer under ENFORCE, a changed one under LEARN suppressed and not, and a marginal
mark. -/
theorem test_witness_peer_check :
    let shape := fun s : State =>
      ((s.linkSet 0).peerMode, (s.link 0).engine.heardPeer.map HeardPeer.identity, s.memory.peers.get 0)
    let a : PeerIdentity := ⟨5, 1, 0⟩
    let b : PeerIdentity := ⟨5, 1, 1⟩
    shape (peered .enforce none (some a) false) = (.enforce, none, some a)
    ∧ shape (peered .enforce (some b) (some a) false) = (.enforce, some b, some a)
    ∧ shape (peered .enforce (some b) none false) = (.enforce, some b, none)
    ∧ shape (peered .learn (some b) (some a) true) = (.learn, some b, some a) ∧ some a ≠ some b
    ∧ ((peered .learn (some b) (some a) true).link 0).suppressed = true
    ∧ ((peered .learn (some b) (some a) false).link 0).suppressed = false := by decide +kernel

/-- DampingTickDecaysAndReuses: the worked damping's tick 11 from DAMPED, and a link that is not suppressed. -/
theorem test_witness_damping_tick :
    let s := linkIn .damped fun l => { l with suppressed := true, penalty := 787 }
    (s.link 0).suppressed = true
    ∧ (s.link 0).penalty * s.settings.decayFactor / 65536 < s.settings.reuseThreshold
    ∧ (s.link 0).engine.recovery = .damped ∧ (State.reset.link 0).suppressed = false
    ∧ ((after .decayTickExpiry s).link 0).engine.recovery = .up
    ∧ ((after .decayTickExpiry s).link 0).penalty = 688 := by decide +kernel

/-- AdmissionRequests: each recovery state that the requests distinguish, suppressed and not. -/
theorem test_witness_admission :
    (∀ r ∈ [RecoveryState.qualifying, .peerHold, .damped, .failed, .up], let s := linkIn r
      s.engineIdle ∧ (s.link 0).engine.recovery = r ∧ (s.link 0).suppressed = false)
    ∧ ((linkIn .peerHold fun l => { l with suppressed := true }).link 0).suppressed = true
    ∧ (0 : LinkId).val = (0 : Byte).toNat := by decide +kernel

/-- LostTo, AttemptBegun, AttemptEnded, Admitted and PoweringEntered distinguish these: a warm attempt, a cold one with and
without retries left; admission to PASS and to REPLAY, with a record and without; a guard that runs and one that has ended,
and an alert that trips. -/
theorem test_witness_vocabulary :
    let passing := linkIn .qualifying (s := cageIn .serving fun m =>
      { m with workingCopy := some (0, { factorySet with initialRate := 50000 }) })
    ((aligning 0 true).link 0).engine.warm = true
    ∧ ((aligning 0 false).link 0).engine.retryCount < ((aligning 0 false).linkSet 0).retries
    ∧ ((engineIn .aligning fun e => { e with retryCount := 3 }).linkSet 0).retries
      ≤ ((engineIn .aligning fun e => { e with retryCount := 3 }).link 0).engine.retryCount
    ∧ (passing.linkLayout 0).lanesPerLink * 6250 ≤ (passing.linkSet 0).initialRate
    ∧ (passing.link 0).park.isEmpty = true ∧ (servingCage.linkSet 0).initialRate < (servingCage.linkLayout 0).lanesPerLink * 6250
    ∧ (let lost := fun (v : ServiceState) => (linkIn .up (fun l =>
          { l with hold := { l.hold with service := v, paused := Bank.fill 4 (some 9) } }) servingCage)
      let noHold := (lost .pass).updCage 0 fun m => { m with workingCopy := some (0, { factorySet with holdOff := 0 }) }
      let pausing := { servingCage.updHold 0 fun h => { h with service := .pass } with
        settings := { servingCage.settings with pauseOnHold := true, pausable := Bank.fill 4 true } }
      noHold.shedsAtLoss 0 ∧ noHold.pausedAfterLoss 0 3 = none ∧ ¬ (lost .pass).shedsAtLoss 0
      ∧ (lost .pass).pausedAfterLoss 0 3 = some 9 ∧ (lost .hold).pausedAfterLoss 0 3 = some 9
      ∧ (pausing.link 0).hold.paused.get 3 = none ∧ (pausing.pausedAfterLoss 0 3).isSome
      ∧ ((lost .hold).link 0).hold.service = .hold ∧ (lost .hold).occupancy 0 3 ≤ (lost .hold).settings.resumeLevel
      ∧ ((lost .hold).link 0).hold.paused.get 3 ≠ none ∧ prioritiesOf (lost .hold).settings 3 ≠ 0)
    ∧ servingCage.ownRecord 0 = none ∧ (warmCage.ownRecord 0).isSome = true
    ∧ State.reset.tripsOnEntry 0 = false
    ∧ State.reset.now < (State.reset.cage 0).guardOrigin + (State.reset.workingSet 0).guardInterval * 3125000
    ∧ (let late := { State.reset with now := 20 * 3125000 }
      (late.cage 0).guardOrigin + (late.workingSet 0).guardInterval * 3125000 ≤ late.now)
    ∧ ((alertCage .profiling false true 0).updCage 0 fun m => { m with alert := true }).tripsOnEntry 0 = true := by
  decide +kernel

/-! ### Witnesses: holds, frames, the meter and the reports -/

/-- Link 0 in a service state with a hold timer. -/
def holding (service : ServiceState) (timer : Timer := some 7) : State :=
  linkIn .up fun l => { l with hold := { l.hold with service := service, holdTimer := timer } }

/-- HoldsEndExtendAndFlush: each timer stopped and running; an extension in, below and beyond its range and one beyond the
longest hold, in each service state; each meter mode. -/
theorem test_witness_holds :
    let paused := linkIn .down fun l => { l with hold := { l.hold with paused := Bank.fill 4 (some 7) } }
    (State.reset.link 0).hold.holdTimer = none ∧ ((holding .hold).link 0).hold.holdTimer = some 7
    ∧ (State.reset.link 0).hold.paused.get 0 = none ∧ (paused.link 0).hold.paused.get 0 = some 7
    ∧ prioritiesOf paused.settings 0 ≠ 0
    ∧ prioritiesOf { paused.settings with classMap := Bank.fill 8 1 } 0 = 0
    ∧ (holding .hold).engineIdle ∧ ((holding .hold).link 0).hold.service = .hold
    ∧ ((holding .shed none).link 0).hold.service = .shed ∧ ((holding .pass none).link 0).hold.service = .pass
    ∧ ((0 : BitVec 16).toNat < 1 ∧ 2000 < (2001 : BitVec 16).toNat ∧ ¬ 2000 < (2000 : BitVec 16).toNat)
    ∧ (bucketState.link 0).meter.mode ≠ .unmetered ∧ bucketState.engineIdle
    ∧ bucketState.levelReleases 0 ∧ (bucketState.link 0).park.fifos.get 3 ≠ [] ∧ ¬ (holding .shed).levelReleases 0
    ∧ (let s := bucketState.updMeter 0 fun m => { m with mode := .unmetered }
      (s.link 0).meter.mode = .unmetered ∧ s.engineIdle) := by decide +kernel

/-- A REQUEST frame to the management address: SNAP-DISARM with the given body length. -/
def requestFrame (length : Byte) : List Byte :=
  frameOf (bytes48 State.reset.settings.managementAddress ++ bytes48 q0.source ++ [0xA1, 0x7E]
    ++ [1, 1, 0, 7, 0x62, 0, 0, length, 0]) 64

/-- ManagementFramesReachEngine: a frame of another address, one that is no REQUEST, a good REQUEST and one whose body is
short, at an idle engine and at busy ones; the shortest frame. -/
theorem test_witness_management_frames :
    let s := State.reset
    let notice := frameOf ((requestFrame 1).take 14 ++ [1, 3]) 64
    (requestFrame 1).length = 64 ∧ destinationOf (requestFrame 1) = s.settings.managementAddress
    ∧ typeOf (requestFrame 1) = s.settings.managementType ∧ kindOf (requestFrame 1) = 1
    ∧ destinationOf (frameOf [2] 64) ≠ s.settings.managementAddress
    ∧ destinationOf notice = s.settings.managementAddress ∧ kindOf notice ≠ 1
    ∧ decodeRequest (requestIn .service (requestFrame 1)) = .ok (.snapDisarm q0 0)
    ∧ decodeRequest (requestIn .service (requestFrame 0)) = .error .badRequest ∧ s.engineIdle
    ∧ ((holding .pass none).link 0).engine.recovery ≠ .inactive ∧ ((holding .pass none).link 0).hold.service.lanesUp = true
    ∧ (∀ n ∈ [7, 8], let t := busy (.tableEdit q0) true (List.replicate n (asked (.readDiscards q0)))
      t.management.executing = some ⟨asked (.tableEdit q0), true⟩ ∧ t.management.queue.length = n) := by decide +kernel

/-- A replay whose class 0 holds one frame and all the class may hold, behind class 3. -/
def emptying : State :=
  { bucketState.updLink 0 fun l =>
      { l with park := { l.park with fifos := l.park.fifos.set 0 [parked 64 1 0] } } with
    settings := { bucketState.settings with classLimit := 1 } }

/-- SwitchFramesFollowService: frames of 63 and 64 bytes, an INACTIVE slot, the management address with the lanes down, and
each service state, with the egress free and busy. -/
theorem test_witness_switch_frames :
    (frameOf [2] 63).length < 64 ∧ 64 ≤ (frameOf [2] 64).length ∧ (State.reset.link 1).engine.recovery = .inactive
    ∧ (State.reset.link 0).engine.recovery ≠ .inactive
    ∧ destinationOf (requestFrame 1) = State.reset.settings.managementAddress
    ∧ ((holding .shed).link 0).hold.service.lanesUp = false
    ∧ destinationOf (frameOf [2] 64) ≠ State.reset.settings.managementAddress
    ∧ ((holding .shed).link 0).hold.service = .shed ∧ (State.reset.link 0).hold.service = .off
    ∧ ((holding .pass).link 0).hold.service = .pass ∧ ((holding .pass).link 0).moduleSide = ⟨none, []⟩
    ∧ (((holding .pass).updLink 0 fun l => { l with moduleSide := ⟨some [1], []⟩ }).link 0).moduleSide.transit = some [1]
    ∧ ((holding .hold).link 0).hold.service = .hold ∧ ((holding .hold).link 0).meter.mode = .stopped
    ∧ (bucketState.link 0).hold.service = .replay
    ∧ (let high := frameOf (List.replicate 12 0 ++ [0x81, 0x00, 0xE0]) 64
      let low := frameOf (List.replicate 12 0 ++ [0x81, 0x00, 0x00]) 64
      let tight := { bucketState with settings := { bucketState.settings with classLimit := 24 } }
      let barred := { bucketState with settings := { bucketState.settings with classLimit := 0 } }
      let ended := barred.updLink 0 fun l =>
        { l with park := { l.park with fifos := Bank.fill 4 [] }, meter := { l.meter with mode := .unmetered } }
      bucketState.settings.classMap.get (priorityOf bucketState.settings high) = 3
      ∧ ((tight.park 0 3 7 high).link 0).park.fifos.get 3 ≠ []
      ∧ (((tight.park 0 3 7 high).link 0).park.fifos.get 3).length ≤ 4
      ∧ (tight.link 0).park.fifos.get 3 ≠ [] ∧ (high.length + 255) / 256 ≤ tight.settings.classLimit
      ∧ bucketState.settings.classMap.get (priorityOf bucketState.settings low) = 0
      ∧ (bucketState.link 0).park.fifos.get 0 = [] ∧ ((bucketState.park 0 0 0 low).link 0).park.fifos.get 0 ≠ []
      ∧ ¬ (barred.park 0 3 7 high).replayDone 0 ∧ (ended.park 0 3 7 high).replayDone 0
      ∧ ((ended.park 0 3 7 high).link 0).park.fifos.get 3 = []
      ∧ (((emptying.park 0 0 0 low).link 0).park.fifos.get 0).length = 1 ∧ (emptying.link 0).park.fifos.get 0 ≠ []
      ∧ (low.length + 255) / 256 ≤ emptying.settings.classLimit) := by decide +kernel

/-- R136, R149: a frame that joins the FIFO its own displacements emptied brings a judgement, in which the candidate of a
higher class is found stale and the frame itself begins its transit. -/
theorem test_joined_emptied_fifo_is_judged :
    let low := frameOf (List.replicate 12 0 ++ [0x81, 0x00, 0x00]) 64
    let s := { emptying with now := 3125 * 1000000 }
    ((after (.frameFromSwitch 0 low) s).link 0).park.fifos.get 3 = []
    ∧ ((after (.frameFromSwitch 0 low) s).link 0).moduleSide.transit = some low := by decide +kernel

/-- The longest frame and one byte more, for every statement that bounds a frame. -/
theorem test_witness_longest_frame :
    (List.replicate 9216 (0 : Byte)).length ≤ 9216 ∧ 9216 < (List.replicate 9217 (0 : Byte)).length := by
  simp only [List.length_replicate]
  decide

/-- ParkingDisplacesOldestFirst, what follows the procedure: a join above the critical level that pauses a pausable class and
sets its mark, one that takes pool free below the mark, and one after a displacement that releases a class and clears its
mark and the pool-low state. -/
theorem test_witness_parking_judgements :
    let s := parkingState [parked 1500 6 1] [] 576
    let rising := { s with settings := { s.settings with criticalLevel := 6, pausable := Bank.fill 4 true } }
    let falling := { (parkingState [parked 3000 12 1] [] 600).updLink 20 fun l =>
        { l with
          hold := { l.hold with paused := Bank.fill 4 (some 9) }, park := { l.park with critical := Bank.fill 4 true } } with
      poolLow := true, settings := { s.settings with classLimit := 12 } }
    let up := rising.park 20 1 2 (List.replicate 256 0)
    let down := falling.park 20 1 2 (List.replicate 256 0)
    (rising.link 20).hold.service = .hold ∧ (up.link 20).hold.paused.get 1 = some (rising.refreshEnd 20)
    ∧ (up.link 20).park.critical.get 1 = true ∧ up.raised = [.event ⟨.classCritical, 20, 1⟩]
    ∧ (s.park 20 1 2 (List.replicate (256 * 16 - 1536) 0)).poolLow = false
    ∧ (({ s with poolFree := 512 } : State).park 20 1 2 (List.replicate 64 0)).raised = [.event ⟨.poolLow, 0, 0⟩]
    ∧ (down.link 20).hold.paused.get 1 = none ∧ (down.link 20).park.critical.get 1 = false ∧ down.poolLow = false
    ∧ down.raised = [.discard 20] ∧ down.slotA.map (·.reason) = some .classFull := by decide +kernel

/-- ParkingDisplacesOldestFirst: a frame of more blocks than the class limit, one of as many, and one that displaces. -/
theorem test_witness_parking :
    let s := parkingState [parked 1500 6 1] [parked 600 3 3] 1
    s.settings.classLimit < (4097 + 255) / 256 ∧ (4096 + 255) / 256 ≤ s.settings.classLimit
    ∧ s.poolFree + blocksIn (((s.link 20).park.fifos.get 3).take 0) < (600 + 255) / 256
    ∧ ¬ s.poolFree + blocksIn (((s.link 20).park.fifos.get 3).take 1) < (600 + 255) / 256 := by decide +kernel

/-- PriorityFollowsTagOrDscp: a tag, each DSCP with the map enabled, and neither. -/
theorem test_witness_priority :
    let type := fun f : List Byte => (f.getD 12 0).toNat * 256 + (f.getD 13 0).toNat
    let at12 := fun b : List Byte => frameOf (List.replicate 12 0 ++ b) 64
    type (at12 [0x81, 0x00, 0xE0]) = 0x8100 ∧ type (at12 [0x08, 0x00, 0x45, 0xFC]) = 0x0800
    ∧ (63 : Fin 64).val = ((at12 [0x08, 0x00, 0x45, 0xFC]).getD 15 0).toNat / 4
    ∧ type (at12 [0x86, 0xDD, 0x6F, 0xC0]) = 0x86DD
    ∧ (63 : Fin 64).val = (((at12 [0x86, 0xDD, 0x6F, 0xC0]).getD 14 0).toNat % 16) * 4
      + ((at12 [0x86, 0xDD, 0x6F, 0xC0]).getD 15 0).toNat / 64
    ∧ ({ State.reset.settings with dscpMapEnable := true } : Settings).dscpMapEnable = true
    ∧ State.reset.settings.dscpMapEnable = false := by decide +kernel

/-- A probe of cage 15 and slot 3, with the given slot byte. -/
def probeFrame (slot : Byte) : List Byte :=
  frameOf (List.replicate 12 0xFF ++ [0xA1, 0x7E, 1, 5, 0, 0, 0, 0, 0, 10, 2, 0, 0, 0, 0, 9, 15, slot, 0, 1]) 64

/-- ModuleFramesAndFabricEgress: a frame in and before QUALIFYING, a probe of slot 3 and one of slot 4, other frames in PASS
and outside it; an egress that is free, that sends, and with each kind of frame waiting. -/
theorem test_witness_module_frames :
    let egress := fun e : FabricEgress => (holding .pass).updLink 0 fun l => { l with fabricSide := e }
    let reply := State.reset.frameTo 1 .reply 0 0 0 []
    (State.reset.link 0).engine.recovery.runsWindows = false ∧ ((holding .pass).link 0).engine.recovery.runsWindows = true
    ∧ (∀ slot ∈ [3, 4], typeOf (probeFrame slot) = State.reset.settings.managementType ∧ kindOf (probeFrame slot) = 5
      ∧ isTagged (probeFrame slot) = false ∧ byteAt (probeFrame slot) 14 = 1 ∧ field16 (probeFrame slot) 20 = 10
      ∧ (byteAt (probeFrame slot) 28).toNat = 15 ∧ byteAt (probeFrame slot) 29 = slot)
    ∧ (15 : CageId).val = 15 ∧ (3 : SlotId).val = (3 : Byte).toNat ∧ ¬ (4 : Byte).toNat < 4
    ∧ kindOf (frameOf [2] 64) ≠ 5 ∧ ((holding .hold).link 0).hold.service ≠ .pass
    ∧ ((holding .pass).link 0).fabricSide = ⟨none, [], [], []⟩
    ∧ ((egress ⟨some (.forwarded [1]), [.pause ⟨1, 2⟩], [], []⟩).link 0).fabricSide.sending ≠ none
    ∧ (∀ f ∈ [FabricFrame.pause ⟨1, 0⟩, .pause ⟨1, 2⟩, .reply reply, .forwarded [1]],
      ((egress ⟨some (.forwarded [1]), [f], [], []⟩).link 0).fabricSide.urgent = [f])
    ∧ ((egress ⟨some (.forwarded [1]), [], [reply], []⟩).link 0).fabricSide.replies = [reply]
    ∧ ((egress ⟨some (.forwarded [1]), [], [], [[2]]⟩).link 0).fabricSide.forwards = [[2]]
    ∧ ((holding .shed).link 0).hold.service = .shed := by decide +kernel

/-- R123, R126: a pause frame that waited leaves with the pause time then in force, and a release with 0. -/
theorem test_waiting_pause_takes_new_time :
    let s := fun p : PauseFrame => { (holding .hold).updLink 0 fun l =>
        { l with fabricSide := ⟨some (.forwarded [1]), [.pause p], [], []⟩ } with
      settings := { State.reset.settings with pauseTime := 100 } }
    ((after (.fabricEgressFree 0) (s ⟨6, 65535⟩)).link 0).fabricSide.sending = some (.pause ⟨6, 100⟩)
    ∧ ((after (.fabricEgressFree 0) (s ⟨6, 0⟩)).link 0).fabricSide.sending = some (.pause ⟨6, 0⟩) := by decide +kernel

/-- MeterPacesReplay: each meter mode with the egress free and busy, tokens one short of the charge and equal to it, an
age at the limit and beyond it, an empty store; and a ramp step below its ceiling and at it, degraded and not. -/
theorem test_witness_meter :
    let s := bucketState
    let f := parked 1500 6 3
    let aged := fun us : Nat => { s with now := us * 3125 }
    (State.reset.link 0).meter.mode = .stopped ∧ (s.link 0).meter.mode = .metered ∧ (s.link 0).moduleSide = ⟨none, []⟩
    ∧ (s.link 0).park.fifos.get 3 = f :: List.replicate 3 f ∧ (∀ h : ClassId, 3 < h → (s.link 0).park.fifos.get h = [])
    ∧ ¬ (s.linkSet 0).ageLimit * 1000 < (BitVec.ofNat 32 (s.now / 3125) - f.stamp).toNat
    ∧ (s.link 0).meter.tokens < min f.length (s.link 0).meter.burst
    ∧ (((s.updMeter 0 fun m => { m with tokens := 1500 }).link 0).meter.tokens = min f.length (s.link 0).meter.burst)
    ∧ ¬ (s.linkSet 0).ageLimit * 1000 < (BitVec.ofNat 32 ((aged 500000).now / 3125) - f.stamp).toNat
    ∧ (s.linkSet 0).ageLimit * 1000 < (BitVec.ofNat 32 ((aged 500001).now / 3125) - f.stamp).toNat
    ∧ (((s.updMeter 0 fun m => { m with mode := .unmetered, rampTimer := some 7 }).link 0).meter.mode = .unmetered)
    ∧ (((s.updLink 0 fun l => { l with moduleSide := ⟨some [1], [[2]]⟩ }).link 0).moduleSide = ⟨some [1], [[2]]⟩)
    ∧ (((s.updLink 0 fun l => { l with moduleSide := ⟨some [1], []⟩ }).link 0).moduleSide = ⟨some [1], []⟩)
    ∧ (s.link 0).engine.recovery = .up ∧ (State.reset.link 0).engine.recovery ≠ .up
    ∧ ¬ s.replayDone 0 ∧ ((s.updLink 0 fun l =>
        { l with park := { l.park with fifos := Bank.fill 4 [] }, meter := { l.meter with mode := .unmetered } }).replayDone 0)
    ∧ (State.reset.link 0).moduleSide.transit = none ∧ (s.link 0).meter.rampTimer = none
    ∧ (∀ k, (State.reset.link 0).park.fifos.get k = [])
    ∧ (∀ r ∈ [24999, 25000], ∀ d : Bool, let t := s.updMeter 0 fun m =>
        { m with rate := r, degraded := d, rampTimer := some 7 }
      (t.link 0).meter.rampTimer = some 7 ∧ (t.link 0).meter.mode = .metered ∧ (t.link 0).meter.degraded = d
      ∧ ((t.link 0).meter.rate * 2 < (t.link 0).meter.rateCeiling ↔ r = 24999)) := by decide +kernel

/-- R82: what waits for the module side is dropped where the transit ends on a link that is not UP. -/
theorem test_waiting_frames_need_up :
    let s := fun r : RecoveryState => (linkIn r).updLink 0 fun l => { l with moduleSide := ⟨some [1], [[2]]⟩ }
    ((after (.moduleEgressTransitEnd 0) (s .adapting)).link 0).moduleSide = ⟨none, []⟩
    ∧ ((after (.moduleEgressTransitEnd 0) (s .up)).link 0).moduleSide = ⟨some [2], []⟩ := by decide +kernel

/-- R164: a reply that waited through a change of the management address leaves with the new one. -/
theorem test_waiting_reply_takes_new_address :
    let reply := State.reset.frameTo 1 .reply 0 0 0 []
    let s := { State.reset with
      service := ⟨some reply, [reply]⟩, settings := { State.reset.settings with managementAddress := 0x020000000077#48 } }
    ((after .servicePortFree s).service.sending.map (·.source)) = some 0x020000000077#48 := by decide +kernel

/-- A service port with what waits for it. -/
def port (service : ServicePort) (entries : List PendingEntry) (gap : Timer) : State :=
  { State.reset with service := service, notices := { State.reset.notices with entries := entries, gapTimer := gap } }

/-- ServicePortSendsInOrder: a busy port, a waiting reply, a running gap timer, a waiting snapshot, no entry, and entries
that level, code and source tell apart. -/
theorem test_witness_service_port :
    let reply := State.reset.frameTo 1 .reply 0 0 0 []
    let record : SnapshotRecord := ⟨2, .removed, 0, 1, none⟩
    let snap := State.reset.updChannel 2 fun c => { c with slot := some record }
    let e : PendingEntry := ⟨.linkLost, 36, 1, 2⟩
    let entries : List PendingEntry := [⟨.removed, 9, 0, 1⟩, e, ⟨.linkLost, 37, 1, 1⟩, ⟨.poolLow, 0, 0, 1⟩]
    let levels := (port ⟨none, []⟩ entries none).notices.levels
    (port ⟨some reply, []⟩ [] none).service.sending ≠ none ∧ (port ⟨none, [reply]⟩ [] none).service = ⟨none, [reply]⟩
    ∧ (port ⟨none, []⟩ [] (some 7)).notices.gapTimer = some 7 ∧ State.reset.notices.gapTimer = none
    ∧ (snap.channel 2).slot = some record ∧ (∀ i : ChannelId, i < 2 → (snap.channel i).slot = none)
    ∧ snap.service = ⟨none, []⟩ ∧ (∀ h, (State.reset.channel h).slot = none) ∧ State.reset.notices.entries = []
    ∧ e ∈ entries ∧ (entries.map fun x => (x.kind, x.source)).Nodup
    ∧ ∀ x ∈ entries, x ≠ e → (levels.get x.kind.place < levels.get e.kind.place
      ∨ (levels.get e.kind.place = levels.get x.kind.place
        ∧ (e.kind.code < x.kind.code ∨ (e.kind = x.kind ∧ e.source < x.source)))) := by decide +kernel

/-- PendingSetTakesEvents: no channel that matches, a kind of level 0 and of another, with its entry and without; a single
channel with counts 2 and 1, and a series with and without its link. -/
theorem test_witness_pending_set :
    let e : Event := ⟨.linkLost, 37, 2⟩
    let silent := { State.reset with
      notices := { State.reset.notices with levels := State.reset.notices.levels.set EventKind.linkLost.place 0 } }
    let series := fun l : Option LinkId => State.reset.updChannel 1 fun c =>
      { c with armed := true, trigger := some ⟨.linkLost, none⟩, mode := .series, remaining := 3, seriesLink := l }
    (∀ h, (State.reset.channel h).armed = false) ∧ silent.notices.levels.get e.kind.place = 0
    ∧ State.reset.notices.levels.get e.kind.place ≠ 0 ∧ State.reset.notices.entries = []
    ∧ (∃ x ∈ (port ⟨none, []⟩ [⟨.linkLost, 37, 1, 255⟩] none).notices.entries, x.kind = e.kind ∧ x.source = e.source)
    ∧ (∀ n ∈ [1, 2], let c := (chainState n).channel 0
      c.armed = true ∧ c.trigger = some ⟨e.kind, some e.source⟩ ∧ c.mode = .single ∧ c.remaining = n)
    ∧ (∀ l ∈ [none, some 37], let c := (series l).channel 1
      c.armed = true ∧ c.trigger = some ⟨e.kind, none⟩ ∧ c.mode = .series ∧ c.seriesLink = l)
    ∧ ((series none).channel 0).armed = false := by decide +kernel

/-- SnapshotRequests: each refusal at its boundary, a disarmed and an armed channel, a count of 0, and each mode. -/
theorem test_witness_snapshots :
    3 < (4 : Byte).toNat ∧ 23 < (24 : Byte).toNat ∧ 64 ≤ (64 : Byte).toNat ∧ (64 : Byte) ≠ 0xFF ∧ 1 < (2 : Byte).toNat
    ∧ (3 : ChannelId).val = (3 : Byte).toNat ∧ EventKind.linkLost.code = (10 : Byte).toNat
    ∧ State.reset.engineIdle ∧ (State.reset.channel 3).armed = false
    ∧ (chainState 1).engineIdle ∧ ((chainState 1).channel 0).armed = true
    ∧ ((chainState 1).channel 0).trigger = some ⟨.linkLost, some 37⟩ ∧ ((chainState 1).channel 0).mode = .single
    ∧ (37 : Byte).toNat < EventKind.linkLost.sourceRange.size ∧ ¬ (64 : Byte).toNat < EventKind.linkLost.sourceRange.size
    ∧ ((chainState 1).channel 0).remaining = 1 ∧ ((chainState 2).channel 0).remaining = 2
    ∧ (chainState 2).engineIdle ∧ ((chainState 2).channel 0).trigger = some ⟨.linkLost, some 37⟩
    ∧ ((chainState 1).channel 1).trigger = some ⟨.linkLost, none⟩ ∧ ((chainState 1).channel 1).mode = .series := by
  decide +kernel

/-- RecoveryMemoryMovesRecords: the position's own record under its key and another, a cached one, one in another position
held and not held, and a digest found nowhere; what stands in the position valid and not. -/
theorem test_witness_memory :
    let a := record 5 6 9
    let here := fun v : Bool => { resetMemory with positions := resetMemory.positions.set 3 (some (record 7 8 3 v)) }
    let there := fun h : Bool => { here true with
      positions := (here true).positions.set 9 (some a), held := resetMemory.held.set 9 h }
    (resetMemory.positions.set 3 (some a)).get 3 = some a ∧ a.digest = (record 5 6 3).digest
    ∧ a.digest = (record 4 6 3).digest ∧ a.key ≠ (record 4 6 3).key
    ∧ ((here true).positions.get 3 = some (record 7 8 3 true) ∧ (record 7 8 3).digest ≠ (record 5 6 3).digest)
    ∧ (here false).positions.get 3 = some (record 7 8 3 false)
    ∧ ({ here true with cache := [a] } : RecoveryMemory).cache.find? (fun r => r.digest = (record 5 6 3).digest) = some a
    ∧ (∀ h : Bool, (there h).positions.get 9 = some a ∧ (there h).held.get 9 = h
      ∧ (there h).cache.find? (fun r => r.digest = (record 5 6 3).digest) = none
      ∧ ∀ i : CageId, i ≠ 3 → i ≠ 9 → (there h).positions.get i = none)
    ∧ (∀ i : CageId, i ≠ 3 → (here true).positions.get i = none) := by decide +kernel

/-! ### Witnesses: what always holds -/

/-- A state with a command that steps. -/
def stepping : State := { State.reset with pending := [.powerOnReset 1 0 0] }

/-- The invariants' premises: a state that meets each of them, with a step that answers a next state, and a front command
that is no damage. -/
theorem test_witness_invariants :
    (match step stepping with
      | .next t => decide (t.settings = State.reset.settings)
      | .fault _ | .refused _ => false) = true
    ∧ stepping.poolConserved ∧ stepping.memory.Single ∧ stepping.table.Ordered
    ∧ ∀ index key attr rest, stepping.pending ≠ .entryDamage index key attr :: rest := by
  refine ⟨by decide +kernel, by decide +kernel, ⟨by decide +kernel, by decide +kernel, ?_, ?_⟩, by decide +kernel, ?_⟩
  · intro c r h
    exact absurd ((by decide +kernel : ∀ c, stepping.memory.positions.get c = none) c ▸ h) (by simp)
  · intro c d r q h
    exact absurd ((by decide +kernel : ∀ c, stepping.memory.positions.get c = none) c ▸ h) (by simp)
  · intro index key attr rest h
    injection h with h
    exact absurd h (by simp)

/-- The same state is within its bounds, and reports as it should. -/
theorem test_witness_bounds : stepping.Bounded ∧ stepping.Reported := by
  refine ⟨⟨?_, ?_, ?_, ?_, ?_, ?_⟩, ⟨?_, ?_, ?_, ?_, ?_, ?_⟩⟩ <;> decide +kernel

/-- The same state is lawful. -/
theorem test_witness_lawful : stepping.Lawful := by
  constructor
  · intro c
    refine ⟨?_, ?_, ?_, ?_, ?_, ?_, ?_⟩ <;> revert c <;> decide +kernel
  · intro j
    refine ⟨?_, ?_, ?_, ?_, ?_, ?_, ?_, ?_, ?_⟩ <;> revert j <;> decide +kernel

end Sys2Proof.Tests
end

section
/-! PROOFS. The edits of the profile table (R30, R31, R32): how their bodies read back (R168), how an idle engine answers
them (R160, R161), and what their checks say. -/

namespace Sys2Proof.Machine

/-! ### Fields laid out and read back (R168) -/

theorem byteAt_append_right (front rear : List Byte) (i : Nat) :
    byteAt (front ++ rear) (front.length + i) = byteAt rear i := by
  rw [byteAt, List.getD_append_right _ _ _ _ (Nat.le_add_right ..), Nat.add_sub_cancel_left, byteAt]

/-- A 16-bit field is read where it was laid out. -/
theorem field16_bytes16 (front rear : List Byte) (w : BitVec 16) :
    field16 (front ++ (bytes16 w ++ rear)) front.length = w := by
  have joined : w.extractLsb' 8 8 ++ w.extractLsb' 0 8 = w := by
    rw [BitVec.extractLsb'_append_extractLsb'_eq_extractLsb' (by rfl), BitVec.extractLsb'_eq_self]
  rw [field16, byteAt_append_right, ← Nat.add_zero front.length, byteAt_append_right]
  exact joined

/-- A 32-bit field is read where it was laid out. -/
theorem field32_bytes32 (front rear : List Byte) (w : BitVec 32) :
    field32 (front ++ (bytes32 w ++ rear)) front.length = w := by
  have joined : w.extractLsb' 16 16 ++ w.extractLsb' 0 16 = w := by
    rw [BitVec.extractLsb'_append_extractLsb'_eq_extractLsb' (by rfl), BitVec.extractLsb'_eq_self]
  have high := field16_bytes16 front (bytes16 (w.extractLsb' 0 16) ++ rear) (w.extractLsb' 16 16)
  have low := field16_bytes16 (front ++ bytes16 (w.extractLsb' 16 16)) rear (w.extractLsb' 0 16)
  rw [List.length_append, bytes16_length] at low
  simp only [List.append_assoc] at low
  rw [field32, bytes32, List.append_assoc, high, low, joined]

/-! ### The bodies of table edits (R168) -/

/-- A body as long as its outline is its command's. -/
theorem withOutline_of_le {n : Nat} {body : List Byte} (i : Instr) (long : n ≤ body.length) :
    withOutline n body i = .ok i :=
  if_neg (Nat.not_lt.mpr long)

theorem decodeBody_tableAppend (q : Requester) (key attr : BitVec 32) :
    decodeBody q 0x21 (bytes32 key ++ bytes32 attr) = .ok (.tableAppend q key attr) := by
  have keyRead : field32 (bytes32 key ++ bytes32 attr) 0 = key := field32_bytes32 [] (bytes32 attr) key
  have attrRead : field32 (bytes32 key ++ bytes32 attr) 4 = attr := by
    simpa using field32_bytes32 (bytes32 key) [] attr
  have outline (b : List Byte) :
      decodeBody q 0x21 b = withOutline 8 b (.tableAppend q (field32 b 0) (field32 b 4)) := rfl
  rw [outline, withOutline_of_le _ (by simp), keyRead, attrRead]

theorem decodeBody_tableReplace (q : Requester) (index : Byte) (key attr : BitVec 32) :
    decodeBody q 0x22 (index :: (bytes32 key ++ bytes32 attr)) = .ok (.tableReplace q index key attr) := by
  have keyRead : field32 (index :: (bytes32 key ++ bytes32 attr)) 1 = key :=
    field32_bytes32 [index] (bytes32 attr) key
  have attrRead : field32 (index :: (bytes32 key ++ bytes32 attr)) 5 = attr := by
    simpa using field32_bytes32 (index :: bytes32 key) [] attr
  have outline (b : List Byte) :
      decodeBody q 0x22 b = withOutline 9 b (.tableReplace q (byteAt b 0) (field32 b 1) (field32 b 5)) := rfl
  rw [outline, withOutline_of_le _ (by simp), keyRead, attrRead]
  rfl

theorem decodeBody_tableTruncate (q : Requester) (count : BitVec 16) :
    decodeBody q 0x23 (bytes16 count) = .ok (.tableTruncate q count) := by
  have countRead : field16 (bytes16 count) 0 = count := by simpa using field16_bytes16 [] [] count
  have outline (b : List Byte) : decodeBody q 0x23 b = withOutline 2 b (.tableTruncate q (field16 b 0)) := rfl
  rw [outline, withOutline_of_le _ (by simp), countRead]

/-! ### A request that an idle engine answers (R160, R161) -/

/-- The request that a requester lays out with a code and a body. -/
def requestOf (q : Requester) (code : Byte) (body : List Byte) : Request :=
  { port := q.port, source := q.source, version := 1, tag := q.tag, code := code, bodyLength := body.length,
    body := body }

/-- A request whose body reads back as its command is executed at once on an idle engine. -/
theorem serve_requestOf (i : Instr) (q : Requester) (code : Byte) (body : List Byte) (f : State → State) (s : State)
    (idle : s.engineIdle) (parts : requestParts i = some (q, code, body)) (reads : decodeBody q code body = .ok i) :
    serve i f s = .next (f (s.executing (requestOf q code body))).settle := by
  have encoded : encodeRequest i = some (requestOf q code body) := by
    rw [encodeRequest, parts]
    rfl
  have decoded : decodeRequest (requestOf q code body) = .ok i := by
    simpa [decodeRequest, requestOf, requesterOf] using reads
  exact serve_idle i f _ s idle encoded decoded

/-- A request in execution that changes nothing is answered. -/
theorem settle_respond_executing (q : Requester) (code : Byte) (body : List Byte) (o : RequestOutcome) (fields : List Nat)
    (data : List Byte) (s : State) (idle : s.engineIdle) :
    ((s.executing (requestOf q code body)).respond o fields data).settle = s.answered q code o fields data :=
  congrArg State.settle (respond_idle id _ o fields data s idle rfl rfl)

/-- A request in execution that changes the table's entries is answered after the change. -/
theorem settle_respond_setEntries (q : Requester) (code : Byte) (body : List Byte) (entries : List ProfileEntry)
    (o : RequestOutcome) (fields : List Nat) (data : List Byte) (s : State) (idle : s.engineIdle) :
    (((s.executing (requestOf q code body)).setEntries entries).respond o fields data).settle
      = (s.setEntries entries).answered q code o fields data :=
  congrArg State.settle (respond_idle (State.setEntries entries) _ o fields data s idle rfl rfl)

/-! ### The checks of table edits (R30, R31) -/

theorem not_fieldsGood_iff (e : ProfileEntry) :
    (!e.fieldsGood) = true ↔ 16 < e.width ∨ e.key.toNat % 2 ^ e.width ≠ 0 := by
  simp only [ProfileEntry.fieldsGood, Bool.not_and, Bool.or_eq_true, Bool.not_eq_true', decide_eq_false_iff_not,
    Nat.not_le, beq_eq_false_iff_ne]

theorem not_isAbove_iff (key : BitVec 32) (before : Option ProfileEntry) :
    (!isAbove key before) = true ↔ before.any (fun x => decide (key.toNat ≤ x.key.toNat)) = true := by
  cases before <;> simp [isAbove]

theorem not_isBelow_iff (key : BitVec 32) (after : Option ProfileEntry) :
    (!isBelow key after) = true ↔ after.any (fun x => decide (x.key.toNat ≤ key.toNat)) = true := by
  cases after <;> simp [isBelow]

/-- The entry before an index is the one at the index less 1, and index 0 has none (R31). -/
theorem not_isAbove_entryBefore_iff (key : BitVec 32) (entries : List ProfileEntry) (i : Nat) :
    (!isAbove key (entryBefore entries i)) = true
      ↔ 0 < i ∧ entries[i - 1]?.any (fun x => decide (key.toNat ≤ x.key.toNat)) = true := by
  rw [not_isAbove_iff, entryBefore]
  split
  case isTrue first => simp [first]
  case isFalse later => simp [Nat.pos_of_ne_zero later]

/-! ### Table edits (R30, R31, R32) -/

/-- TABLE-APPEND on an idle engine, check by check (R30). -/
theorem exec_tableAppend (q : Requester) (key attr : BitVec 32) (s : State) (idle : s.engineIdle) :
    exec (.tableAppend q key attr) s = .next
      (if s.table.mode = .active then s.answered q 0x21 .wrongState [] []
       else if 16 < widthOf attr ∨ key.toNat % 2 ^ widthOf attr ≠ 0 then s.answered q 0x21 .badArgument [] []
       else if 256 ≤ s.table.entries.length then s.answered q 0x21 .full [] []
       else if s.table.entries.getLast?.any (fun x => decide (key.toNat ≤ x.key.toNat)) then
         s.answered q 0x21 .order [] []
       else (s.setEntries (s.table.entries ++ [entryOf key attr true])).answered q 0x21 .done [] []) := by
  show execTableAppend q key attr s = _
  rw [execTableAppend, serve_requestOf _ q 0x21 _ _ s idle rfl (decodeBody_tableAppend q key attr)]
  simp only [apply_ite State.settle, settle_respond_executing (idle := idle), settle_respond_setEntries (idle := idle),
    not_fieldsGood_iff, not_isAbove_iff]
  rfl

/-- TABLE-REPLACE on an idle engine, check by check (R31). -/
theorem exec_tableReplace (q : Requester) (index : Byte) (key attr : BitVec 32) (s : State) (idle : s.engineIdle) :
    exec (.tableReplace q index key attr) s = .next
      (if s.table.mode = .active then s.answered q 0x22 .wrongState [] []
       else if s.table.entries.length ≤ index.toNat ∨ 16 < widthOf attr ∨ key.toNat % 2 ^ widthOf attr ≠ 0 then
         s.answered q 0x22 .badArgument [] []
       else if (0 < index.toNat
             ∧ s.table.entries[index.toNat - 1]?.any (fun x => decide (key.toNat ≤ x.key.toNat)) = true)
           ∨ s.table.entries[index.toNat + 1]?.any (fun x => decide (x.key.toNat ≤ key.toNat)) = true then
         s.answered q 0x22 .order [] []
       else (s.setEntries (s.table.entries.set index.toNat (entryOf key attr true))).answered q 0x22 .done [] []) := by
  show execTableReplace q index key attr s = _
  rw [execTableReplace, serve_requestOf _ q 0x22 _ _ s idle rfl (decodeBody_tableReplace q index key attr)]
  simp only [apply_ite State.settle, settle_respond_executing (idle := idle), settle_respond_setEntries (idle := idle),
    Bool.not_and, Bool.or_eq_true, decide_eq_true_eq, not_fieldsGood_iff,
    not_isAbove_entryBefore_iff, not_isBelow_iff]
  rfl

/-- TABLE-TRUNCATE on an idle engine, check by check (R32). -/
theorem exec_tableTruncate (q : Requester) (count : BitVec 16) (s : State) (idle : s.engineIdle) :
    exec (.tableTruncate q count) s = .next
      (if s.table.mode = .active then s.answered q 0x23 .wrongState [] []
       else if s.table.entries.length < count.toNat then s.answered q 0x23 .badArgument [] []
       else (s.setEntries (s.table.entries.take count.toNat)).answered q 0x23 .done [] []) := by
  show execTableTruncate q count s = _
  rw [execTableTruncate, serve_requestOf _ q 0x23 _ _ s idle rfl (decodeBody_tableTruncate q count)]
  simp only [apply_ite State.settle, settle_respond_executing (idle := idle), settle_respond_setEntries (idle := idle)]
  rfl

/-- The width bits of an entry's second word as a quotient and a remainder (R168). -/
theorem widthOf_eq (attr : BitVec 32) : widthOf attr = attr.toNat / 2 ^ 21 % 32 := by
  rw [widthOf, BitVec.extractLsb'_toNat, Nat.shiftRight_eq_div_pow]

/-- Settles O12: each edit's outcome, check by check, with the entry's width read from its second word. -/
theorem tableEditsAreCheckedInOrder : Obligations.TableEditsAreCheckedInOrder := by
  intro q key attr index count s idle
  simp only [← widthOf_eq]
  exact ⟨exec_tableAppend q key attr s idle, exec_tableReplace q index key attr s idle,
    exec_tableTruncate q count s idle⟩

end Sys2Proof.Machine
end

section
/-! PROOFS. The checksum of the table (R35): the model's folding with fuel ends where the rule's folding ends. -/

namespace Sys2Proof.Machine

/-! ### Folding -/

/-- A folded sum fits in 32 bits. -/
theorem Folds.le {n r : Nat} (h : Folds n r) : r ≤ 0xFFFFFFFF := by
  induction h with
  | done _ small => exact small
  | round _ _ _ _ ih => exact ih

/-- A sum folds to one value. -/
theorem Folds.unique {n r t : Nat} (hr : Folds n r) (ht : Folds n t) : r = t := by
  induction hr with
  | done _ small =>
    cases ht with
    | done => rfl
    | round _ _ large => omega
  | round _ _ large _ ih =>
    cases ht with
    | done _ small => omega
    | round _ _ _ next => exact ih next

/-- A round takes a positive multiple of FFFFFFFFh from a sum that is too large, and at least halves the bound. -/
theorem round_le_of_le {n b : Nat} (large : 0xFFFFFFFF < n) (bound : n ≤ 2 * b * 0xFFFFFFFF) :
    n / 2 ^ 32 + n % 2 ^ 32 ≤ b * 0xFFFFFFFF := by
  omega

/-- With fuel for its halvings, `foldSum` folds a sum as R35 does. -/
theorem folds_foldSum (fuel n : Nat) (bound : n ≤ 2 ^ fuel * 0xFFFFFFFF) : Folds n (foldSum fuel n) := by
  induction fuel generalizing n with
  | zero => exact .done n (by simpa using bound)
  | succ fuel ih =>
    rw [foldSum]
    split
    case isTrue small => exact .done n small
    case isFalse large =>
      have large : 0xFFFFFFFF < n := by omega
      exact .round n _ large (ih _ (round_le_of_le large (by rwa [Nat.pow_succ'] at bound)))

/-- Every sum folds: `n` rounds halve it away. -/
theorem exists_folds (n : Nat) : ∃ r, Folds n r :=
  ⟨_, folds_foldSum n n (by have := Nat.lt_two_pow_self (n := n); omega)⟩

/-! ### The checksum -/

/-- The word of an entry's fields is the number its fields spell, modulo 2^32 (R168). -/
theorem wordSum_eq (entries : List ProfileEntry) : wordSum entries = (entries.map fun e =>
    e.key.toNat + (e.width * 2 ^ 21 + e.setIndex.val * 2 ^ 16 + e.cageSet.toNat) % 2 ^ 32).sum := by
  simp only [wordSum, ProfileEntry.attr, BitVec.toNat_ofNat]

/-- Each entry adds at most two full words. -/
theorem wordSum_le (entries : List ProfileEntry) : wordSum entries ≤ entries.length * (2 * 0xFFFFFFFF) := by
  have words : ∀ n ∈ entries.map fun e => e.key.toNat + e.attr.toNat, n ≤ 2 * 0xFFFFFFFF := by
    intro n hn
    obtain ⟨e, -, rfl⟩ := List.mem_map.mp hn
    omega
  simpa [wordSum] using List.sum_le_card_nsmul _ _ words

/-- The checksum inverts whatever the sum of the words folds to. -/
theorem tableChecksum_of_folds (entries : List ProfileEntry) (n : Nat) (h : Folds (wordSum entries) n) :
    tableChecksum entries = ~~~ BitVec.ofNat 32 n := by
  have enough : wordSum entries ≤ 2 ^ (entries.length + 2) * 0xFFFFFFFF :=
    calc wordSum entries
      _ ≤ entries.length * (2 * 0xFFFFFFFF) := wordSum_le entries
      _ ≤ 2 ^ entries.length * (2 ^ 2 * 0xFFFFFFFF) := Nat.mul_le_mul Nat.lt_two_pow_self.le (by decide)
      _ = 2 ^ (entries.length + 2) * 0xFFFFFFFF := by rw [Nat.pow_add, Nat.mul_assoc]
  rw [tableChecksum, (folds_foldSum _ _ enough).unique h]

/-- The checksum reads the entries in no order. -/
theorem tableChecksum_perm {a b : List ProfileEntry} (h : a.Perm b) : tableChecksum a = tableChecksum b := by
  obtain ⟨n, hn⟩ := exists_folds (wordSum a)
  have sums : wordSum a = wordSum b := (h.map _).sum_eq
  rw [tableChecksum_of_folds a n hn, tableChecksum_of_folds b n (sums ▸ hn)]

/-- Settles O13: the model's fuel reaches the end of the folding, which is unique. -/
theorem checksumInvertsFoldedSum : Obligations.ChecksumInvertsFoldedSum := by
  refine ⟨tableChecksum_of_folds [] 0 (.done 0 (by decide)), ?_, ?_, fun a b => tableChecksum_perm⟩
  · intro entries n folds
    exact tableChecksum_of_folds entries n (by rwa [wordSum_eq])
  · intro n
    obtain ⟨r, hr⟩ := exists_folds n
    exact ⟨r, hr, hr.le⟩

end Sys2Proof.Machine
end

section
/-! PROOFS. The verdict of a window (R93): the rows that void its counts, then the rows that judge its rate. -/

namespace Sys2Proof.Machine

/-- A window without codewords fails, whatever else it counted. -/
theorem verdictOf_no_codewords (p : ParameterSet) (e x : Nat) : verdictOf p 0 e x = (.fail, .noBlocks) :=
  if_pos rfl

/-- One uncorrectable codeword fails a window, whatever its allowances. -/
theorem verdictOf_uncorrectable {c x : Nat} (p : ParameterSet) (e : Nat) (counted : 0 < c) (bad : 0 < x) :
    verdictOf p c e x = (.fail, .uncorrectable) := by
  rw [verdictOf, if_neg counted.ne', if_pos bad]

/-- Of counted codewords that were all correctable, the two allowances judge the rate. -/
theorem verdictOf_correctable {c : Nat} (p : ParameterSet) (e : Nat) (counted : 0 < c) :
    verdictOf p c e 0 =
      if p.degradedAllowance * c < e * 1000000 then (.fail, .rate)
      else if p.allowance * c < e * 1000000 then
        if p.degradedAdmission then (.marginal, .none) else (.fail, .marginalRefused)
      else (.pass, .none) := by
  rw [verdictOf, if_neg counted.ne', if_neg (Nat.lt_irrefl 0)]

/-- Settles O40: each row of the table is reached exactly past the rows before it; an allowance that is met, not
exceeded, is the negation of its row. -/
theorem verdictIsFirstCondition : Obligations.VerdictIsFirstCondition := by
  intro p c e x
  refine ⟨?noCodeword, verdictOf_uncorrectable p e, ?aboveDegraded, ?aboveAllowance, ?within⟩
  case noCodeword =>
    rintro rfl
    exact verdictOf_no_codewords p e x
  case aboveDegraded =>
    rintro counted rfl above
    rw [verdictOf_correctable p e counted, if_pos above]
  case aboveAllowance =>
    rintro counted rfl withinDegraded above
    rw [verdictOf_correctable p e counted, if_neg withinDegraded.not_gt, if_pos above]
  case within =>
    rintro counted rfl withinDegraded withinAllowance
    rw [verdictOf_correctable p e counted, if_neg withinDegraded.not_gt, if_neg withinAllowance.not_gt]

end Sys2Proof.Machine
end

section
/-! PROOFS. The priority of a data frame (R130): how its type value and its DSCP are read, then the three sources of the
priority in their order. -/

namespace Sys2Proof.Machine

theorem toNat_field16 (bytes : List Byte) (i : Nat) :
    (field16 bytes i).toNat = (byteAt bytes i).toNat * 256 + (byteAt bytes (i + 1)).toNat := by
  rw [field16, BitVec.toNat_append, ← Nat.shiftLeft_add_eq_or_of_lt (BitVec.isLt _), Nat.shiftLeft_eq]

/-- An index that has the value of `n` is the one `n` names: a value below the size is not reduced. -/
theorem indexOf_of_val_eq {k n : Nat} (h : 0 < k) (d : Fin k) (value : d.val = n) : indexOf k n h = d :=
  Fin.ext (value ▸ Nat.mod_eq_of_lt d.isLt)

/-! ### Tag and type value -/

theorem isTagged_iff (frame : List Byte) : isTagged frame = true ↔ (field16 frame 12).toNat = 0x8100 := by
  rw [isTagged, beq_iff_eq, ← BitVec.toNat_inj]
  rfl

/-- Without a tag the type value follows the source address. -/
theorem typeOf_untagged {frame : List Byte} (untagged : isTagged frame ≠ true) : typeOf frame = field16 frame 12 := by
  rw [typeOf, typeOffset, if_neg untagged]

/-- Without a tag the type value compares as the number of its two bytes. -/
theorem typeOf_eq_iff {frame : List Byte} (untagged : isTagged frame ≠ true) (w : BitVec 16) :
    typeOf frame = w ↔ (field16 frame 12).toNat = w.toNat := by
  rw [typeOf_untagged untagged, BitVec.toNat_inj]

/-! ### The DSCP of an untagged frame -/

theorem dscpOf_ipv4 {frame : List Byte} (untagged : isTagged frame ≠ true) (ipv4 : typeOf frame = 0x0800) {d : Fin 64}
    (value : d.val = (byteAt frame 15).toNat / 4) : dscpOf frame = some d := by
  rw [dscpOf, if_neg untagged, if_pos ipv4, indexOf_of_val_eq _ d value]

/-- The six upper bits of the traffic class: four of the header's first byte, two of its second. -/
theorem dscpOf_ipv6 {frame : List Byte} (untagged : isTagged frame ≠ true) (ipv6 : typeOf frame = 0x86DD) {d : Fin 64}
    (value : d.val = (byteAt frame 14).toNat % 16 * 4 + (byteAt frame 15).toNat / 64) : dscpOf frame = some d := by
  have upper (high low : Nat) : (high * 16 + low / 16) / 4 = high * 4 + low / 64 := by omega
  have notIpv4 : typeOf frame ≠ 0x0800 := by
    rw [ipv6]
    decide
  rw [dscpOf, if_neg untagged, if_neg notIpv4, if_pos ipv6, upper, indexOf_of_val_eq _ d value]

theorem dscpOf_not_ip {frame : List Byte} (notIpv4 : typeOf frame ≠ 0x0800) (notIpv6 : typeOf frame ≠ 0x86DD) :
    dscpOf frame = none := by
  rw [dscpOf, if_neg notIpv4, if_neg notIpv6, ite_self]

/-! ### The three sources of the priority -/

/-- Three bits are within the priorities, so the tag's are taken whole. -/
theorem priorityOf_tagged (g : Settings) {frame : List Byte} (tagged : isTagged frame = true) :
    (priorityOf g frame).val = (byteAt frame 14).toNat / 32 := by
  rw [priorityOf, if_pos tagged]
  exact Nat.mod_eq_of_lt (Nat.div_lt_of_lt_mul (byteAt frame 14).isLt)

theorem priorityOf_dscp (g : Settings) {frame : List Byte} {d : Fin 64} (untagged : isTagged frame ≠ true)
    (dscp : dscpOf frame = some d) (enabled : g.dscpMapEnable = true) : priorityOf g frame = g.dscpMap.get d := by
  rw [priorityOf, if_neg untagged, dscp]
  exact if_pos enabled

theorem priorityOf_no_dscp (g : Settings) {frame : List Byte} (untagged : isTagged frame ≠ true)
    (noDscp : dscpOf frame = none) : priorityOf g frame = g.defaultPriority := by
  rw [priorityOf, if_neg untagged, noDscp]

/-- With the map disabled, a DSCP is not looked at. -/
theorem priorityOf_map_disabled (g : Settings) {frame : List Byte} (untagged : isTagged frame ≠ true)
    (disabled : g.dscpMapEnable = false) : priorityOf g frame = g.defaultPriority := by
  rw [priorityOf, if_neg untagged, disabled]
  cases dscpOf frame <;> rfl

/-- Settles O49: an IP type value excludes the tag's, and each source of the priority answers only past the ones before
it. -/
theorem priorityFollowsTagOrDscp : Obligations.PriorityFollowsTagOrDscp := by
  intro g frame byte type
  have typeRead : (field16 frame 12).toNat = type := toNat_field16 frame 12
  have tagged : isTagged frame = true ↔ type = 0x8100 := typeRead ▸ isTagged_iff frame
  have untagged : type ≠ 0x8100 → isTagged frame ≠ true := mt tagged.mp
  have typed (noTag : type ≠ 0x8100) (w : BitVec 16) : typeOf frame = w ↔ type = w.toNat :=
    typeRead ▸ typeOf_eq_iff (untagged noTag) w
  refine ⟨fun tag => priorityOf_tagged g (tagged.mpr tag), ?ipv4, ?ipv6, ?neither⟩
  case ipv4 =>
    intro ipv4 enabled d value
    have noTag : type ≠ 0x8100 := by omega
    have dscp := dscpOf_ipv4 (untagged noTag) ((typed noTag _).mpr ipv4) value
    exact priorityOf_dscp g (untagged noTag) dscp enabled
  case ipv6 =>
    intro ipv6 enabled d value
    have noTag : type ≠ 0x8100 := by omega
    have dscp := dscpOf_ipv6 (untagged noTag) ((typed noTag _).mpr ipv6) value
    exact priorityOf_dscp g (untagged noTag) dscp enabled
  case neither =>
    rintro noTag (⟨notIpv4, notIpv6⟩ | disabled)
    · have noDscp := dscpOf_not_ip (mt (typed noTag _).mp notIpv4) (mt (typed noTag _).mp notIpv6)
      exact priorityOf_no_dscp g (untagged noTag) noDscp
    · exact priorityOf_map_disabled g (untagged noTag) disabled

end Sys2Proof.Machine
end

section
/-! PROOFS. What an operation leaves unchanged: the parts of the state it may touch, and the links it may touch. -/

-- One proof after another: side by side they hold more threads than the check has memory for.
set_option Elab.async false

namespace Sys2Proof.Machine

/-- The parts of the state that operations leave unchanged; of a link each block is a part. Some parts are a portion of
another that the invariants read: `queue` of `management`, `lines` of `cages`, and so on. -/
inductive Part where
  | pending | now | freeCount | raised | settings | ceiling | cages | lines | controllers | table | entries | sets | search
  | memory | tickTimer | engaged | poolFree | poolLow | management | queue | slotA | slotB | notices | pendingSet
  | channels | service
  | engine | attempt | penalty | suppressed | hold | serving | fifos | critical | meter | counters | discardMark
  | fabricSide | moduleSide | probeSent
deriving DecidableEq

/-- What the laws of a cage read of it, with its layout. -/
def Cage.lines (m : Cage) : CageMode × Bool × Bool × List Timer × Layout :=
  (m.mode, m.resetLine, m.lowPower, [m.seatingTimer, m.readyTimer, m.guardTimer, m.powerUpTimer, m.pollTimer],
    m.fabricLayout)

/-- A part of the state is the same. -/
def Part.Same (s t : State) : Part → Prop
  | .pending => t.pending = s.pending
  | .now => t.now = s.now
  | .freeCount => t.freeCount = s.freeCount
  | .raised => t.raised = s.raised
  | .settings => t.settings = s.settings
  | .ceiling => t.settings.ceiling = s.settings.ceiling ∧ t.settings.decayFactor = s.settings.decayFactor
  | .cages => t.cages = s.cages
  | .lines => ∀ c, (t.cage c).lines = (s.cage c).lines
  | .controllers => t.controllers = s.controllers
  | .table => t.table = s.table
  | .entries => t.table.entries = s.table.entries
  | .sets => t.sets = s.sets
  | .search => t.search = s.search
  | .memory => t.memory = s.memory
  | .tickTimer => t.tickTimer = s.tickTimer
  | .engaged => t.engaged = s.engaged
  | .poolFree => t.poolFree = s.poolFree
  | .poolLow => t.poolLow = s.poolLow
  | .management => t.management = s.management
  | .queue => t.management.queue = s.management.queue
  | .slotA => t.slotA = s.slotA
  | .slotB => t.slotB = s.slotB
  | .notices => t.notices = s.notices
  | .pendingSet => t.notices.levels = s.notices.levels ∧ t.notices.entries = s.notices.entries
  | .channels => t.channels = s.channels
  | .service => t.service = s.service
  | .engine => ∀ j, (t.link j).engine = (s.link j).engine
  | .attempt => ∀ j, (t.link j).engine.recovery = (s.link j).engine.recovery
      ∧ (t.link j).engine.adaptationTimer = (s.link j).engine.adaptationTimer
      ∧ (t.link j).engine.alignmentTimer = (s.link j).engine.alignmentTimer
  | .penalty => ∀ j, (t.link j).penalty = (s.link j).penalty
  | .suppressed => ∀ j, (t.link j).suppressed = (s.link j).suppressed
  | .hold => ∀ j, (t.link j).hold = (s.link j).hold
  | .serving => ∀ j, (t.link j).hold.service = (s.link j).hold.service
      ∧ (t.link j).hold.holdTimer = (s.link j).hold.holdTimer ∧ (t.link j).hold.lastLoss = (s.link j).hold.lastLoss
  | .fifos => ∀ j, (t.link j).park.fifos = (s.link j).park.fifos
  | .critical => ∀ j, (t.link j).park.critical = (s.link j).park.critical
  | .meter => ∀ j, (t.link j).meter = (s.link j).meter
  | .counters => ∀ j, (t.link j).counters = (s.link j).counters
  | .discardMark => ∀ j, (t.link j).discardMark = (s.link j).discardMark
  | .fabricSide => ∀ j, (t.link j).fabricSide = (s.link j).fabricSide
  | .moduleSide => ∀ j, (t.link j).moduleSide = (s.link j).moduleSide
  | .probeSent => ∀ j, (t.link j).probeSent = (s.link j).probeSent

theorem Part.Same.refl (s : State) (p : Part) : p.Same s s := by
  cases p <;> simp [Part.Same]

theorem Part.Same.trans {s t u : State} {p : Part} (h : p.Same s t) (g : p.Same t u) : p.Same s u := by
  cases p <;> simp_all [Part.Same]

/-- From `s` to `t` nothing changes but the parts `ps`, and no link but those of `W`. -/
structure Touches (W : LinkId → Prop) (ps : List Part) (s t : State) : Prop where
  same : ∀ p, p ∉ ps → p.Same s t
  elsewhere : ∀ j, ¬ W j → t.link j = s.link j

namespace Touches

variable {W V : LinkId → Prop} {ps qs rs : List Part} {s t u : State}

/-- Nothing touched. -/
theorem refl (W : LinkId → Prop) (ps : List Part) (s : State) : Touches W ps s s :=
  ⟨fun p _ => .refl s p, fun _ _ => rfl⟩

theorem of_eq (h : t = s) : Touches W ps s t := h ▸ refl W ps s

theorem mono (h : Touches W ps s t) (sub : ps ⊆ qs := by decide) : Touches W qs s t :=
  ⟨fun p hp => h.same p fun m => hp (sub m), h.elsewhere⟩

theorem widen (h : Touches W ps s t) (sub : ∀ j, W j → V j) : Touches V ps s t :=
  ⟨h.same, fun j hj => h.elsewhere j fun w => hj (sub j w)⟩

theorem trans (h : Touches W ps s t) (g : Touches W qs t u) (hs : ps ⊆ rs := by decide)
    (gs : qs ⊆ rs := by decide) : Touches W rs s u :=
  ⟨fun p hp => .trans (h.same p fun m => hp (hs m)) (g.same p fun m => hp (gs m)),
    fun j hj => (g.elsewhere j hj).trans (h.elsewhere j hj)⟩

theorem forEach {α : Type} {f : α → State → State} {l : List α} (h : ∀ x ∈ l, ∀ t, Touches W ps t (f x t)) :
    Touches W ps s (s.forEach f l) := by
  induction l generalizing s with
  | nil => exact refl ..
  | cons x rest ih =>
    exact (h x (by simp) s).trans (ih fun y hy => h y (by simp [hy])) (List.Subset.refl _) (List.Subset.refl _)

theorem ite {p : Prop} [Decidable p] (h : p → Touches W ps s t) (g : ¬ p → Touches W ps s u) :
    Touches W ps s (if p then t else u) := by
  split
  · next c => exact h c
  · next c => exact g c

end Touches


/-! ### The parts, read -/

section
variable {W : LinkId → Prop} {ps : List Part} {s t : State} (h : Touches W ps s t)
include h

theorem Touches.pending (n : .pending ∉ ps := by decide) : t.pending = s.pending := h.same _ n
theorem Touches.now (n : .now ∉ ps := by decide) : t.now = s.now := h.same _ n
theorem Touches.freeCount (n : .freeCount ∉ ps := by decide) : t.freeCount = s.freeCount := h.same _ n
theorem Touches.raised (n : .raised ∉ ps := by decide) : t.raised = s.raised := h.same _ n
theorem Touches.settings (n : .settings ∉ ps := by decide) : t.settings = s.settings := h.same _ n
theorem Touches.cages (n : .cages ∉ ps := by decide) : t.cages = s.cages := h.same _ n
theorem Touches.controllers (n : .controllers ∉ ps := by decide) : t.controllers = s.controllers := h.same _ n
theorem Touches.table (n : .table ∉ ps := by decide) : t.table = s.table := h.same _ n
theorem Touches.sets (n : .sets ∉ ps := by decide) : t.sets = s.sets := h.same _ n
theorem Touches.search (n : .search ∉ ps := by decide) : t.search = s.search := h.same _ n
theorem Touches.memory (n : .memory ∉ ps := by decide) : t.memory = s.memory := h.same _ n
theorem Touches.tickTimer (n : .tickTimer ∉ ps := by decide) : t.tickTimer = s.tickTimer := h.same _ n
theorem Touches.engaged (n : .engaged ∉ ps := by decide) : t.engaged = s.engaged := h.same _ n
theorem Touches.poolFree (n : .poolFree ∉ ps := by decide) : t.poolFree = s.poolFree := h.same _ n
theorem Touches.poolLow (n : .poolLow ∉ ps := by decide) : t.poolLow = s.poolLow := h.same _ n
theorem Touches.management (n : .management ∉ ps := by decide) : t.management = s.management := h.same _ n
theorem Touches.queue (n : .queue ∉ ps := by decide) : t.management.queue = s.management.queue := h.same _ n
theorem Touches.slotA (n : .slotA ∉ ps := by decide) : t.slotA = s.slotA := h.same _ n
theorem Touches.slotB (n : .slotB ∉ ps := by decide) : t.slotB = s.slotB := h.same _ n
theorem Touches.notices (n : .notices ∉ ps := by decide) : t.notices = s.notices := h.same _ n
theorem Touches.channels (n : .channels ∉ ps := by decide) : t.channels = s.channels := h.same _ n
theorem Touches.service (n : .service ∉ ps := by decide) : t.service = s.service := h.same _ n
theorem Touches.engine (j : LinkId) (n : .engine ∉ ps := by decide) : (t.link j).engine = (s.link j).engine := h.same _ n j
theorem Touches.penalty (j : LinkId) (n : .penalty ∉ ps := by decide) : (t.link j).penalty = (s.link j).penalty := h.same _ n j
theorem Touches.suppressed (j : LinkId) (n : .suppressed ∉ ps := by decide) : (t.link j).suppressed = (s.link j).suppressed := h.same _ n j
theorem Touches.hold (j : LinkId) (n : .hold ∉ ps := by decide) : (t.link j).hold = (s.link j).hold := h.same _ n j
theorem Touches.fifos (j : LinkId) (n : .fifos ∉ ps := by decide) : (t.link j).park.fifos = (s.link j).park.fifos := h.same _ n j
theorem Touches.critical (j : LinkId) (n : .critical ∉ ps := by decide) : (t.link j).park.critical = (s.link j).park.critical := h.same _ n j
theorem Touches.meter (j : LinkId) (n : .meter ∉ ps := by decide) : (t.link j).meter = (s.link j).meter := h.same _ n j
theorem Touches.counters (j : LinkId) (n : .counters ∉ ps := by decide) : (t.link j).counters = (s.link j).counters := h.same _ n j
theorem Touches.discardMark (j : LinkId) (n : .discardMark ∉ ps := by decide) : (t.link j).discardMark = (s.link j).discardMark := h.same _ n j
theorem Touches.fabricSide (j : LinkId) (n : .fabricSide ∉ ps := by decide) : (t.link j).fabricSide = (s.link j).fabricSide := h.same _ n j
theorem Touches.moduleSide (j : LinkId) (n : .moduleSide ∉ ps := by decide) : (t.link j).moduleSide = (s.link j).moduleSide := h.same _ n j
theorem Touches.probeSent (j : LinkId) (n : .probeSent ∉ ps := by decide) : (t.link j).probeSent = (s.link j).probeSent := h.same _ n j

end

/-! ### One block changed -/

section
variable {W : LinkId → Prop}

/-- A block of a link is the same. -/
def Part.SameLink (l m : Link) : Part → Prop
  | .engine => m.engine = l.engine
  | .attempt => m.engine.recovery = l.engine.recovery ∧ m.engine.adaptationTimer = l.engine.adaptationTimer
      ∧ m.engine.alignmentTimer = l.engine.alignmentTimer
  | .penalty => m.penalty = l.penalty
  | .suppressed => m.suppressed = l.suppressed
  | .hold => m.hold = l.hold
  | .serving => m.hold.service = l.hold.service ∧ m.hold.holdTimer = l.hold.holdTimer ∧ m.hold.lastLoss = l.hold.lastLoss
  | .fifos => m.park.fifos = l.park.fifos
  | .critical => m.park.critical = l.park.critical
  | .meter => m.meter = l.meter
  | .counters => m.counters = l.counters
  | .discardMark => m.discardMark = l.discardMark
  | .fabricSide => m.fabricSide = l.fabricSide
  | .moduleSide => m.moduleSide = l.moduleSide
  | .probeSent => m.probeSent = l.probeSent
  | _ => True

theorem Part.SameLink.refl (l : Link) (p : Part) : p.SameLink l l := by
  cases p <;> simp [Part.SameLink]

/-- A change of the links alone is told by what it leaves of each link. -/
theorem touches_links {ps : List Part} {s t : State} (rest : t = { s with links := t.links })
    (blocks : ∀ j p, p ∉ ps → p.SameLink (s.link j) (t.link j)) (elsewhere : ∀ j, ¬ W j → t.link j = s.link j) :
    Touches W ps s t := by
  refine ⟨fun p hp => ?_, elsewhere⟩
  have hb := fun j => blocks j p hp
  generalize t.links = ls at rest
  subst rest
  cases p <;> first | exact hb | rfl | exact ⟨rfl, rfl⟩ | exact fun _ => rfl

/-- A change of one link is told by the blocks it leaves. -/
theorem touches_updLink {ps : List Part} {j : LinkId} {f : Link → Link} (s : State) (hj : W j)
    (h : ∀ l p, p ∈ ps ∨ p.SameLink l (f l)) : Touches W ps s (s.updLink j f) := by
  refine touches_links rfl (fun i p hp => ?_) fun i hi => ?_
  · by_cases e : j = i
    · subst e
      rw [State.link_updLink_self]
      exact (h _ p).resolve_left hp
    · rw [State.link_updLink_ne _ _ _ _ e]
      exact .refl _ p
  · exact State.link_updLink_ne _ _ _ _ fun e => hi (e ▸ hj)

/-- A change that leaves every link is told by the other parts it leaves. -/
theorem Touches.of_parts {ps : List Part} {s t : State} (h : ∀ p, p ∈ ps ∨ p.Same s t)
    (links : t.links = s.links := by rfl) : Touches W ps s t :=
  ⟨fun p hp => (h p).resolve_left hp, fun j _ => by rw [State.link, State.link, links]⟩

theorem touches_updCage (c : CageId) (f : Cage → Cage) (s : State) : Touches W [.cages, .lines] s (s.updCage c f) :=
  .of_parts fun p => by cases p <;> simp [Part.Same, State.cage, State.link]
theorem touches_updController (k : ControllerId) (f : Controller → Controller) (s : State) : Touches W [.controllers] s (s.updController k f) :=
  .of_parts fun p => by cases p <;> simp [Part.Same, State.cage, State.link]
theorem touches_updChannel (h : ChannelId) (f : Channel → Channel) (s : State) : Touches W [.channels] s (s.updChannel h f) :=
  .of_parts fun p => by cases p <;> simp [Part.Same, State.cage, State.link]
theorem touches_updSearch (f : SearchUnit → SearchUnit) (s : State) : Touches W [.search] s (s.updSearch f) :=
  .of_parts fun p => by cases p <;> simp [Part.Same, State.cage, State.link]
theorem touches_updSettings (f : Settings → Settings) (s : State) : Touches W [.settings, .ceiling] s (s.updSettings f) :=
  .of_parts fun p => by cases p <;> simp [Part.Same, State.cage, State.link]
theorem touches_updMemory (f : RecoveryMemory → RecoveryMemory) (s : State) : Touches W [.memory] s (s.updMemory f) :=
  .of_parts fun p => by cases p <;> simp [Part.Same, State.cage, State.link]
theorem touches_updManagement (f : ManagementEngine → ManagementEngine) (s : State) : Touches W [.management, .queue] s (s.updManagement f) :=
  .of_parts fun p => by cases p <;> simp [Part.Same, State.cage, State.link]
theorem touches_updNotices (f : NoticeUnit → NoticeUnit) (s : State) : Touches W [.notices, .pendingSet] s (s.updNotices f) :=
  .of_parts fun p => by cases p <;> simp [Part.Same, State.cage, State.link]
theorem touches_signal (x : Signal) (s : State) : Touches W [.raised] s (s.signal x) :=
  .of_parts fun p => by cases p <;> simp [Part.Same, State.cage, State.link]
theorem touches_raise (k : EventKind) (source detail : Nat) (s : State) : Touches W [.raised] s (s.raise k source detail) :=
  touches_signal ..
theorem touches_reach (m : Moment) (s : State) : Touches W [.now] s (s.reach m) :=
  .of_parts fun p => by cases p <;> simp [Part.Same, State.cage, State.link]
theorem touches_spend (s : State) : Touches W [.freeCount] s (s.spend) :=
  .of_parts fun p => by cases p <;> simp [Part.Same, State.cage, State.link]

end

end Sys2Proof.Machine
end

section
/-! PROOFS. What each shared operation may touch (log 7): the parts it changes and the links it changes them of. -/

set_option Elab.async false

namespace Sys2Proof.Machine

/-- Every link. -/
abbrev Anywhere : LinkId → Prop := fun _ => True

/-- One link alone. -/
abbrev Only (j : LinkId) : LinkId → Prop := fun i => i = j

theorem only_self (j : LinkId) : Only j j := rfl

section
variable {W : LinkId → Prop} {j : LinkId} (hj : W j)
include hj

/-! ### Egresses and pauses -/

theorem touches_toFabric (f : FabricEgress → FabricEgress) (s : State) : Touches W [.fabricSide] s (s.toFabric j f) :=
  touches_updLink s hj fun l p => by cases p <;> simp [Part.SameLink]

theorem touches_sendPause (p : PauseFrame) (s : State) : Touches W [.fabricSide] s (s.sendPause j p) :=
  touches_toFabric hj _ s

theorem touches_forwardFrame (frame : List Byte) (s : State) : Touches W [.fabricSide] s (s.forwardFrame j frame) :=
  touches_toFabric hj _ s

theorem touches_passFrame (frame : List Byte) (s : State) : Touches W [.moduleSide] s (s.passFrame j frame) :=
  touches_updLink s hj fun l p => by cases p <;> simp [Part.SameLink]

theorem touches_setPaused (k : ClassId) (t : Timer) (s : State) : Touches W [.hold] s (s.setPaused j k t) := by
  unfold State.setPaused State.updHold
  exact touches_updLink s hj fun l p => by cases p <;> simp [Part.SameLink]

theorem touches_sendClassPause (k : ClassId) (quanta : Nat) (s : State) :
    Touches W [.fabricSide] s (s.sendClassPause j k quanta) :=
  .ite (fun _ => .refl ..) fun _ => touches_sendPause hj _ s

theorem touches_pauseClass (k : ClassId) (s : State) : Touches W [.hold, .fabricSide] s (s.pauseClass j k) :=
  (touches_sendClassPause hj k _ s).trans (touches_setPaused hj k _ _)

theorem touches_pauseIfPausable (k : ClassId) (s : State) :
    Touches W [.hold, .fabricSide] s (s.pauseIfPausable j k) :=
  .ite (fun _ => touches_pauseClass hj k s) fun _ => .refl ..

theorem touches_releaseClass (k : ClassId) (s : State) : Touches W [.hold, .fabricSide] s (s.releaseClass j k) :=
  .ite (fun _ => (touches_sendClassPause hj k 0 s).trans (touches_setPaused hj k none _)) fun _ => .refl ..

theorem touches_releaseLink (s : State) : Touches W [.hold, .fabricSide] s (s.releaseLink j) :=
  .forEach fun k _ t => touches_releaseClass hj k t

theorem touches_releaseIfLow (k : ClassId) (s : State) : Touches W [.hold, .fabricSide] s (s.releaseIfLow j k) :=
  .ite (fun _ => touches_releaseClass hj k s) fun _ => .refl ..

theorem touches_tellOccupancy (k : ClassId) (s : State) : Touches W [.hold, .fabricSide] s (s.tellOccupancy j k) :=
  .ite (fun _ => touches_releaseIfLow hj k s) fun _ => .refl ..

/-! ### The park store -/

theorem touches_discard (reason : DiscardReason) (cls : Option ClassId) (length : Nat) (s : State) :
    Touches W [.counters, .slotA, .slotB, .raised] s (s.discard reason j cls length) := by
  have counted : Touches W [.counters] s (s.updCounters j fun c =>
      { c with discards := c.discards.set reason.place (saturate (c.discards.get reason.place + 1)) }) :=
    touches_updLink s hj fun l p => by cases p <;> simp [Part.SameLink]
  refine counted.trans (qs := [.slotA, .slotB, .raised]) (.of_parts fun p => ?_)
  cases p <;> simp [Part.Same, State.cage, State.link, State.discard, State.updCounters]

theorem touches_setFifo (k : ClassId) (fifo : List ParkedFrame) (s : State) :
    Touches W [.fifos] s (s.setFifo j k fifo) :=
  touches_updLink s hj fun l p => by cases p <;> simp [Part.SameLink]

theorem touches_setCritical (k : ClassId) (b : Bool) (s : State) : Touches W [.critical] s (s.setCritical j k b) :=
  touches_updLink s hj fun l p => by cases p <;> simp [Part.SameLink]

omit hj in
theorem touches_poolFree (n : Nat) (s : State) : Touches W [.poolFree] s { s with poolFree := n } :=
  .of_parts fun p => by cases p <;> simp [Part.Same, State.cage, State.link]

omit hj in
theorem touches_poolLow (b : Bool) (s : State) : Touches W [.poolLow] s { s with poolLow := b } :=
  .of_parts fun p => by cases p <;> simp [Part.Same, State.cage, State.link]

theorem touches_removeHead (k : ClassId) (s : State) : Touches W [.fifos, .poolFree] s (s.removeHead j k) := by
  unfold State.removeHead
  split
  · exact .refl ..
  · exact (touches_setFifo hj k _ s).trans (touches_poolFree _ _)

theorem touches_discardHead (k : ClassId) (f : ParkedFrame) (reason : DiscardReason) (s : State) :
    Touches W [.fifos, .poolFree, .counters, .slotA, .slotB, .raised] s (s.discardHead j k f reason) :=
  (touches_removeHead hj k s).trans (touches_discard hj reason _ _ _)

theorem touches_occupancyFell (k : ClassId) (s : State) :
    Touches W [.critical, .hold, .fabricSide] s (s.occupancyFell j k) :=
  .trans (ps := [.critical]) (.ite (fun _ => touches_setCritical hj k false s) fun _ => .refl ..)
    (touches_tellOccupancy hj k _)

omit hj in
theorem touches_poolRose (s : State) : Touches W [.poolLow] s s.poolRose :=
  .ite (fun _ => touches_poolLow false s) fun _ => .refl ..

theorem touches_displace (k : ClassId) (n fuel : Nat) (s : State) :
    Touches W [.fifos, .poolFree, .counters, .slotA, .slotB, .raised] s (s.displace j k n fuel).1 := by
  induction fuel generalizing s with
  | zero => exact .refl ..
  | succ fuel ih =>
    unfold State.displace
    split
    · exact .refl ..
    · exact .refl ..
    · exact (touches_discardHead hj k _ _ s).trans (ih _)

theorem touches_joinFifo (k : ClassId) (f : ParkedFrame) (s : State) :
    Touches W [.fifos, .poolFree, .counters] s (s.joinFifo j k f) := by
  unfold State.joinFifo State.updCounters
  exact ((touches_setFifo hj k _ s).trans (touches_poolFree _ _) (rs := [.fifos, .poolFree])).trans (qs := [.counters])
    (touches_updLink _ hj fun l p => by cases p <;> simp [Part.SameLink])

theorem touches_judgeJoined (k : ClassId) (s : State) :
    Touches W [.critical, .hold, .fabricSide, .poolLow, .raised] s (s.judgeJoined j k) := by
  have judged : Touches W [.critical, .hold, .fabricSide] s
      (if decide (s.settings.criticalLevel < s.occupancy j k) = true then
        if (s.link j).hold.service.parks then s.pauseIfPausable j k else s
      else s.occupancyFell j k) :=
    .ite (fun _ => .ite (fun _ => (touches_pauseIfPausable hj k s).mono) fun _ => .refl ..)
      fun _ => touches_occupancyFell hj k s
  refine .trans (ps := [.critical, .hold, .fabricSide, .raised]) (qs := [.poolLow, .raised])
    (.trans (ps := [.critical, .hold, .fabricSide]) judged (qs := [.critical, .raised])
      (.ite (fun _ => ?_) fun _ => .refl ..)) (.ite (fun _ => ?_) fun _ => .refl ..)
  · exact (touches_setCritical hj k true _).trans (touches_raise _ _ _ _)
  · exact (touches_poolLow true _).trans (touches_raise _ _ _ _)

/-- What the park store and the hold unit touch as frames join and leave. -/
abbrev storeParts : List Part :=
  [.fifos, .poolFree, .counters, .slotA, .slotB, .raised, .critical, .hold, .fabricSide, .poolLow]

theorem touches_park (k : ClassId) (priority : Fin 8) (frame : List Byte) (s : State) :
    Touches W storeParts s (s.park j k priority frame) := by
  have displaced := touches_displace hj k (blocksOf frame.length) (s.fifo j k).length s
  unfold State.park
  simp only
  split
  · exact (touches_discard hj _ _ _ s).mono
  · split
    · next r e =>
      rw [e] at displaced
      have u := displaced.trans (touches_discard hj r (some k) frame.length _) (rs := storeParts)
      exact .ite (fun _ => u) fun _ => (u.trans (touches_occupancyFell hj k _) (rs := storeParts)).trans
        (touches_poolRose _)
    · next t e =>
      rw [e] at displaced
      have u := (displaced.trans (touches_joinFifo hj k (s.parkRecord k priority frame) _) (rs := storeParts)).trans
        (touches_judgeJoined hj k _) (rs := storeParts)
      exact .ite (fun _ => u.trans (touches_poolRose _)) fun _ => u

theorem touches_flushClass (reason : DiscardReason) (k : ClassId) (s : State) :
    Touches W storeParts s (s.flushClass reason j k) := by
  unfold State.flushClass
  split
  · exact .refl ..
  · next f rest e =>
    have emptied := (touches_setFifo hj k [] s).trans (rs := storeParts)
      (touches_poolFree (s.poolFree + blocksIn (f :: rest)) _)
    have told := emptied.trans (rs := storeParts) (.forEach (ps := [.counters, .slotA, .slotB, .raised])
      (l := f :: rest) fun g _ t => touches_discard hj reason (some k) g.length t)
    exact (told.trans (touches_occupancyFell hj k _) (rs := storeParts)).trans (touches_poolRose _)

theorem touches_flushLink (reason : DiscardReason) (s : State) : Touches W storeParts s (s.flushLink reason j) :=
  .forEach fun k _ t => touches_flushClass hj reason k t

/-! ### The meter -/

theorem touches_updMeter (f : Meter → Meter) (s : State) : Touches W [.meter] s (s.updMeter j f) :=
  touches_updLink s hj fun l p => by cases p <;> simp [Part.SameLink]

theorem touches_updEngine (f : LinkEngine → LinkEngine) (s : State) : Touches W [.engine, .attempt] s (s.updEngine j f) :=
  touches_updLink s hj fun l p => by cases p <;> simp [Part.SameLink]

/-- An engine's change that leaves its recovery state and its attempt timers. -/
theorem touches_updEngine_rest (f : LinkEngine → LinkEngine) (s : State)
    (h : ∀ e, (f e).recovery = e.recovery ∧ (f e).adaptationTimer = e.adaptationTimer
      ∧ (f e).alignmentTimer = e.alignmentTimer) : Touches W [.engine] s (s.updEngine j f) :=
  touches_updLink s hj fun l p => by cases p <;> simp [Part.SameLink, h]

theorem touches_updHold (f : HoldState → HoldState) (s : State) : Touches W [.hold, .serving] s (s.updHold j f) :=
  touches_updLink s hj fun l p => by cases p <;> simp [Part.SameLink]

theorem touches_updCounters (f : Counters → Counters) (s : State) : Touches W [.counters] s (s.updCounters j f) :=
  touches_updLink s hj fun l p => by cases p <;> simp [Part.SameLink]

theorem touches_endReplay (s : State) : Touches W [.hold, .serving, .fabricSide, .meter] s (s.endReplay j) :=
  .ite (fun _ => ((touches_updHold hj _ s).trans (touches_releaseLink hj _)
    (rs := [.hold, .serving, .fabricSide])).trans (touches_updMeter hj _ _)) fun _ => .refl ..

theorem touches_startTransit (k : ClassId) (f : ParkedFrame) (s : State) :
    Touches W [.fifos, .poolFree, .counters, .critical, .hold, .fabricSide, .poolLow, .moduleSide] s
      (s.startTransit j k f) :=
  ((((touches_removeHead hj k s).trans (rs := [.fifos, .poolFree, .moduleSide, .counters]) (qs := [.moduleSide, .counters])
      (touches_updLink _ hj fun l p => by cases p <;> simp [Part.SameLink])).trans
    (rs := [.fifos, .poolFree, .moduleSide, .counters, .critical, .hold, .fabricSide])
    (touches_occupancyFell hj k _)).trans (touches_poolRose _))

theorem touches_judgeFrom (fuel : Nat) (s : State) :
    Touches W (storeParts ++ [.moduleSide, .meter]) s (s.judgeFrom j fuel) := by
  induction fuel generalizing s with
  | zero => exact .refl ..
  | succ fuel ih =>
    unfold State.judgeFrom
    split
    · exact .refl ..
    · next k f e =>
      split
      · exact (((touches_discardHead hj k f .stale s).trans (touches_occupancyFell hj k _)
          (rs := storeParts)).trans (touches_poolRose _) (rs := storeParts)).trans (ih _)
      · split
        · exact .refl ..
        · exact (touches_startTransit hj k f s).mono
        · exact .ite (fun _ => (touches_updMeter hj _ s).trans (touches_startTransit hj k f _)) fun _ => .refl ..

theorem touches_judge (s : State) : Touches W (storeParts ++ [.moduleSide, .meter, .serving]) s (s.judge j) :=
  .ite (fun _ => .refl ..) fun _ => .ite
    (fun _ => (touches_judgeFrom hj _ s).trans (touches_endReplay hj _)) fun _ => (touches_endReplay hj s).mono

theorem touches_startMeter (degraded : Bool) (s : State) : Touches W [.meter] s (s.startMeter j degraded) := by
  unfold State.startMeter
  exact touches_updMeter hj _ s

theorem touches_meterRecovered (s : State) : Touches W [.meter] s (s.meterRecovered j) := by
  unfold State.meterRecovered
  exact touches_updMeter hj _ s

/-! ### The link engines and the loss path -/

theorem touches_enterAdapting (seeds : Option SeedsInUse) (n : Nat) (s : State) :
    Touches W [.engine, .attempt] s (s.enterAdapting j seeds n) := by
  unfold State.enterAdapting
  exact touches_updEngine hj _ s

theorem touches_attemptFailed (cause : FailureCause) (s : State) :
    Touches W [.engine, .attempt, .raised] s (s.attemptFailed j cause) := by
  have t := touches_updEngine hj (LinkEngine.failedAttempt cause) s
  refine .ite (fun _ => ?_) fun _ => .ite (fun _ => ?_) fun _ => ?_
  · exact (t.trans (touches_raise _ _ _ _) (rs := [.engine, .attempt, .raised])).trans (touches_enterAdapting hj _ _ _)
  · exact t.trans (touches_enterAdapting hj _ _ _)
  · exact (t.trans (touches_updEngine hj _ _) (rs := [.engine, .attempt])).trans (touches_raise _ _ _ _)

theorem touches_setPenalty (f : Nat → Nat) (s : State) :
    Touches W [.penalty] s (s.updLink j fun l => { l with penalty := f l.penalty }) :=
  touches_updLink s hj fun l p => by cases p <;> simp [Part.SameLink]

theorem touches_setSuppressed (b : Bool) (s : State) :
    Touches W [.suppressed] s (s.updLink j fun l => { l with suppressed := b }) :=
  touches_updLink s hj fun l p => by cases p <;> simp [Part.SameLink]

theorem touches_addPenalty (n : Nat) (s : State) :
    Touches W [.penalty, .suppressed, .raised] s (s.addPenalty j n) := by
  have t := touches_setPenalty hj (fun _ => raisedPenalty s.settings.ceiling (s.link j).penalty n) s
  exact .ite (fun _ => (t.trans (touches_setSuppressed hj true _) (rs := [.penalty, .suppressed])).trans
    (touches_raise _ _ _ _)) fun _ => t.mono

theorem touches_startHold (n : Nat) (s : State) :
    Touches W [.hold, .serving, .fabricSide] s (s.startHold j n) :=
  .ite (fun _ => (touches_updHold hj _ s).trans (.forEach (ps := [.hold, .fabricSide]) fun k _ t =>
    touches_pauseIfPausable hj k t)) fun _ => (touches_updHold hj _ s).mono

theorem touches_shed (s : State) : Touches W (storeParts ++ [.serving]) s (s.shed j) :=
  ((touches_updHold hj _ s).trans (touches_flushLink hj _ _) (rs := storeParts ++ [.serving])).trans
    (touches_releaseLink hj _)

theorem touches_loseService (s : State) : Touches W (storeParts ++ [.serving, .meter]) s (s.loseService j) := by
  unfold State.loseService
  simp only
  have stopped : Touches W [.meter] s (s.stopMeter j) := touches_updMeter hj _ s
  split
  case h_3 | h_4 | h_5 => exact .refl ..
  all_goals exact .ite (fun _ => stopped.trans (touches_shed hj _)) fun _ => stopped.trans (touches_startHold hj _ _)

theorem touches_lossRecovery (cause : LossCause) (s : State) :
    Touches W [.engine, .attempt] s (s.lossRecovery j cause) := by
  unfold State.lossRecovery
  split
  · exact touches_enterAdapting hj _ _ s
  · exact touches_enterAdapting hj _ _ s
  all_goals exact touches_updEngine hj _ s

/-- What the loss path touches of its link and of what all links share. -/
abbrev lossParts : List Part := storeParts ++ [.serving, .meter, .engine, .attempt, .penalty, .suppressed]

theorem touches_lossPath (cause : LossCause) (s : State) : Touches W lossParts s (s.lossPath cause j) := by
  have marked : Touches W [.hold, .serving, .counters] s (s.updLink j fun l => { l with
      hold := { l.hold with lastLoss := cause }
      counters := { l.counters with losses := saturate (l.counters.losses + 1) } }) :=
    touches_updLink s hj fun l p => by cases p <;> simp [Part.SameLink]
  have lowered : ∀ t, Touches W [.penalty, .suppressed, .raised] t
      (match s.settings.incrementOf cause with | some n => t.addPenalty j n | none => t) := by
    intro t
    split
    · exact touches_addPenalty hj _ t
    · exact .refl ..
  exact (((marked.trans (lowered _) (rs := lossParts)).trans (touches_lossRecovery hj cause _) (rs := lossParts)).trans
    (touches_loseService hj _) (rs := lossParts)).trans (touches_raise _ _ _ _)

theorem touches_departBy (cause : LossCause) (s : State) : Touches W lossParts s (s.departBy cause j) :=
  .ite (fun _ => touches_lossPath hj cause s) fun _ => .refl ..

end

end Sys2Proof.Machine
end

section
/-! PROOFS. What the operations on a link's attempt, admission and windows may touch, and those of the engine, the module
buses and the search unit. -/

set_option Elab.async false

namespace Sys2Proof.Machine

section
variable {W : LinkId → Prop} {j : LinkId} (hj : W j)
include hj

/-! ### Admissions -/

/-- What an admission touches beside what frames touch as they leave. -/
abbrev admitParts : List Part :=
  storeParts ++ [.moduleSide, .meter, .serving, .engine, .attempt, .freeCount, .memory]

theorem touches_holdAdmit (degraded : Bool) (s : State) :
    Touches W (storeParts ++ [.moduleSide, .meter, .serving]) s (s.holdAdmit j degraded) := by
  have released : ∀ (b : Bool) (t : State), Touches W [.hold, .fabricSide] t
      (if b then t.forEach (State.releaseIfLow j) allClasses else t) := fun b t =>
    .ite (fun _ => .forEach fun k _ u => touches_releaseIfLow hj k u) fun _ => .refl ..
  exact ((((touches_updHold hj _ s).trans (released _ _) (rs := [.hold, .serving, .fabricSide])).trans
    (touches_startMeter hj degraded _) (rs := [.hold, .serving, .fabricSide, .meter]))).trans (touches_judge hj _)

theorem touches_refresh (s : State) : Touches W [.engine, .freeCount, .memory] s (s.refresh j) := by
  have read := (touches_updEngine_rest hj (fun e => { e with equaliser := s.heldSettings j }) s fun e =>
    ⟨rfl, rfl, rfl⟩).trans (touches_spend _) (rs := [.engine, .freeCount, .memory])
  unfold State.refresh
  simp only
  split
  · exact read
  · exact read.trans (touches_updMemory _ _)

theorem touches_admitLink (grade : Grade) (announced : Bool) (s : State) :
    Touches W admitParts s (s.admitLink j grade announced) := by
  have told : ∀ (b : Bool) (k : EventKind) (t : State), Touches W [.raised] t (if b then t.raise k j.val else t) :=
    fun b k t => .ite (fun _ => touches_raise ..) fun _ => .refl ..
  exact ((((touches_updEngine hj _ s).trans (told _ _ _) (rs := [.engine, .attempt, .raised])).trans (told _ _ _)
    (rs := [.engine, .attempt, .raised])).trans (touches_refresh hj _)
    (rs := [.engine, .attempt, .raised, .freeCount, .memory])).trans (touches_holdAdmit hj _ _)

theorem touches_proceed (s : State) : Touches W admitParts s (s.proceed j) :=
  .ite (fun _ => (touches_updEngine hj _ s).mono) fun _ => touches_admitLink hj _ _ s

theorem touches_completeQualification (s : State) : Touches W admitParts s (s.completeQualification j) := by
  have stored : ∀ (p : Option PeerIdentity) (t : State), Touches W [.memory] t
      (match p with | some p => t.setPeer j (some p) | none => t) := fun p t => by
    split
    · exact touches_updMemory ..
    · exact .refl ..
  have told : ∀ (k : Option EventKind) (t : State), Touches W [.raised] t
      (match k with | some k => t.raise k j.val | none => t) := fun k t => by
    split
    · exact touches_raise ..
    · exact .refl ..
  have checked := fun v : PeerVerdict => ((touches_updEngine hj (fun e =>
    { e with probeTimer := none, grade := if e.marginal then .degraded else .full }) s).trans (stored v.store _)
    (rs := [.engine, .attempt, .memory])).trans (told v.event _) (rs := [.engine, .attempt, .memory, .raised])
  exact .ite (fun _ => (checked _).trans (touches_proceed hj _)) fun _ => (checked _).trans (touches_updEngine hj _ _)

/-! ### Windows -/

theorem touches_qualFailed (s : State) :
    Touches W [.engine, .attempt, .penalty, .suppressed, .raised] s (s.qualFailed j) :=
  ((touches_raise _ _ _ s).trans (touches_addPenalty hj _ _) (rs := [.penalty, .suppressed, .raised])).trans
    (touches_attemptFailed hj _ _)

theorem touches_clearDegraded (s : State) : Touches W [.engine, .raised, .meter] s (s.clearDegraded j) :=
  ((touches_updEngine_rest hj (fun e => { e with degraded := false }) s fun e => ⟨rfl, rfl, rfl⟩).trans
    (touches_raise ..) (rs := [.engine, .raised])).trans
    (touches_meterRecovered hj _)

omit hj in
theorem LinkEngine.countVerdict_attempt (e : LinkEngine) (v : Verdict) : (e.countVerdict v).recovery = e.recovery
    ∧ (e.countVerdict v).adaptationTimer = e.adaptationTimer ∧ (e.countVerdict v).alignmentTimer = e.alignmentTimer := by
  cases v <;> exact ⟨rfl, rfl, rfl⟩

/-! ### Lock -/

theorem touches_sendProbe (s : State) : Touches W [.probeSent] s (s.sendProbe j) := by
  unfold State.sendProbe
  exact touches_updLink s hj fun l p => by cases p <;> simp [Part.SameLink]

theorem touches_enterQualifying (s : State) : Touches W [.engine, .attempt, .probeSent] s (s.enterQualifying j) :=
  (touches_updEngine hj _ s).trans (touches_sendProbe hj _)

theorem touches_judgeWhole (s : State) : Touches W [.engine] s (s.judgeWhole j) := by
  unfold State.judgeWhole
  exact touches_updEngine_rest hj _ s fun e => by split <;> exact ⟨rfl, rfl, rfl⟩

theorem touches_confirmLoss (s : State) : Touches W lossParts s (s.confirmLoss j) := by
  unfold State.confirmLoss
  split
  · exact (touches_attemptFailed hj _ s).mono
  · exact (touches_attemptFailed hj _ s).mono
  · exact touches_lossPath hj _ s
  · exact touches_lossPath hj _ s
  · exact touches_lossPath hj _ s
  all_goals exact .refl ..

theorem touches_lockLost (s : State) : Touches W lossParts s (s.lockLost j) :=
  .ite (fun _ => .refl ..) fun _ => .ite (fun _ => touches_confirmLoss hj s) fun _ => (touches_updEngine hj _ s).mono

theorem touches_measureSkew (s : State) : Touches W [.engine, .attempt, .raised] s (s.measureSkew j) := by
  unfold State.measureSkew
  simp only
  have measured := touches_updEngine hj (fun e =>
    { e with measuredSkew := some (skewOf ((s.moduleLanes j).map (s.link j).engine.markerOffset.get)) }) s
  split
  · exact measured.trans (touches_attemptFailed hj _ _)
  · exact measured.trans (touches_updEngine hj _ _)

/-! ### Fabric layout -/

theorem touches_slotUnused (s : State) :
    Touches W (storeParts ++ [.engine, .attempt, .serving]) s (s.slotUnused j) := by
  unfold State.slotUnused
  refine .trans (ps := storeParts ++ [.engine, .attempt, .serving]) (.trans (ps := [.engine, .attempt, .hold, .serving])
    (touches_updLink s hj fun l p => ?_) (touches_flushLink hj .flushed _)) (touches_releaseLink hj _)
  cases p <;> simp [Part.SameLink]

theorem touches_slotUsed (s : State) : Touches W [.engine, .attempt, .hold, .serving] s (s.slotUsed j) := by
  unfold State.slotUsed
  exact touches_updLink s hj fun l p => by cases p <;> simp [Part.SameLink]

theorem touches_relayout (old new : Layout) (s : State) :
    Touches W (storeParts ++ [.engine, .attempt, .serving]) s (s.relayout old new j) := by
  unfold State.relayout
  split
  · exact touches_slotUnused hj s
  · exact (touches_slotUsed hj s).mono
  all_goals exact .refl ..

theorem touches_makeOff (s : State) : Touches W [.hold, .serving, .meter] s (s.makeOff j) :=
  (touches_updMeter hj _ s).trans (touches_updHold hj _ _)

end

/-! ### The management engine -/

section
variable {W : LinkId → Prop}

theorem touches_sendReply {r : Request} (hr : ∀ j, r.port = .fabric j → W j) (o : RequestOutcome) (fields : List Nat)
    (data : List Byte) (s : State) : Touches W [.service, .fabricSide] s (s.sendReply r o fields data) := by
  unfold State.sendReply
  simp only
  split
  · exact .of_parts fun p => by cases p <;> simp [Part.Same, State.cage, State.link]
  · next j e => exact (touches_toFabric (hr j e) _ s).mono

/-- What the engine touches as it answers and takes requests. -/
abbrev replyParts : List Part := [.service, .fabricSide, .management, .queue]

theorem touches_takeFrom (queue : List Request) (s : State) : Touches Anywhere replyParts s (s.takeFrom queue) := by
  induction queue generalizing s with
  | nil => exact (touches_updManagement _ s).mono
  | cons r rest ih =>
    unfold State.takeFrom
    split
    · exact (touches_updManagement _ s).mono
    · exact (touches_sendReply (fun _ _ => trivial) _ _ _ s).trans (ih _)

theorem touches_takeNext (s : State) : Touches Anywhere replyParts s s.takeNext :=
  .ite (fun _ => .refl ..) fun _ => touches_takeFrom _ s

theorem touches_arrive (r : Request) (s : State) : Touches Anywhere replyParts s (s.arrive r) :=
  .ite (fun _ => (touches_sendReply (fun _ _ => trivial) _ _ _ s).mono) fun _ =>
    (touches_updManagement _ s).trans (touches_takeNext _)

theorem touches_respond (o : RequestOutcome) (fields : List Nat) (data : List Byte) (s : State) :
    Touches Anywhere replyParts s (s.respond o fields data) := by
  unfold State.respond
  split
  · exact .refl ..
  · next e _ => exact ((touches_sendReply (r := e.request) (fun _ _ => trivial) o fields data s).trans
      (touches_updManagement _ _) (rs := replyParts)).trans (touches_takeNext _)

theorem touches_holdEngine (s : State) : Touches W [.management] s s.holdEngine :=
  .of_parts fun p => by cases p <;> simp [Part.Same, State.cage, State.link, State.holdEngine]

theorem touches_receive (i : Instr) (s : State) : Touches Anywhere replyParts s (s.receive i) := by
  unfold State.receive
  split
  · exact .refl ..
  · split
    · exact .refl ..
    · exact touches_arrive _ s

/-! ### The module buses -/

/-- A cage's change that leaves what its laws read. -/
theorem touches_updCage_rest (c : CageId) (f : Cage → Cage) (s : State) (h : (f (s.cage c)).lines = (s.cage c).lines) :
    Touches W [.cages] s (s.updCage c f) := by
  refine .of_parts fun p => ?_
  cases p
  case lines =>
    refine .inr fun d => ?_
    by_cases e : c = d
    · subst e
      rw [State.cage_updCage_self, h]
    · rw [State.cage_updCage_ne _ _ _ _ e]
  all_goals simp [Part.Same, State.link]

theorem touches_startTransaction (k : ControllerId) (r : BusRequest) (s : State) :
    Touches W [.controllers] s (s.startTransaction k r) := touches_updController ..

theorem touches_startPassThrough (k : ControllerId) (r : BusRequest) (s : State) :
    Touches W [.controllers] s (s.startPassThrough k r) :=
  (touches_updController ..).trans (touches_startTransaction ..)

theorem touches_startCageRequest (k : ControllerId) (p : Fin 4) (r : BusRequest) (s : State) :
    Touches W [.cages, .controllers] s (s.startCageRequest k p r) :=
  ((touches_updController ..).trans (touches_updCage_rest _ _ _ rfl) (rs := [.cages, .controllers])).trans
    (touches_startTransaction ..)

theorem touches_chooseBus (k : ControllerId) (s : State) : Touches W [.cages, .controllers] s (s.chooseBus k) := by
  unfold State.chooseBus
  simp only
  split
  · exact .refl ..
  · split
    · exact (touches_startPassThrough ..).mono
    · exact .ite (fun _ => (touches_startPassThrough ..).mono) fun _ => touches_startCageRequest ..
    · exact touches_startCageRequest ..
    · exact .refl ..

theorem touches_placeRead (c : CageId) (purpose : Purpose) (page offset : Byte) (length : Nat) (s : State) :
    Touches W [.cages, .controllers] s (s.placeRead c purpose page offset length) :=
  (touches_updCage_rest _ _ s rfl).trans (touches_chooseBus ..)

theorem touches_placePassThrough (r : BusRequest) (s : State) :
    Touches W [.cages, .controllers] s (s.placePassThrough r) :=
  (touches_updController ..).trans (touches_chooseBus ..)

theorem touches_dropRequests (c : CageId) (s : State) : Touches W [.cages, .controllers] s (s.dropRequests c) :=
  (touches_updCage_rest _ _ s rfl).trans (touches_updController ..)

theorem touches_forgetPage (c : CageId) (s : State) :
    Touches W [.cages, .controllers, .freeCount] s (s.forgetPage c) :=
  ((touches_updCage_rest _ _ s rfl).trans (touches_updController ..) (rs := [.cages, .controllers])).trans
    (touches_spend _)

theorem touches_forgetLocation (c : CageId) (s : State) :
    Touches W [.cages, .controllers, .freeCount] s (s.forgetLocation c) :=
  (touches_forgetPage c s).trans (touches_updController ..)

theorem touches_forgetAtReset (c : CageId) (s : State) :
    Touches W [.cages, .controllers, .freeCount] s (s.forgetAtReset c) :=
  .ite (fun _ => .refl ..) fun _ => touches_forgetPage c s

theorem touches_nextAttempt (k : ControllerId) (t : Transaction) (selected : Bool) (s : State) :
    Touches W [.cages, .controllers] s (s.nextAttempt k t selected) := by
  unfold State.nextAttempt
  exact (touches_updCage_rest _ _ s rfl).trans (touches_updController ..)

/-! ### The search unit -/

theorem touches_chooseSearch (s : State) : Touches W [.search] s s.chooseSearch := by
  unfold State.chooseSearch
  split
  · exact .refl ..
  · split
    · exact .refl ..
    · exact touches_updSearch ..

theorem touches_leaveSearch (c : CageId) (s : State) : Touches W [.search] s (s.leaveSearch c) := touches_updSearch ..

end

end Sys2Proof.Machine
end

section
/-! PROOFS. What every change keeps: the invariants as one relation between the states before and after a change, and the
changes that no invariant reads. -/

set_option Elab.async false

namespace Sys2Proof.Machine

/-! ### The laws of a link, without its cage's state -/

/-- The laws of a link on a slot that is active or not, but for what they ask of it outside SERVING and of its recovery
state in PASS and REPLAY: what holds in the midst of a loss. -/
structure Link.Near (active : Bool) (l : Link) : Prop where
  active : l.engine.recovery = .inactive ↔ active = false
  unused : l.engine.recovery = .inactive → l.hold.service = .off
  metered : l.meter.mode ≠ .stopped → l.hold.service = .replay
  ramping : l.meter.rampTimer.isSome → l.meter.mode ≠ .stopped
  held : l.hold.holdTimer.isSome → l.hold.service = .hold
  adapting : l.engine.adaptationTimer.isSome → l.engine.recovery = .adapting
  aligning : l.engine.alignmentTimer.isSome → l.engine.recovery = .aligning

/-- The laws of a link on a slot that is active or not, but for what they ask of it outside SERVING. -/
structure Link.Fits (active : Bool) (l : Link) : Prop extends l.Near active where
  admitted : l.hold.service = .pass ∨ l.hold.service = .replay → l.engine.recovery = .up

/-- A link that has not left DOWN. -/
def Link.Rests (l : Link) : Prop := l.engine.recovery = .inactive ∨ l.engine.recovery = .down

/-- The device is lawful but for the links of some cages, which may still work though their cage has left SERVING: what holds
while a departure runs. -/
structure State.LawfulBut (leaving : CageId → Prop) (s : State) : Prop where
  cages : s.CagesLawful
  fits : ∀ j, (s.link j).Fits (s.isActive j)
  outside : ∀ j, ¬ leaving (cageOf j) → (s.cage (cageOf j)).mode ≠ .serving → (s.link j).Rests

theorem State.lawful_iff (s : State) : s.Lawful ↔ s.LawfulBut fun _ => False := by
  constructor
  · rintro ⟨cages, links⟩
    exact ⟨cages, fun j => ⟨⟨(links j).active, (links j).unused, (links j).metered, (links j).ramping, (links j).held,
      (links j).adapting, (links j).aligning⟩, (links j).admitted⟩, fun j _ => (links j).outside⟩
  · rintro ⟨cages, fits, outside⟩
    exact ⟨cages, fun j => ⟨(fits j).active, (fits j).unused, outside j (by simp), (fits j).admitted, (fits j).metered,
      (fits j).ramping, (fits j).held, (fits j).adapting, (fits j).aligning⟩⟩

/-! ### Keeping every invariant -/

/-- A change keeps each invariant that holds before it, but for the laws of cages and links. -/
structure KeepsData (s t : State) : Prop where
  pool : s.poolConserved → t.poolConserved
  bounded : s.Bounded → t.Bounded
  reported : s.Reported → t.Reported
  single : s.memory.Single → t.memory.Single
  ordered : s.table.Ordered → t.table.Ordered

/-- A change keeps each invariant that holds before it. -/
structure Keeps (s t : State) : Prop extends KeepsData s t where
  lawful : ∀ leaving, s.LawfulBut leaving → t.LawfulBut leaving

section
variable {s t u : State}

theorem KeepsData.refl (s : State) : KeepsData s s := ⟨id, id, id, id, id⟩

theorem KeepsData.trans (h : KeepsData s t) (g : KeepsData t u) : KeepsData s u :=
  ⟨g.pool ∘ h.pool, g.bounded ∘ h.bounded, g.reported ∘ h.reported, g.single ∘ h.single, g.ordered ∘ h.ordered⟩

theorem KeepsData.ite {p : Prop} [Decidable p] (h : p → KeepsData s t) (g : ¬ p → KeepsData s u) :
    KeepsData s (if p then t else u) := by
  split
  · next c => exact h c
  · next c => exact g c

theorem Keeps.refl (s : State) : Keeps s s := ⟨.refl s, fun _ => id⟩

theorem Keeps.trans (h : Keeps s t) (g : Keeps t u) : Keeps s u :=
  ⟨h.toKeepsData.trans g.toKeepsData, fun c => g.lawful c ∘ h.lawful c⟩

theorem Keeps.ite {p : Prop} [Decidable p] (h : p → Keeps s t) (g : ¬ p → Keeps s u) :
    Keeps s (if p then t else u) := by
  split
  · next c => exact h c
  · next c => exact g c

theorem KeepsData.forEach {α : Type} {f : α → State → State} {l : List α} (h : ∀ x ∈ l, ∀ t, KeepsData t (f x t)) :
    KeepsData s (s.forEach f l) := by
  induction l generalizing s with
  | nil => exact refl s
  | cons x rest ih => exact (h x (by simp) s).trans (ih fun y hy => h y (by simp [hy]))

theorem Keeps.forEach {α : Type} {f : α → State → State} {l : List α} (h : ∀ x ∈ l, ∀ t, Keeps t (f x t)) :
    Keeps s (s.forEach f l) := by
  induction l generalizing s with
  | nil => exact refl s
  | cons x rest ih => exact (h x (by simp) s).trans (ih fun y hy => h y (by simp [hy]))

end

/-! ### What each invariant reads -/

section
variable {W : LinkId → Prop} {ps : List Part} {s t : State}

theorem ParkState.occupancy_of_fifos {p q : ParkState} (h : q.fifos = p.fifos) : q.occupancy = p.occupancy := by
  rw [ParkState.occupancy, ParkState.occupancy, h]

theorem State.poolConserved_of_same (free : t.poolFree = s.poolFree)
    (fifos : ∀ j, (t.link j).park.fifos = (s.link j).park.fifos) (h : s.poolConserved) : t.poolConserved := by
  rw [State.poolConserved, State.blocksHeld, free]
  have same : (fun j => (t.link j).park.occupancy) = fun j => (s.link j).park.occupancy :=
    funext fun j => ParkState.occupancy_of_fifos (fifos j)
  rw [same]
  exact h

theorem State.Bounded.of_same (h : s.Bounded) (queue : t.management.queue = s.management.queue)
    (ceiling : t.settings.ceiling = s.settings.ceiling) (decay : t.settings.decayFactor = s.settings.decayFactor)
    (penalty : ∀ j, (t.link j).penalty = (s.link j).penalty) (meter : ∀ j, (t.link j).meter = (s.link j).meter) :
    t.Bounded := by
  obtain ⟨hq, hc, hd, hp, ht, hs⟩ := h
  exact ⟨queue ▸ hq, ceiling ▸ hc, decay ▸ hd, fun j => by rw [penalty, ceiling]; exact hp j,
    fun j => by rw [meter]; exact ht j, fun j => by rw [meter]; exact hs j⟩

theorem State.Reported.of_same (h : s.Reported) (levels : t.notices.levels = s.notices.levels)
    (entries : t.notices.entries = s.notices.entries) (channels : t.channels = s.channels) : t.Reported := by
  obtain ⟨hp, hl, hc, ha, hd, hs⟩ := h
  refine ⟨entries ▸ hp, fun e he => ?_, entries ▸ hc, ?_, ?_, ?_⟩
  · rw [levels]
    exact hl e (entries ▸ he)
  all_goals simpa only [State.channel, channels]

/-- A cage with the lines of a lawful cage is lawful. -/
theorem Cage.Lawful.of_lines {m n : Cage} (h : m.Lawful) (lines : n.lines = m.lines) : n.Lawful := by
  simp only [Cage.lines, Prod.mk.injEq, List.cons.injEq, and_true] at lines
  obtain ⟨mode, reset, low, ⟨seating, ready, guard, powerUp, poll⟩, _⟩ := lines
  obtain ⟨h1, h2, h3, h4, h5, h6, h7⟩ := h
  exact ⟨by rw [reset, mode, h1], by rw [low, mode, guard, h2], by rwa [seating, mode], by rwa [ready, mode],
    by rwa [guard, mode], by rwa [powerUp, mode], by rwa [poll, mode]⟩

theorem Cage.mode_of_lines {m n : Cage} (lines : n.lines = m.lines) : n.mode = m.mode := (Prod.ext_iff.mp lines).1

theorem Cage.layout_of_lines {m n : Cage} (lines : n.lines = m.lines) : n.fabricLayout = m.fabricLayout :=
  congrArg (·.2.2.2.2) lines

/-- The recovery state, the attempt timers, the service state, the hold timer and the meter of a link are another's. -/
structure Link.Like (l m : Link) : Prop where
  recovery : m.engine.recovery = l.engine.recovery
  adaptation : m.engine.adaptationTimer = l.engine.adaptationTimer
  alignment : m.engine.alignmentTimer = l.engine.alignmentTimer
  service : m.hold.service = l.hold.service
  timer : m.hold.holdTimer = l.hold.holdTimer
  meter : m.meter = l.meter

theorem Link.Like.near {active : Bool} {l m : Link} (e : l.Like m) (h : l.Near active) : m.Near active := by
  obtain ⟨h1, h2, h3, h4, h5, h6, h7⟩ := h
  obtain ⟨recovery, adaptation, alignment, service, timer, meter⟩ := e
  exact ⟨by rwa [recovery], by rwa [recovery, service], by rwa [meter, service],
    by rwa [meter], by rwa [timer, service], by rwa [adaptation, recovery], by rwa [alignment, recovery]⟩

theorem Link.Like.fits {active : Bool} {l m : Link} (e : l.Like m) (h : l.Fits active) : m.Fits active :=
  ⟨e.near h.toNear, by rw [e.service, e.recovery]; exact h.admitted⟩

theorem Link.Like.rests {l m : Link} (e : l.Like m) (h : l.Rests) : m.Rests := by
  rwa [Link.Rests, e.recovery]

theorem State.isActive_of_lines (lines : ∀ c, (t.cage c).lines = (s.cage c).lines) (j : LinkId) :
    t.isActive j = s.isActive j := by
  rw [State.isActive, State.isActive, State.linkLayout, State.linkLayout, Cage.layout_of_lines (lines _)]

theorem Touches.poolConserved (h : Touches W ps s t) (hs : s.poolConserved)
    (n : ∀ p ∈ [Part.poolFree, .fifos], p ∉ ps := by decide) : t.poolConserved :=
  State.poolConserved_of_same (h.poolFree (n _ (by decide))) (fun j => h.fifos j (n _ (by decide))) hs

theorem Touches.bounded (h : Touches W ps s t) (hs : s.Bounded)
    (n : ∀ p ∈ [Part.queue, .ceiling, .penalty, .meter], p ∉ ps := by decide) : t.Bounded :=
  have ceiling := h.same .ceiling (n _ (by decide))
  hs.of_same (h.queue (n _ (by decide))) ceiling.1 ceiling.2 (fun j => h.penalty j (n _ (by decide)))
    fun j => h.meter j (n _ (by decide))

theorem Touches.reported (h : Touches W ps s t) (hs : s.Reported)
    (n : ∀ p ∈ [Part.pendingSet, .channels], p ∉ ps := by decide) : t.Reported :=
  have pending := h.same .pendingSet (n _ (by decide))
  hs.of_same pending.1 pending.2 (h.channels (n _ (by decide)))

theorem Touches.like (h : Touches W ps s t) (j : LinkId) (a : .attempt ∉ ps := by decide)
    (v : .serving ∉ ps := by decide) (m : .meter ∉ ps := by decide) : (s.link j).Like (t.link j) :=
  have attempt := h.same .attempt a j
  have serving := h.same .serving v j
  ⟨attempt.1, attempt.2.1, attempt.2.2, serving.1, serving.2.1, h.meter j m⟩

theorem Touches.lawfulBut {leaving : CageId → Prop} (h : Touches W ps s t) (hs : s.LawfulBut leaving)
    (n : ∀ p ∈ [Part.lines, .attempt, .serving, .meter], p ∉ ps := by decide) : t.LawfulBut leaving := by
  obtain ⟨cages, fits, outside⟩ := hs
  have lines := h.same .lines (n _ (by decide))
  have like := fun j => h.like j (n _ (by decide)) (n _ (by decide)) (n _ (by decide))
  refine ⟨fun c => (cages c).of_lines (lines c), fun j => ?_, fun j hj hm => (like j).rests ?_⟩
  · rw [State.isActive_of_lines lines]
    exact (like j).fits (fits j)
  · rw [Cage.mode_of_lines (lines _)] at hm
    exact outside j hj hm

theorem Touches.single (h : Touches W ps s t) (hs : s.memory.Single) (n : .memory ∉ ps := by decide) :
    t.memory.Single := h.memory n ▸ hs

theorem Touches.ordered (h : Touches W ps s t) (hs : s.table.Ordered) (n : .entries ∉ ps := by decide) :
    t.table.Ordered := by
  rwa [ProfileTable.Ordered, show t.table.entries = s.table.entries from h.same .entries n]

/-- The parts that the invariants read, but for the laws of cages and links. -/
abbrev dataParts : List Part :=
  [.poolFree, .fifos, .queue, .ceiling, .penalty, .meter, .pendingSet, .channels, .memory, .entries]

/-- The parts that the laws of cages and links read. -/
abbrev lawParts : List Part := [.lines, .attempt, .serving, .meter]

theorem Touches.keepsData (h : Touches W ps s t) (n : ∀ p ∈ dataParts, p ∉ ps := by decide) : KeepsData s t where
  pool hs := h.poolConserved hs fun p hp => n p (by revert p; decide)
  bounded hs := h.bounded hs fun p hp => n p (by revert p; decide)
  reported hs := h.reported hs fun p hp => n p (by revert p; decide)
  single hs := h.single hs (n _ (by decide))
  ordered hs := h.ordered hs (n _ (by decide))

/-- A change of parts that no invariant reads keeps them all. -/
theorem Touches.keeps (h : Touches W ps s t) (n : ∀ p ∈ dataParts ++ lawParts, p ∉ ps := by decide) : Keeps s t where
  toKeepsData := h.keepsData fun p hp => n p (by simp only [List.mem_append]; exact .inl hp)
  lawful _ hs := h.lawfulBut hs fun p hp => n p (by simp only [List.mem_append]; exact .inr hp)

end

end Sys2Proof.Machine
end

section
/-! PROOFS. The park store keeps the blocks of the pool, and its operations keep every invariant (R133, R136, R141). -/

set_option Elab.async false

namespace Sys2Proof.Machine

/-! ### Sums with one term changed -/

theorem sum_finRange_change {n : Nat} (f g : Fin n → Nat) (j : Fin n) (h : ∀ i, i ≠ j → g i = f i) :
    ((List.finRange n).map g).sum + f j = ((List.finRange n).map f).sum + g j := by
  have others : ∑ i ∈ Finset.univ.erase j, g i = ∑ i ∈ Finset.univ.erase j, f i :=
    Finset.sum_congr rfl fun i hi => h i (Finset.ne_of_mem_erase hi)
  rw [← Fin.sum_univ_def, ← Fin.sum_univ_def, ← Finset.add_sum_erase _ g (Finset.mem_univ j),
    ← Finset.add_sum_erase _ f (Finset.mem_univ j), others]
  omega

/-- A class FIFO replaced: the link's occupancy changes by that class's. -/
theorem ParkState.occupancy_set {p q : ParkState} (k : ClassId) (fifo : List ParkedFrame)
    (h : q.fifos = p.fifos.set k fifo) : q.occupancy + blocksIn (p.fifos.get k) = p.occupancy + blocksIn fifo := by
  have changed := sum_finRange_change (fun i => blocksIn (p.fifos.get i)) (fun i => blocksIn (q.fifos.get i)) k
    fun i hi => by rw [h, Bank.get_set_ne _ _ _ _ hi.symm]
  simpa only [h, Bank.get_set_self, ParkState.occupancy] using changed

/-- Frames that move between one link's store and the pool, with as many blocks as the pool gains, conserve it. -/
theorem State.poolConserved_of_link {s t : State} (j : LinkId) (elsewhere : ∀ i, i ≠ j → t.link i = s.link i)
    (moved : t.poolFree + (t.link j).park.occupancy = s.poolFree + (s.link j).park.occupancy) (h : s.poolConserved) :
    t.poolConserved := by
  have changed : t.blocksHeld + (s.link j).park.occupancy = s.blocksHeld + (t.link j).park.occupancy :=
    sum_finRange_change (fun i => (s.link i).park.occupancy) (fun i => (t.link i).park.occupancy) j
      fun i hi => by rw [elsewhere i hi]
  simp only [State.poolConserved] at h ⊢
  omega

/-! ### Frames leave and join -/

/-- A FIFO replaced with as many blocks moved to or from the pool keeps every invariant. -/
theorem keeps_setFifo (j : LinkId) (k : ClassId) (fifo : List ParkedFrame) (free : Nat) (s : State)
    (moved : free + blocksIn fifo = s.poolFree + blocksIn (s.fifo j k)) :
    Keeps s { s.setFifo j k fifo with poolFree := free } := by
  have touched : Touches (Only j) [.fifos, .poolFree] s { s.setFifo j k fifo with poolFree := free } :=
    (touches_setFifo (only_self j) k fifo s).trans (ps := [.fifos]) (qs := [.poolFree]) (touches_poolFree free _)
  refine ⟨⟨fun h => ?_, fun h => touched.bounded h, fun h => touched.reported h, fun h => touched.single h,
    fun h => touched.ordered h⟩, fun _ h => touched.lawfulBut h⟩
  refine State.poolConserved_of_link j touched.elsewhere ?_ h
  have set : (({ s.setFifo j k fifo with poolFree := free } : State).link j).park.fifos
      = (s.link j).park.fifos.set k fifo := by
    show ((s.setFifo j k fifo).link j).park.fifos = _
    rw [State.setFifo, State.link_updLink_self]
  have changed := ParkState.occupancy_set k fifo set
  rw [State.fifo] at moved
  show free + _ = _
  omega

theorem keeps_removeHead (j : LinkId) (k : ClassId) (s : State) : Keeps s (s.removeHead j k) := by
  unfold State.removeHead
  split
  · exact .refl s
  · next f rest e => exact keeps_setFifo j k rest _ s (by simp [e, blocksIn]; omega)

theorem keeps_discard (reason : DiscardReason) (j : LinkId) (cls : Option ClassId) (length : Nat) (s : State) :
    Keeps s (s.discard reason j cls length) :=
  (touches_discard (W := Anywhere) trivial reason cls length s).keeps

theorem keeps_discardHead (j : LinkId) (k : ClassId) (f : ParkedFrame) (reason : DiscardReason) (s : State) :
    Keeps s (s.discardHead j k f reason) :=
  (keeps_removeHead j k s).trans (keeps_discard ..)

theorem keeps_occupancyFell (j : LinkId) (k : ClassId) (s : State) : Keeps s (s.occupancyFell j k) :=
  (touches_occupancyFell (W := Anywhere) trivial k s).keeps

theorem keeps_poolRose (s : State) : Keeps s s.poolRose := (touches_poolRose (W := Anywhere) s).keeps

theorem keeps_displace (j : LinkId) (k : ClassId) (n fuel : Nat) (s : State) : Keeps s (s.displace j k n fuel).1 := by
  induction fuel generalizing s with
  | zero => exact .refl s
  | succ fuel ih =>
    unfold State.displace
    split
    · exact .refl s
    · exact .refl s
    · exact (keeps_discardHead ..).trans (ih _)

/-- Displacements that leave no condition leave blocks enough in the pool (R136). -/
theorem parkBar_of_displace {j : LinkId} {k : ClassId} {n fuel : Nat} {s t : State}
    (h : s.displace j k n fuel = (t, none)) : t.parkBar j k n = none := by
  induction fuel generalizing s with
  | zero =>
    rw [State.displace, Prod.mk.injEq] at h
    rw [← h.1, h.2]
  | succ fuel ih =>
    unfold State.displace at h
    split at h
    · next e => rw [← (Prod.mk.inj h).1, e]
    · exact absurd (Prod.mk.inj h).2 (by simp)
    · exact ih h

theorem le_poolFree_of_parkBar {j : LinkId} {k : ClassId} {n : Nat} {s : State} (h : s.parkBar j k n = none) :
    n ≤ s.poolFree := by
  unfold State.parkBar at h
  split at h
  · simp at h
  · split at h
    · simp at h
    · split at h
      · simp at h
      · omega

theorem keeps_joinFifo (j : LinkId) (k : ClassId) (f : ParkedFrame) (s : State) (fits : f.blocks ≤ s.poolFree) :
    Keeps s (s.joinFifo j k f) := by
  unfold State.joinFifo
  refine (keeps_setFifo j k (s.fifo j k ++ [f]) (s.poolFree - f.blocks) s ?_).trans
    (touches_updCounters (W := Anywhere) trivial _ _).keeps
  simp only [blocksIn, List.map_append, List.sum_append, List.map_cons, List.map_nil, List.sum_cons, List.sum_nil]
  omega

theorem keeps_park (j : LinkId) (k : ClassId) (priority : Fin 8) (frame : List Byte) (s : State) :
    Keeps s (s.park j k priority frame) := by
  have displaced := keeps_displace j k (blocksOf frame.length) (s.fifo j k).length s
  unfold State.park
  simp only
  split
  · exact keeps_discard ..
  · split
    · next r e =>
      rw [e] at displaced
      have u := displaced.trans (keeps_discard r j (some k) frame.length _)
      exact .ite (fun _ => u) fun _ => (u.trans (keeps_occupancyFell ..)).trans (keeps_poolRose _)
    · next t e =>
      rw [e] at displaced
      have fits := le_poolFree_of_parkBar (parkBar_of_displace e)
      have u := (displaced.trans (keeps_joinFifo j k (s.parkRecord k priority frame) t fits)).trans
        (touches_judgeJoined (W := Anywhere) (j := j) trivial k _).keeps
      exact .ite (fun _ => u.trans (keeps_poolRose _)) fun _ => u

theorem keeps_flushClass (reason : DiscardReason) (j : LinkId) (k : ClassId) (s : State) :
    Keeps s (s.flushClass reason j k) := by
  unfold State.flushClass
  split
  · exact .refl s
  · next f rest e =>
    have emptied := keeps_setFifo j k [] (s.poolFree + blocksIn (f :: rest)) s (by simp [e, blocksIn])
    exact ((emptied.trans (.forEach fun g _ t => keeps_discard ..)).trans (keeps_occupancyFell ..)).trans
      (keeps_poolRose _)

theorem keeps_flushLink (reason : DiscardReason) (j : LinkId) (s : State) : Keeps s (s.flushLink reason j) :=
  .forEach fun k _ t => keeps_flushClass reason j k t

theorem keeps_releaseLink (j : LinkId) (s : State) : Keeps s (s.releaseLink j) :=
  (touches_releaseLink (W := Anywhere) trivial s).keeps

theorem keeps_startTransit (j : LinkId) (k : ClassId) (f : ParkedFrame) (s : State) :
    Keeps s (s.startTransit j k f) := by
  unfold State.startTransit
  have left : ∀ t : State, Touches Anywhere [.moduleSide, .counters] t (t.updLink j fun l => { l with
      moduleSide := { l.moduleSide with transit := some f.frame }
      counters := { l.counters with replayed := saturate (l.counters.replayed + 1) } }) := fun t =>
    touches_updLink t trivial fun l p => by cases p <;> simp [Part.SameLink]
  exact (((keeps_removeHead j k s).trans (left _).keeps).trans (keeps_occupancyFell ..)).trans (keeps_poolRose _)

end Sys2Proof.Machine
end

section
/-! PROOFS. The link engines, the hold unit and the meter keep every invariant (R49, R75, R81, R83, R106, R113, R116, R146). -/

set_option Elab.async false

namespace Sys2Proof.Machine

/-! ### One link changed -/

/-- A link that fits wherever another does, and rests where it does. -/
def Link.Follows (l m : Link) : Prop := ∀ a, l.Fits a → m.Fits a ∧ (l.Rests → m.Rests)

section
variable {l m n : Link}

theorem Link.Follows.refl (l : Link) : l.Follows l := fun _ h => ⟨h, id⟩

theorem Link.Follows.trans (h : l.Follows m) (g : m.Follows n) : l.Follows n := fun a hl =>
  ⟨(g a (h a hl).1).1, (g a (h a hl).1).2 ∘ (h a hl).2⟩

theorem Link.Like.refl (l : Link) : l.Like l := ⟨rfl, rfl, rfl, rfl, rfl, rfl⟩

theorem Link.Like.trans (h : l.Like m) (g : m.Like n) : l.Like n :=
  ⟨g.recovery.trans h.recovery, g.adaptation.trans h.adaptation, g.alignment.trans h.alignment,
    g.service.trans h.service, g.timer.trans h.timer, g.meter.trans h.meter⟩

theorem Link.Like.setMeter (h : l.Like m) (x : Meter) : ({ l with meter := x } : Link).Like { m with meter := x } :=
  ⟨h.recovery, h.adaptation, h.alignment, h.service, h.timer, rfl⟩

theorem Link.Like.follows (h : l.Like m) : l.Follows m := fun _ hl => ⟨h.fits hl, h.rests⟩

theorem RecoveryState.isWorking_iff (l : Link) : l.engine.recovery.isWorking = true ↔ ¬ l.Rests := by
  unfold Link.Rests
  cases l.engine.recovery <;> simp [RecoveryState.isWorking]

theorem Link.not_rests_of {v : RecoveryState} (h : l.engine.recovery = v) (hv : v.isWorking = true := by rfl) :
    ¬ l.Rests := (RecoveryState.isWorking_iff l).mp (h ▸ hv)

/-- A working link whose engine moves on: out of no service, and with an attempt timer in its state alone. -/
theorem Link.Follows.of_engine (working : ¬ l.Rests) (hold : m.hold = l.hold) (meter : m.meter = l.meter)
    (active : m.engine.recovery ≠ .inactive) (admitted : l.engine.recovery = .up → m.engine.recovery = .up)
    (adapting : (l.engine.adaptationTimer.isSome → l.engine.recovery = .adapting) →
      m.engine.adaptationTimer.isSome → m.engine.recovery = .adapting)
    (aligning : (l.engine.alignmentTimer.isSome → l.engine.recovery = .aligning) →
      m.engine.alignmentTimer.isSome → m.engine.recovery = .aligning) : l.Follows m := by
  intro a h
  refine ⟨⟨⟨?_, fun e => absurd e active, ?_, ?_, ?_, adapting h.adapting, aligning h.aligning⟩, ?_⟩,
    fun r => absurd r working⟩
  · have used : l.engine.recovery ≠ .inactive := fun e => working (.inl e)
    exact iff_of_false active (h.active.not.mp used)
  · rw [meter, hold]
    exact h.metered
  · rw [meter]
    exact h.ramping
  · rw [hold]
    exact h.held
  · rw [hold]
    exact fun e => admitted (h.admitted e)

end

section
variable {ps : List Part} {s t : State} {j : LinkId} {leaving : CageId → Prop}

/-- One link replaced by one that fits. -/
theorem State.LawfulBut.of_link (h : s.LawfulBut leaving) (touched : Touches (Only j) ps s t)
    (follows : (s.link j).Follows (t.link j)) (n : .lines ∉ ps := by decide) : t.LawfulBut leaving := by
  obtain ⟨cages, fits, outside⟩ := h
  have lines := touched.same .lines n
  refine ⟨fun c => (cages c).of_lines (lines c), fun i => ?_, fun i hi hm => ?_⟩
  · rw [State.isActive_of_lines lines]
    by_cases e : i = j
    · subst e
      exact (follows _ (fits i)).1
    · rw [touched.elsewhere i e]
      exact fits i
  · rw [Cage.mode_of_lines (lines _)] at hm
    by_cases e : i = j
    · subst e
      exact (follows _ (fits i)).2 (outside i hi hm)
    · rw [touched.elsewhere i e]
      exact outside i hi hm

theorem Keeps.of_link (touched : Touches (Only j) ps s t) (data : KeepsData s t)
    (follows : (s.link j).Follows (t.link j)) (n : .lines ∉ ps := by decide) : Keeps s t :=
  ⟨data, fun _ h => h.of_link touched follows n⟩

/-- A change of one link that no other invariant reads. -/
theorem Keeps.of_engine (touched : Touches (Only j) ps s t) (follows : (s.link j).Follows (t.link j))
    (d : ∀ p ∈ dataParts, p ∉ ps := by decide) (n : .lines ∉ ps := by decide) : Keeps s t :=
  .of_link touched (touched.keepsData d) follows n

end

/-! ### One block of a link, written -/

theorem State.link_updEngine_self (j : LinkId) (f : LinkEngine → LinkEngine) (s : State) :
    (s.updEngine j f).link j = { s.link j with engine := f (s.link j).engine } := State.link_updLink_self ..

theorem State.link_updHold_self (j : LinkId) (f : HoldState → HoldState) (s : State) :
    (s.updHold j f).link j = { s.link j with hold := f (s.link j).hold } := State.link_updLink_self ..

theorem State.cage_raise (k : EventKind) (source detail : Nat) (s : State) (c : CageId) :
    (s.raise k source detail).cage c = s.cage c := rfl

theorem State.link_raise (k : EventKind) (source detail : Nat) (s : State) (j : LinkId) :
    (s.raise k source detail).link j = s.link j := rfl

/-! ### Penalties and meters in bounds -/

/-- A meter within its bounds (R146). -/
def Meter.Sound (m : Meter) : Prop := m.tokens ≤ m.burst ∧ (m.mode = .stopped → m = stoppedMeter)

theorem stoppedMeter_sound : stoppedMeter.Sound := ⟨Nat.le_refl _, fun _ => rfl⟩

/-- A change of one link's meter and penalty keeps the bounds where it keeps theirs. -/
theorem State.Bounded.of_link {ps : List Part} {s t : State} {j : LinkId} (h : s.Bounded)
    (touched : Touches (Only j) ps s t) (meter : (s.link j).meter.Sound → (t.link j).meter.Sound)
    (penalty : (s.link j).penalty ≤ s.settings.ceiling → (t.link j).penalty ≤ s.settings.ceiling)
    (n : ∀ p ∈ [Part.queue, .ceiling], p ∉ ps := by decide) : t.Bounded := by
  obtain ⟨queue, ceiling, decay, penalties, tokens, stopped⟩ := h
  obtain ⟨c, d⟩ := touched.same .ceiling (n _ (by decide))
  have others : ∀ i, (t.link i).penalty ≤ s.settings.ceiling ∧ (t.link i).meter.Sound := fun i => by
    by_cases e : i = j
    · subst e
      exact ⟨penalty (penalties i), meter ⟨tokens i, stopped i⟩⟩
    · rw [touched.elsewhere i e]
      exact ⟨penalties i, tokens i, stopped i⟩
  exact ⟨touched.queue (n _ (by decide)) ▸ queue, c ▸ ceiling, d ▸ decay, fun i => c ▸ (others i).1,
    fun i => (others i).2.1, fun i => (others i).2.2⟩

theorem keepsData_updMeter (j : LinkId) (f : Meter → Meter) (s : State)
    (sound : (s.link j).meter.Sound → (f (s.link j).meter).Sound) : KeepsData s (s.updMeter j f) := by
  have touched := touches_updMeter (only_self j) f s
  have meter : ((s.updMeter j f).link j).meter = f (s.link j).meter := by rw [State.updMeter, State.link_updLink_self]
  refine ⟨fun h => touched.poolConserved h, fun h => h.of_link touched (by rwa [meter]) ?_,
    fun h => touched.reported h, fun h => touched.single h, fun h => touched.ordered h⟩
  rw [touched.penalty]
  exact id

theorem keepsData_setPenalty (j : LinkId) (f : Nat → Nat) (s : State)
    (bounded : (s.link j).penalty ≤ s.settings.ceiling → f (s.link j).penalty ≤ s.settings.ceiling) :
    KeepsData s (s.updLink j fun l => { l with penalty := f l.penalty }) := by
  have touched := touches_setPenalty (only_self j) f s
  refine ⟨fun h => touched.poolConserved h, fun h => h.of_link touched ?_ ?_,
    fun h => touched.reported h, fun h => touched.single h, fun h => touched.ordered h⟩
  · rw [touched.meter]
    exact id
  · rw [State.link_updLink_self]
    exact bounded

/-- A meter changed in REPLAY, or one that stays stopped. -/
theorem keeps_updMeter (j : LinkId) (f : Meter → Meter) (s : State)
    (sound : (s.link j).meter.Sound → (f (s.link j).meter).Sound)
    (metered : (f (s.link j).meter).mode ≠ .stopped →
      (s.link j).meter.mode ≠ .stopped ∨ (s.link j).hold.service = .replay)
    (ramping : ((s.link j).meter.rampTimer.isSome → (s.link j).meter.mode ≠ .stopped) →
      (f (s.link j).meter).rampTimer.isSome → (f (s.link j).meter).mode ≠ .stopped) : Keeps s (s.updMeter j f) := by
  refine .of_link (touches_updMeter (only_self j) f s) (keepsData_updMeter j f s sound) ?_
  rw [State.updMeter, State.link_updLink_self]
  intro a h
  exact ⟨⟨⟨h.active, h.unused, fun e => (metered e).elim h.metered id, ramping h.ramping, h.held, h.adapting,
    h.aligning⟩, h.admitted⟩, id⟩

theorem touches_stopMeter {W : LinkId → Prop} {j : LinkId} (hj : W j) (s : State) : Touches W [.meter] s (s.stopMeter j) :=
  touches_updMeter hj _ s

theorem keeps_stopMeter (j : LinkId) (s : State) : Keeps s (s.stopMeter j) :=
  keeps_updMeter j _ s (fun _ => stoppedMeter_sound) (fun h => absurd rfl h) fun _ h => absurd h (by decide)

theorem decide_and_not_mode {a b : Bool} : (if (!a && b) = true then MeterMode.unmetered else .metered) ≠ .stopped := by
  split <;> decide

theorem keeps_startMeter (j : LinkId) (degraded : Bool) (s : State) (replay : (s.link j).hold.service = .replay) :
    Keeps s (s.startMeter j degraded) := by
  unfold State.startMeter
  exact keeps_updMeter j _ s (fun _ => ⟨Nat.le_refl _, fun e => absurd e decide_and_not_mode⟩) (fun _ => .inr replay)
    fun _ _ => decide_and_not_mode

/-- Tokens changed within the burst of a running meter. -/
theorem keeps_setTokens (j : LinkId) (f : Meter → Nat) (g : Meter → Nat) (s : State)
    (running : (s.link j).meter.mode ≠ .stopped)
    (fits : (s.link j).meter.tokens ≤ (s.link j).meter.burst → f (s.link j).meter ≤ (s.link j).meter.burst) :
    Keeps s (s.updMeter j fun m => { m with tokens := f m, lastTick := g m }) :=
  keeps_updMeter j _ s (fun h => ⟨fits h.1, fun e => absurd e running⟩) (fun _ => .inl running) fun _ _ => running

theorem keeps_meterRecovered (j : LinkId) (s : State) : Keeps s (s.meterRecovered j) := by
  unfold State.meterRecovered
  refine keeps_updMeter j _ s (fun h => ?_) (fun h => ?_) fun r h => ?_
  · split
    · exact h
    · next running => exact ⟨h.1, fun e => absurd e running⟩
  · split at h
    · exact .inl h
    · next running => exact .inl running
  · split at h
    · next stopped => exact absurd stopped (r h)
    · next running => rwa [if_neg running]

/-- A ramp step leaves a running meter running. -/
theorem Meter.ramped_mode {m : Meter} (next : Moment) (running : m.mode ≠ .stopped) : (m.ramped next).mode ≠ .stopped := by
  unfold Meter.ramped
  split
  · exact running
  · split
    · exact running
    · simp

theorem Meter.ramped_tokens (m : Meter) (next : Moment) :
    (m.ramped next).tokens = m.tokens ∧ (m.ramped next).burst = m.burst := by
  unfold Meter.ramped
  split
  · exact ⟨rfl, rfl⟩
  · split <;> exact ⟨rfl, rfl⟩

/-- The change a running meter's ramp step makes; a stopped one's ramp timer does not run, so that it makes none. -/
theorem keeps_ramped (j : LinkId) (next : Moment) (s : State) (timed : (s.link j).meter.rampTimer.isSome) :
    Keeps s (s.updMeter j fun m => m.ramped next) := by
  have touched := touches_updMeter (only_self j) (fun m => m.ramped next) s
  have meter : ((s.updMeter j fun m => m.ramped next).link j).meter = (s.link j).meter.ramped next := by
    rw [State.updMeter, State.link_updLink_self]
  refine .of_link touched (keepsData_updMeter j _ s fun h => ?_) ?_
  · have running : (s.link j).meter.mode ≠ .stopped := fun e => by
      rw [h.2 e] at timed
      exact absurd timed (by decide)
    obtain ⟨tokens, burst⟩ := (s.link j).meter.ramped_tokens next
    exact ⟨by rw [tokens, burst]; exact h.1, fun e => absurd e (Meter.ramped_mode next running)⟩
  · rw [State.updMeter, State.link_updLink_self]
    intro a h
    have running := h.ramping timed
    exact ⟨⟨⟨h.active, h.unused, fun _ => h.metered running, fun _ => Meter.ramped_mode next running, h.held,
      h.adapting, h.aligning⟩, h.admitted⟩, id⟩

/-! ### The judgement of candidates and the end of replay -/

/-- A link whose meter runs leaves REPLAY for PASS. -/
theorem Link.Follows.leaveReplay {l : Link} (running : l.meter.mode ≠ .stopped) :
    l.Follows { l with hold := { l.hold with service := .pass }, meter := stoppedMeter } := by
  intro a h
  have replay := h.metered running
  have up := h.admitted (.inr replay)
  refine ⟨⟨⟨h.active, fun e => ?_, fun e => absurd rfl e, nofun, fun e => ?_, h.adapting,
    h.aligning⟩, fun _ => up⟩, id⟩
  · exact absurd (up.symm.trans e) (by decide)
  · exact absurd ((h.held e).symm.trans replay) (by decide)

theorem keeps_endReplay (j : LinkId) (s : State) : Keeps s (s.endReplay j) := by
  refine .ite (fun c => ?_) fun _ => .refl s
  have unmetered : (s.link j).meter.mode = .unmetered := by simp_all
  have passed := touches_updHold (only_self j) (fun h => { h with service := .pass }) s
  have released := touches_releaseLink (only_self j) (s.setService j .pass)
  have touched := passed.trans released (rs := [.hold, .serving, .fabricSide])
  refine .of_link (ps := [.hold, .serving, .fabricSide, .meter])
    (touched.trans (touches_stopMeter (only_self j) _)) (touched.keepsData.trans (keeps_stopMeter j _).toKeepsData) ?_
  have running : (s.link j).meter.mode ≠ .stopped := by simp [unmetered]
  refine (Link.Follows.leaveReplay running).trans (Link.Like.follows ?_)
  have like := released.like j
  have serves : (s.setService j .pass).link j = { s.link j with hold := { (s.link j).hold with service := .pass } } :=
    State.link_updLink_self ..
  rw [serves] at like
  rw [State.stopMeter, State.updMeter, State.link_updLink_self]
  exact like.setMeter stoppedMeter

theorem keeps_judgeFrom (j : LinkId) (fuel : Nat) (s : State) : Keeps s (s.judgeFrom j fuel) := by
  induction fuel generalizing s with
  | zero => exact .refl s
  | succ fuel ih =>
    unfold State.judgeFrom
    split
    · exact .refl s
    · refine .ite (fun _ => ?_) fun _ => ?_
      · exact (((keeps_discardHead ..).trans (keeps_occupancyFell ..)).trans (keeps_poolRose _)).trans (ih _)
      · split
        · exact .refl s
        · exact keeps_startTransit ..
        · next metered =>
          refine .ite (fun _ => ?_) fun _ => .refl s
          refine (keeps_setTokens j (fun m => m.tokens - _) Meter.lastTick s ?_ fun h => ?_).trans
            (keeps_startTransit ..)
          · rw [metered]
            decide
          · omega

theorem keeps_judge (j : LinkId) (s : State) : Keeps s (s.judge j) :=
  .ite (fun _ => .refl s) fun _ => .ite (fun _ => (keeps_judgeFrom ..).trans (keeps_endReplay ..))
    fun _ => keeps_endReplay j s

end Sys2Proof.Machine
end

section
/-! PROOFS. Recovery memory keeps every digest in one place (R60 to R72), and its operations every invariant. -/

set_option Elab.async false

namespace Sys2Proof.Machine

/-! ### One place for a digest -/

section
variable {m n : RecoveryMemory}

/-- No record of a digest stands in recovery memory. -/
def RecoveryMemory.Lacks (digest : BitVec 32) (m : RecoveryMemory) : Prop :=
  digest ∉ m.cache.map CageRecord.digest ∧ ∀ c r, m.positions.get c = some r → r.digest ≠ digest

/-- Fewer records, or records of the same digests, stand in one place each where those before did. -/
theorem RecoveryMemory.Single.of_fewer (h : m.Single) (cache : n.cache.Sublist m.cache)
    (positions : ∀ c r, n.positions.get c = some r → ∃ q, m.positions.get c = some q ∧ q.digest = r.digest) :
    n.Single := by
  obtain ⟨size, once, apart, one⟩ := h
  refine ⟨cache.length_le.trans size, once.sublist (cache.map _), fun c r hr => ?_, fun c d r q hr hq e => ?_⟩
  · obtain ⟨r', hr', er⟩ := positions c r hr
    exact fun hm => apart c r' hr' (er ▸ (cache.map _).subset hm)
  · obtain ⟨r', hr', er⟩ := positions c r hr
    obtain ⟨q', hq', eq⟩ := positions d q hq
    exact one c d r' q' hr' hq' (er.trans (e.trans eq.symm))

/-- The records of a memory with one position emptied. -/
theorem RecoveryMemory.positions_setNone {c d : CageId} {r : CageRecord}
    (h : (m.setPosition c none).positions.get d = some r) : d ≠ c ∧ m.positions.get d = some r := by
  by_cases e : d = c
  · subst e
    simp [RecoveryMemory.setPosition, Bank.get_set_self] at h
  · exact ⟨e, by rwa [RecoveryMemory.setPosition, Bank.get_set_ne _ _ _ _ (Ne.symm e)] at h⟩

theorem RecoveryMemory.single_setNone (h : m.Single) (c : CageId) : (m.setPosition c none).Single :=
  h.of_fewer (List.Sublist.refl _) fun _ _ hr => ⟨_, (positions_setNone hr).2, rfl⟩

theorem RecoveryMemory.lacks_setNone {x : BitVec 32} (h : m.Lacks x) (c : CageId) : (m.setPosition c none).Lacks x :=
  ⟨h.1, fun d r hr => h.2 d r (positions_setNone hr).2⟩

theorem RecoveryMemory.single_setHeld (h : m.Single) (c : CageId) (b : Bool) : (m.setHeld c b).Single :=
  h.of_fewer (List.Sublist.refl _) fun _ _ hr => ⟨_, hr, rfl⟩

theorem RecoveryMemory.single_uncache (h : m.Single) (x : BitVec 32) : (m.uncache x).Single :=
  h.of_fewer List.filter_sublist fun _ _ hr => ⟨_, hr, rfl⟩

/-- A record of a digest that no position holds joins the cache (R60). -/
theorem RecoveryMemory.single_insert (h : m.Single) (r : CageRecord)
    (apart : ∀ c q, m.positions.get c = some q → q.digest ≠ r.digest) : (m.insert r).Single := by
  have kept : ((m.cache.filter fun x => x.digest ≠ r.digest).take (cacheLimit - 1)).Sublist m.cache :=
    (List.take_sublist ..).trans List.filter_sublist
  refine ⟨?_, ?_, fun c q hq => ?_, h.positionsOnce⟩
  · simp only [RecoveryMemory.insert, List.length_cons, List.length_take, cacheLimit]
    omega
  · refine List.nodup_cons.mpr ⟨fun hm => ?_, h.cacheOnce.sublist (kept.map _)⟩
    obtain ⟨q, hq, e⟩ := List.mem_map.mp hm
    have other := (List.mem_filter.mp ((List.take_sublist ..).subset hq)).2
    simp_all
  · rw [RecoveryMemory.insert, List.map_cons, List.mem_cons]
    rintro (e | hm)
    · exact apart c q hq e
    · exact h.apart c q hq ((kept.map _).subset hm)

theorem RecoveryMemory.lacks_insert {x : BitVec 32} (h : m.Lacks x) (r : CageRecord) (other : r.digest ≠ x) :
    (m.insert r).Lacks x := by
  refine ⟨?_, h.2⟩
  rw [RecoveryMemory.insert, List.map_cons, List.mem_cons]
  rintro (e | hm)
  · exact other e.symm
  · exact h.1 ((((List.take_sublist ..).trans List.filter_sublist).map _).subset hm)

theorem RecoveryMemory.single_displace (h : m.Single) (c : CageId) : (m.displace c).Single := by
  unfold RecoveryMemory.displace
  split
  · exact h
  · next r hr =>
    split
    · refine single_insert (single_setNone h c) r fun d q hq e => ?_
      obtain ⟨ne, hq⟩ := positions_setNone hq
      exact ne (h.positionsOnce d c q r hq hr e)
    · exact single_setNone h c

theorem RecoveryMemory.lacks_displace {x : BitVec 32} (h : m.Lacks x) (c : CageId) : (m.displace c).Lacks x := by
  unfold RecoveryMemory.displace
  split
  · exact h
  · next r hr =>
    split
    · exact lacks_insert (lacks_setNone h c) r (h.2 c r hr)
    · exact lacks_setNone h c

/-- A record of a digest that recovery memory lacks is placed (R64, R65). -/
theorem RecoveryMemory.single_place (h : m.Single) (c : CageId) (r : CageRecord) (lacks : m.Lacks r.digest) :
    (m.place c r).Single := by
  have ds := single_displace h c
  have dl := lacks_displace lacks c
  have held : ∀ d q, ((m.displace c).setPosition c (some { r with home := c })).positions.get d = some q →
      (d = c ∧ q.digest = r.digest) ∨ (d ≠ c ∧ (m.displace c).positions.get d = some q) := fun d q hq => by
    by_cases e : d = c
    · subst e
      simp only [RecoveryMemory.setPosition, Bank.get_set_self, Option.some.injEq] at hq
      exact .inl ⟨rfl, hq ▸ rfl⟩
    · exact .inr ⟨e, by rwa [RecoveryMemory.setPosition, Bank.get_set_ne _ _ _ _ (Ne.symm e)] at hq⟩
  unfold RecoveryMemory.place
  refine single_setHeld (m := (m.displace c).setPosition c _) ⟨ds.cacheSize, ds.cacheOnce, fun d q hq => ?_, fun d e q p hq hp same => ?_⟩ c true
  · rcases held d q hq with ⟨_, digest⟩ | ⟨_, hq⟩
    · exact fun hm => dl.1 (digest ▸ hm)
    · exact ds.apart d q hq
  · rcases held d q hq with ⟨rfl, qd⟩ | ⟨_, hq⟩ <;> rcases held e p hp with ⟨rfl, pd⟩ | ⟨_, hp⟩
    · rfl
    · exact absurd (same.symm.trans qd) (dl.2 e p hp)
    · exact absurd (same.trans pd) (dl.2 d q hq)
    · exact ds.positionsOnce d e q p hq hp same

/-! ### The search (R62) -/

/-- A position holds no record of a digest. -/
theorem RecoveryMemory.filter_position {c : CageId} {x : BitVec 32} :
    (m.positions.get c).filter (·.digest = x) = none ↔ ∀ r, m.positions.get c = some r → r.digest ≠ x := by
  rw [Option.filter_eq_none_iff]
  simp

/-- The cache holds no record of a digest. -/
theorem RecoveryMemory.find_cache {x : BitVec 32} :
    m.cache.find? (·.digest = x) = none ↔ x ∉ m.cache.map CageRecord.digest := by
  rw [List.find?_eq_none]
  simp

theorem RecoveryMemory.find_own {c : CageId} {x : BitVec 32} {r : CageRecord} (h : m.find c x = .own r) :
    m.positions.get c = some r ∧ r.digest = x := by
  unfold RecoveryMemory.find at h
  split at h
  · next q e =>
    cases h
    obtain ⟨hq, digest⟩ := Option.filter_eq_some_iff.mp e
    exact ⟨hq, by simpa using digest⟩
  · split at h
    · cases h
    · split at h <;> cases h

theorem RecoveryMemory.find_cached {c : CageId} {x : BitVec 32} {r : CageRecord} (h : m.find c x = .cached r) :
    (∀ q, m.positions.get c = some q → q.digest ≠ x) ∧ r ∈ m.cache ∧ r.digest = x := by
  unfold RecoveryMemory.find at h
  split at h
  · cases h
  · next own =>
    split at h
    · next e =>
      cases h
      exact ⟨filter_position.mp own, List.mem_of_find?_eq_some e, by simpa using List.find?_some e⟩
    · split at h <;> cases h

theorem RecoveryMemory.find_other {c d : CageId} {x : BitVec 32} {r : CageRecord} (h : m.find c x = .other d r) :
    (∀ q, m.positions.get c = some q → q.digest ≠ x) ∧ x ∉ m.cache.map CageRecord.digest ∧ d ≠ c
      ∧ m.positions.get d = some r ∧ r.digest = x := by
  unfold RecoveryMemory.find at h
  split at h
  · cases h
  · next own =>
    split at h
    · cases h
    · next uncached =>
      split at h
      · next e =>
        cases h
        obtain ⟨a, -, ha⟩ := List.exists_of_findSome?_eq_some e
        split at ha
        · cases ha
        · next ne =>
          obtain ⟨p, hp, pe⟩ := Option.map_eq_some_iff.mp ha
          obtain ⟨hp, digest⟩ := Option.filter_eq_some_iff.mp hp
          cases pe
          exact ⟨filter_position.mp own, find_cache.mp uncached, ne, hp, by simpa using digest⟩
      · cases h

theorem RecoveryMemory.find_nowhere {c : CageId} {x : BitVec 32} (h : m.find c x = .nowhere) : m.Lacks x := by
  unfold RecoveryMemory.find at h
  split at h
  · cases h
  · next own =>
    split at h
    · cases h
    · next uncached =>
      split at h
      · cases h
      · next others =>
        refine ⟨find_cache.mp uncached, fun d => ?_⟩
        by_cases e : d = c
        · exact e ▸ filter_position.mp own
        · have found := List.findSome?_eq_none_iff.mp others d (List.mem_finRange d)
          rw [if_neg e, Option.map_eq_none_iff] at found
          exact filter_position.mp found

/-! ### The lookup (R62 to R66) -/

theorem RecoveryMemory.lookup_single (h : m.Single) (c : CageId) (fresh : CageRecord) : (m.lookup c fresh).Single := by
  have chosen : ∀ r : CageRecord, r.digest = fresh.digest →
      (if r.key = fresh.key then r else fresh).digest = fresh.digest := fun r e => by
    split
    · exact e
    · rfl
  unfold RecoveryMemory.lookup
  split
  · next r found =>
    obtain ⟨hr, digest⟩ := find_own found
    split
    · exact single_setHeld h c true
    refine single_place (single_setNone h c) c fresh ⟨digest ▸ h.apart c r hr, fun d q hq e => ?_⟩
    obtain ⟨ne, hq⟩ := positions_setNone hq
    exact ne (h.positionsOnce d c q r hq hr (e.trans digest.symm))
  · next r found =>
    obtain ⟨-, hr, digest⟩ := find_cached found
    refine single_place (single_uncache h _) c _ ?_
    rw [chosen r digest]
    refine ⟨fun hm => ?_, fun d q hq e => h.apart d q hq ?_⟩
    · obtain ⟨q, hq, e⟩ := List.mem_map.mp hm
      exact absurd e (by simpa using (List.mem_filter.mp hq).2)
    · rw [e, ← digest]
      exact List.mem_map_of_mem hr
  · next d r found =>
    obtain ⟨-, uncached, -, hr, digest⟩ := find_other found
    split
    · exact single_setHeld (single_setNone (single_displace h c) c) c false
    refine single_place (single_setNone h d) c _ ?_
    rw [chosen r digest]
    refine ⟨uncached, fun i q hq e => ?_⟩
    obtain ⟨ne, hq⟩ := positions_setNone hq
    exact ne (h.positionsOnce i d q r hq hr (e.trans digest.symm))
  · next found => exact single_place h c fresh (find_nowhere found)

end

/-! ### The operations on recovery memory -/

/-- A change of recovery memory that keeps every digest in one place. -/
theorem keeps_updMemory (f : RecoveryMemory → RecoveryMemory) (s : State)
    (single : s.memory.Single → (f s.memory).Single) : Keeps s (s.updMemory f) := by
  have touched := touches_updMemory (W := Anywhere) f s
  exact ⟨⟨fun h => touched.poolConserved h, fun h => touched.bounded h, fun h => touched.reported h, single,
    fun h => touched.ordered h⟩, fun _ h => touched.lawfulBut h⟩

theorem keeps_spend (s : State) : Keeps s s.spend := (touches_spend (W := Anywhere) s).keeps

theorem keeps_lookup (c : CageId) (key digest : BitVec 32) (s : State) : Keeps s (s.lookup c key digest) :=
  (keeps_updMemory _ s fun h => RecoveryMemory.lookup_single h c _).trans (keeps_spend _)

theorem keeps_setPeer (j : LinkId) (p : Option PeerIdentity) (s : State) : Keeps s (s.setPeer j p) :=
  keeps_updMemory _ s fun h => h.of_fewer (List.Sublist.refl _) fun _ _ hr => ⟨_, hr, rfl⟩

theorem keeps_setHeld (c : CageId) (b : Bool) (s : State) : Keeps s (s.updMemory fun m => m.setHeld c b) :=
  keeps_updMemory _ s fun h => RecoveryMemory.single_setHeld h c b

theorem CageRecord.refreshed_digest (p : ParameterSet) (k : SlotId) (settings : List (LaneId × LaneSettings))
    (skew : Nat) (r : CageRecord) : (r.refreshed p k settings skew).digest = r.digest := by
  unfold CageRecord.refreshed
  simp only
  split <;> rfl

theorem keeps_refresh (j : LinkId) (s : State) : Keeps s (s.refresh j) := by
  have read : Keeps s ((s.updEngine j fun e => { e with equaliser := s.heldSettings j }).spend) :=
    (touches_updEngine_rest (only_self j) (fun e => { e with equaliser := s.heldSettings j }) s fun e =>
      ⟨rfl, rfl, rfl⟩).keeps.trans (keeps_spend _)
  unfold State.refresh
  simp only
  split
  · exact read
  · next r own =>
    have hr := (Option.filter_eq_some_iff.mp own).1
    refine read.trans (keeps_updMemory _ _ fun h => h.of_fewer (List.Sublist.refl _) fun d q hq => ?_)
    by_cases e : d = cageOf j
    · subst e
      simp only [RecoveryMemory.setPosition, Bank.get_set_self, Option.some.injEq] at hq
      exact ⟨r, hr, hq ▸ (r.refreshed_digest ..).symm⟩
    · exact ⟨q, by rwa [RecoveryMemory.setPosition, Bank.get_set_ne _ _ _ _ (Ne.symm e)] at hq, rfl⟩

theorem keeps_forgetPosition (c : CageId) (s : State) : Keeps s (s.updMemory fun m => m.forgetPosition c) :=
  keeps_updMemory _ s fun h => RecoveryMemory.single_setHeld (RecoveryMemory.single_setNone h c) c false

theorem RecoveryMemory.forgetDigest_single {m : RecoveryMemory} (h : m.Single) (x : BitVec 32) :
    (m.forgetDigest x).Single := by
  refine single_uncache ?_ x
  generalize allCages = l
  induction l generalizing m with
  | nil => exact h
  | cons c rest ih =>
    rw [List.foldl_cons]
    split
    · exact ih (single_setHeld (single_setNone h c) c false)
    · exact ih h

end Sys2Proof.Machine
end

section
/-! PROOFS. Attempts, losses, admissions and windows keep every invariant (R49, R79 to R98, R107, R114 to R119, R147). -/

set_option Elab.async false

namespace Sys2Proof.Machine

/-! ### Attempts (R79 to R86) -/

theorem State.enterAdapting_link (j : LinkId) (seeds : Option SeedsInUse) (n : Nat) (s : State) :
    ((s.enterAdapting j seeds n).link j).hold = (s.link j).hold ∧ ((s.enterAdapting j seeds n).link j).meter = (s.link j).meter
      ∧ ((s.enterAdapting j seeds n).link j).engine.recovery = .adapting
      ∧ ((s.enterAdapting j seeds n).link j).engine.alignmentTimer = none := by
  unfold State.enterAdapting
  rw [State.link_updEngine_self]
  exact ⟨rfl, rfl, rfl, rfl⟩

theorem follows_enterAdapting {l : Link} (j : LinkId) (seeds : Option SeedsInUse) (n : Nat) (s : State)
    (working : ¬ l.Rests) (ended : l.engine.recovery ≠ .up) (hold : (s.link j).hold = l.hold)
    (meter : (s.link j).meter = l.meter) : l.Follows ((s.enterAdapting j seeds n).link j) := by
  obtain ⟨h, m, recovery, alignment⟩ := s.enterAdapting_link j seeds n
  refine .of_engine working (h.trans hold) (m.trans meter) (recovery ▸ nofun) (fun e => absurd e ended)
    (fun _ _ => recovery) fun _ e => ?_
  rw [alignment] at e
  cases e

theorem keeps_enterAdapting (j : LinkId) (seeds : Option SeedsInUse) (n : Nat) (s : State)
    (working : ¬ (s.link j).Rests) (ended : (s.link j).engine.recovery ≠ .up) : Keeps s (s.enterAdapting j seeds n) :=
  .of_engine (touches_enterAdapting (only_self j) seeds n s) (follows_enterAdapting j seeds n s working ended rfl rfl)

theorem follows_attemptFailed (j : LinkId) (cause : FailureCause) (s : State) (working : ¬ (s.link j).Rests)
    (ended : (s.link j).engine.recovery ≠ .up) : (s.link j).Follows ((s.attemptFailed j cause).link j) := by
  have marked := touches_updEngine (only_self j) (LinkEngine.failedAttempt cause) s
  unfold State.attemptFailed
  simp only
  split
  · exact follows_enterAdapting j _ _ (State.raise ..) working ended (marked.hold j) (marked.meter j)
  · split
    · exact follows_enterAdapting j _ _ _ working ended (marked.hold j) (marked.meter j)
    · rw [State.link_raise, State.link_updEngine_self, State.link_updEngine_self]
      exact .of_engine working rfl rfl nofun (fun e => absurd e ended) (fun _ => nofun) fun _ => nofun

/-- An attempt fails on a link that works and is not UP (R85, R86). -/
theorem keeps_attemptFailed (j : LinkId) (cause : FailureCause) (s : State) (working : ¬ (s.link j).Rests)
    (ended : (s.link j).engine.recovery ≠ .up) : Keeps s (s.attemptFailed j cause) :=
  .of_engine (touches_attemptFailed (only_self j) cause s) (follows_attemptFailed j cause s working ended)

/-! ### Damping (R107) -/

theorem raisedPenalty_le (ceiling penalty n : Nat) : raisedPenalty ceiling penalty n ≤ ceiling :=
  Nat.min_le_left ..

theorem keeps_setPenalty (j : LinkId) (f : Nat → Nat) (s : State)
    (bounded : (s.link j).penalty ≤ s.settings.ceiling → f (s.link j).penalty ≤ s.settings.ceiling) :
    Keeps s (s.updLink j fun l => { l with penalty := f l.penalty }) :=
  ⟨keepsData_setPenalty j f s bounded, fun _ h => (touches_setPenalty (only_self j) f s).lawfulBut h⟩

theorem keeps_raise (k : EventKind) (source detail : Nat) (s : State) : Keeps s (s.raise k source detail) :=
  (touches_raise (W := Anywhere) k source detail s).keeps

theorem keeps_setSuppressed (j : LinkId) (b : Bool) (s : State) :
    Keeps s (s.updLink j fun l => { l with suppressed := b }) := (touches_setSuppressed (only_self j) b s).keeps

theorem keeps_addPenalty (j : LinkId) (n : Nat) (s : State) : Keeps s (s.addPenalty j n) := by
  have raised := keeps_setPenalty j (fun _ => raisedPenalty s.settings.ceiling (s.link j).penalty n) s
    fun _ => raisedPenalty_le ..
  unfold State.addPenalty
  exact .ite (fun _ => (raised.trans (keeps_setSuppressed j true _)).trans (keeps_raise ..)) fun _ => raised

/-! ### The loss path (R114, R115) -/

theorem like_shed (j : LinkId) (s : State) :
    ({ s.link j with hold := { (s.link j).hold with service := .shed, holdTimer := none } } : Link).Like
      ((s.shed j).link j) := by
  have like := ((touches_flushLink (only_self j) .expired _).like j).trans
    ((touches_releaseLink (only_self j) (State.flushLink .expired j
      (s.updHold j fun h => { h with service := .shed, holdTimer := none }))).like j)
  rwa [State.link_updHold_self] at like

theorem like_startHold (j : LinkId) (holdOff : Nat) (s : State) :
    ({ s.link j with hold := { (s.link j).hold with service := .hold, holdTimer := some (s.inMs holdOff) } } : Link).Like
      ((s.startHold j holdOff).link j) := by
  have held := s.link_updHold_self j fun h => { h with service := .hold, holdTimer := some (s.inMs holdOff) }
  have paused : ∀ t : State, (t.link j).Like
      ((if s.settings.pauseOnHold then t.forEach (State.pauseIfPausable j) allClasses else t).link j) := fun t =>
    (Touches.ite (W := Only j) (ps := [.hold, .fabricSide])
      (fun _ => .forEach fun k _ u => touches_pauseIfPausable (only_self j) k u) fun _ => .refl ..).like j
  rw [← held]
  exact paused _

theorem Link.Near.shed {a : Bool} {l : Link} (h : l.Near a) (used : l.engine.recovery ≠ .inactive)
    (stopped : l.meter.mode = .stopped) :
    ({ l with hold := { l.hold with service := .shed, holdTimer := none } } : Link).Fits a :=
  ⟨⟨h.active, fun e => absurd e used, fun e => absurd stopped e, h.ramping, nofun, h.adapting, h.aligning⟩, nofun⟩

theorem Link.Near.startHold {a : Bool} {l : Link} (h : l.Near a) (used : l.engine.recovery ≠ .inactive)
    (stopped : l.meter.mode = .stopped) (m : Moment) :
    ({ l with hold := { l.hold with service := .hold, holdTimer := some m } } : Link).Fits a :=
  ⟨⟨h.active, fun e => absurd e used, fun e => absurd stopped e, h.ramping, fun _ => rfl, h.adapting, h.aligning⟩, nofun⟩

theorem Link.Near.stopMeter {a : Bool} {l : Link} (h : l.Near a) : ({ l with meter := stoppedMeter } : Link).Near a :=
  ⟨h.active, h.unused, fun e => absurd rfl e, nofun, h.held, h.adapting, h.aligning⟩

/-- The end of a loss makes the service state fit the recovery state again (R115, R155). -/
theorem fits_loseService (j : LinkId) (s : State) {a : Bool} (h : (s.link j).Near a)
    (used : (s.link j).engine.recovery ≠ .inactive) : ((s.loseService j).link j).Fits a := by
  have stopped : (s.stopMeter j).link j = { s.link j with meter := stoppedMeter } := State.link_updLink_self ..
  have near : ((s.stopMeter j).link j).Near a := stopped ▸ h.stopMeter
  have lost : ∀ off : Nat,
      ((if off = 0 then (s.stopMeter j).shed j else (s.stopMeter j).startHold j off).link j).Fits a := fun off => by
    split
    · exact (like_shed j _).fits (near.shed (stopped ▸ used) (stopped ▸ rfl))
    · exact (like_startHold j off _).fits (near.startHold (stopped ▸ used) (stopped ▸ rfl) _)
  unfold State.loseService
  simp only
  split
  · exact lost _
  · exact lost _
  all_goals
    next service => exact ⟨h, by simp [service]⟩

/-- A loss leaves a working link in ADAPTING or DOWN, in a state to which its service state does not yet answer. -/
theorem near_lossRecovery (j : LinkId) (cause : LossCause) (s : State) {a : Bool} (h : (s.link j).Fits a)
    (working : ¬ (s.link j).Rests) : ((s.lossRecovery j cause).link j).Near a
      ∧ ((s.lossRecovery j cause).link j).engine.recovery ≠ .inactive := by
  have used : a ≠ false := fun e => working (.inl (h.active.mpr e))
  have down : ((s.toDown j).link j).Near a ∧ ((s.toDown j).link j).engine.recovery ≠ .inactive := by
    rw [State.toDown, State.link_updEngine_self]
    exact ⟨⟨iff_of_false nofun used, nofun, h.metered, h.ramping, h.held, nofun, nofun⟩, nofun⟩
  have adapting : ((s.enterAdapting j none 0).link j).Near a
      ∧ ((s.enterAdapting j none 0).link j).engine.recovery ≠ .inactive := by
    obtain ⟨hold, meter, recovery, alignment⟩ := s.enterAdapting_link j none 0
    refine ⟨⟨iff_of_false (recovery ▸ nofun) used, fun e => absurd (recovery.symm.trans e) nofun, ?_, ?_, ?_,
      fun _ => recovery, fun e => ?_⟩, recovery ▸ nofun⟩
    · rw [meter, hold]
      exact h.metered
    · rw [meter]
      exact h.ramping
    · rw [hold]
      exact h.held
    · rw [alignment] at e
      cases e
  cases cause
  case signal | errors => exact adapting
  all_goals exact down

theorem keepsData_shed (j : LinkId) (s : State) : KeepsData s (s.shed j) :=
  ((touches_updHold (only_self j) _ s).keepsData.trans (keeps_flushLink ..).toKeepsData).trans
    (keeps_releaseLink ..).toKeepsData

theorem keepsData_loseService (j : LinkId) (s : State) : KeepsData s (s.loseService j) := by
  have stopped := (keeps_stopMeter j s).toKeepsData
  unfold State.loseService
  simp only
  split
  · exact .ite (fun _ => stopped.trans (keepsData_shed j _)) fun _ =>
      stopped.trans (touches_startHold (only_self j) _ _).keepsData
  · exact .ite (fun _ => stopped.trans (keepsData_shed j _)) fun _ =>
      stopped.trans (touches_startHold (only_self j) _ _).keepsData
  all_goals exact .refl s

/-- The loss of a working link that has taken its penalty. -/
theorem keeps_lossOfService (j : LinkId) (cause : LossCause) (s : State) (working : ¬ (s.link j).Rests) :
    Keeps s ((s.lossRecovery j cause).loseService j) := by
  have recovered := touches_lossRecovery (only_self j) cause s
  refine .of_link (ps := lossParts) (recovered.trans (touches_loseService (only_self j) _))
    (recovered.keepsData.trans (keepsData_loseService j _)) fun a h => ?_
  obtain ⟨near, used⟩ := near_lossRecovery j cause s h working
  exact ⟨fits_loseService j _ near used, fun r => absurd r working⟩

/-- A working link takes the loss path (R114). -/
theorem keeps_lossPath (cause : LossCause) (j : LinkId) (s : State) (working : ¬ (s.link j).Rests) :
    Keeps s (s.lossPath cause j) := by
  have marked : ∀ t : State, Keeps t (t.updLink j fun l => { l with
      hold := { l.hold with lastLoss := cause }
      counters := { l.counters with losses := saturate (l.counters.losses + 1) } }) := fun t => by
    refine .of_engine (ps := [.hold, .serving, .counters])
      (touches_updLink t (only_self j) fun l p => by cases p <;> simp [Part.SameLink]) ?_
    rw [State.link_updLink_self]
    exact Link.Like.follows ⟨rfl, rfl, rfl, rfl, rfl, rfl⟩
  have same : ∀ t : State, ((t.updLink j fun l => { l with
      hold := { l.hold with lastLoss := cause }
      counters := { l.counters with losses := saturate (l.counters.losses + 1) } }).link j).engine
        = (t.link j).engine := fun t => by rw [State.link_updLink_self]
  unfold State.lossPath
  simp only
  refine Keeps.trans (t := State.loseService j _) ?_ (keeps_raise ..)
  split
  · next n _ =>
    have raised := touches_addPenalty (only_self j) n (s.updLink j fun l => { l with
      hold := { l.hold with lastLoss := cause }
      counters := { l.counters with losses := saturate (l.counters.losses + 1) } })
    refine ((marked s).trans (keeps_addPenalty j n _)).trans (keeps_lossOfService j cause _ ?_)
    rw [Link.Rests, raised.engine j, same]
    exact working
  · refine (marked s).trans (keeps_lossOfService j cause _ ?_)
    rw [Link.Rests, same]
    exact working

theorem keeps_departBy (cause : LossCause) (j : LinkId) (s : State) : Keeps s (s.departBy cause j) :=
  .ite (fun c => keeps_lossPath cause j s ((RecoveryState.isWorking_iff _).mp c)) fun _ => .refl s

/-- The hold timer, which runs in HOLD alone, ends the hold (R117). -/
theorem keeps_holdExpired (j : LinkId) (s : State) (timed : (s.link j).hold.holdTimer.isSome) :
    Keeps s (s.holdExpired j) := by
  refine Keeps.trans (.of_link (touches_shed (only_self j) s) (keepsData_shed j s) fun a h => ?_) (keeps_raise ..)
  have held := h.held timed
  have used : (s.link j).engine.recovery ≠ .inactive := fun e => nomatch held.symm.trans (h.unused e)
  have stopped : (s.link j).meter.mode = .stopped := by
    by_contra running
    exact nomatch held.symm.trans (h.metered running)
  exact ⟨(like_shed j s).fits (h.toNear.shed used stopped), (like_shed j s).rests⟩

/-! ### Admission (R105, R119, R147) -/

/-- The hold unit admits a link that is UP (R119). -/
theorem keeps_holdAdmit (j : LinkId) (degraded : Bool) (s : State) (up : (s.link j).engine.recovery = .up) :
    Keeps s (s.holdAdmit j degraded) := by
  have link := s.link_updHold_self j fun h => { h with holdTimer := none, service := .replay }
  have opened : Keeps s (s.updHold j fun h => { h with holdTimer := none, service := .replay }) := by
    refine .of_engine (touches_updHold (only_self j) _ s) ?_
    rw [link]
    intro a h
    exact ⟨⟨⟨h.active, fun e => (nomatch up.symm.trans e), fun _ => rfl, h.ramping, nofun, h.adapting, h.aligning⟩,
      fun _ => up⟩, id⟩
  have released : ∀ (b : Bool) (t : State), Touches (Only j) [.hold, .fabricSide] t
      (if b then t.forEach (State.releaseIfLow j) allClasses else t) := fun b t =>
    .ite (fun _ => .forEach fun k _ u => touches_releaseIfLow (only_self j) k u) fun _ => .refl ..
  refine ((opened.trans (released _ _).keeps).trans (keeps_startMeter j degraded _ ?_)).trans (keeps_judge j _)
  exact ((released _ _).like j).service.trans (congrArg (·.hold.service) link)

/-- A link is admitted from QUALIFYING, PEER-HOLD or DAMPED (R105, R111). -/
theorem keeps_admitLink (j : LinkId) (grade : Grade) (announced : Bool) (s : State) {v : RecoveryState}
    (recovery : (s.link j).engine.recovery = v) (waits : v = .qualifying ∨ v = .peerHold ∨ v = .damped) :
    Keeps s (s.admitLink j grade announced) := by
  have admitted : Keeps s (s.updEngine j fun e => { e with
      recovery := .up, cleanRun := 0, grade := grade, degraded := decide (grade = .degraded), probeTimer := none }) := by
    refine .of_engine (touches_updEngine (only_self j) _ s) ?_
    rw [State.updEngine, State.link_updLink_self]
    refine .of_engine (Link.not_rests_of recovery ?_) rfl rfl nofun (fun _ => rfl) (fun h e => ?_) fun h e => ?_
    · rcases waits with rfl | rfl | rfl <;> rfl
    · rcases waits with rfl | rfl | rfl <;> exact nomatch recovery.symm.trans (h e)
    · rcases waits with rfl | rfl | rfl <;> exact nomatch recovery.symm.trans (h e)
  have told : ∀ (b : Bool) (k : EventKind) (t : State), Touches (Only j) [.raised] t (if b then t.raise k j.val else t) :=
    fun b k t => .ite (fun _ => touches_raise ..) fun _ => .refl ..
  unfold State.admitLink
  simp only
  have announcing := (told announced .linkUp (s.updEngine j fun e => { e with
      recovery := .up, cleanRun := 0, grade := grade, degraded := decide (grade = .degraded), probeTimer := none })).trans
    (told (announced && decide (grade = .degraded)) .degraded _) (rs := [.raised])
  refine ((admitted.trans announcing.keeps).trans (keeps_refresh j _)).trans (keeps_holdAdmit j _ _ ?_)
  have up : ((s.updEngine j fun e => { e with
      recovery := .up, cleanRun := 0, grade := grade, degraded := decide (grade = .degraded), probeTimer := none }).link
        j).engine.recovery = .up := by rw [State.updEngine, State.link_updLink_self]
  exact ((touches_refresh (only_self j) _).like j).recovery.trans ((announcing.like j).recovery.trans up)

end Sys2Proof.Machine
end

section
/-! PROOFS. The engine's queue, the channels, the pending set and the service port keep every invariant (R160, R161, R170 to
R179), and with them whatever ends a step (log 7). -/

set_option Elab.async false

namespace Sys2Proof.Machine

/-! ### The engine's queue (R160, R161) -/

/-- A change of the management engine that lets no more than 8 requests wait. -/
theorem Keeps.of_queue {W : LinkId → Prop} {s t : State} (touched : Touches W replyParts s t)
    (queue : s.management.queue.length ≤ 8 → t.management.queue.length ≤ 8) : Keeps s t := by
  refine ⟨⟨fun h => touched.poolConserved h, fun h => ?_, fun h => touched.reported h, fun h => touched.single h,
    fun h => touched.ordered h⟩, fun _ h => touched.lawfulBut h⟩
  obtain ⟨ceiling, decay⟩ := touched.same .ceiling (by decide)
  obtain ⟨hq, hc, hd, hp, ht, hs⟩ := h
  exact ⟨queue hq, ceiling ▸ hc, decay ▸ hd, fun j => by rw [touched.penalty, ceiling]; exact hp j,
    fun j => by rw [touched.meter]; exact ht j, fun j => by rw [touched.meter]; exact hs j⟩

theorem takeFrom_queue_length (queue : List Request) (s : State) :
    (s.takeFrom queue).management.queue.length ≤ queue.length := by
  induction queue generalizing s with
  | nil => exact Nat.le_refl _
  | cons r rest ih =>
    unfold State.takeFrom
    split
    · exact Nat.le_succ _
    · exact (ih _).trans (Nat.le_succ _)

theorem takeNext_queue_length (s : State) : s.takeNext.management.queue.length ≤ s.management.queue.length := by
  unfold State.takeNext
  split
  · exact Nat.le_refl _
  · exact takeFrom_queue_length _ s

theorem sendReply_queue (r : Request) (o : RequestOutcome) (fields : List Nat) (data : List Byte) (s : State) :
    (s.sendReply r o fields data).management = s.management :=
  (touches_sendReply (W := Anywhere) (fun _ _ => trivial) o fields data s).management

theorem keeps_sendReply (r : Request) (o : RequestOutcome) (fields : List Nat) (data : List Byte) (s : State) :
    Keeps s (s.sendReply r o fields data) :=
  (touches_sendReply (W := Anywhere) (fun _ _ => trivial) o fields data s).keeps

theorem keeps_respond (o : RequestOutcome) (fields : List Nat) (data : List Byte) (s : State) :
    Keeps s (s.respond o fields data) := by
  refine .of_queue (touches_respond o fields data s) fun h => ?_
  unfold State.respond
  split
  · exact h
  · refine (takeNext_queue_length _).trans (Nat.le_trans (Nat.le_of_eq ?_) h)
    exact congrArg (·.queue.length) (sendReply_queue ..)

theorem keeps_arrive (r : Request) (s : State) : Keeps s (s.arrive r) := by
  refine .of_queue (touches_arrive r s) fun h => ?_
  unfold State.arrive
  split
  · rwa [sendReply_queue]
  · next room =>
    refine (takeNext_queue_length _).trans ?_
    simp only [State.updManagement, List.length_append, List.length_cons, List.length_nil]
    exact Nat.lt_of_not_le room

theorem keeps_receive (i : Instr) (s : State) : Keeps s (s.receive i) := by
  unfold State.receive
  split
  · exact .refl s
  · split
    · exact .refl s
    · exact keeps_arrive _ s

theorem keeps_holdEngine (s : State) : Keeps s s.holdEngine := (touches_holdEngine (W := Anywhere) s).keeps

theorem keeps_respondTaken (clamped : Bool) (field : Nat) (s : State) : Keeps s (s.respondTaken clamped field) :=
  .ite (fun _ => keeps_respond ..) fun _ => keeps_respond ..

/-! ### The channels and the pending set -/

/-- A channel's count, trigger, mode, series link and superseded count fit whether it is armed (section 12.1). -/
structure Channel.Sound (c : Channel) : Prop where
  armed : c.armed = true → 1 ≤ c.remaining ∧ c.remaining ≤ 255 ∧ c.trigger ≠ none
  disarmed : c.armed = false → c.remaining = 0 ∧ c.trigger = none ∧ c.seriesLink = none ∧ c.mode = .single
  superseded : c.slot = none → c.superseded = 0

/-- What the pending set holds (R170). -/
structure NoticeUnit.Sound (n : NoticeUnit) : Prop where
  pairs : (n.entries.map fun e => (e.kind, e.source)).Nodup
  levels : ∀ e ∈ n.entries, n.levels.get e.kind.place ≠ 0
  counts : ∀ e ∈ n.entries, 1 ≤ e.count ∧ e.count ≤ 255

theorem State.reported_iff (s : State) : s.Reported ↔ s.notices.Sound ∧ ∀ h, (s.channel h).Sound :=
  ⟨fun ⟨p, l, c, a, d, u⟩ => ⟨⟨p, l, c⟩, fun h => ⟨a h, d h, u h⟩⟩,
    fun ⟨⟨p, l, c⟩, ch⟩ => ⟨p, l, c, fun h => (ch h).armed, fun h => (ch h).disarmed, fun h => (ch h).superseded⟩⟩

/-- A change of channels and notices alone that keeps them sound. -/
theorem Keeps.of_reported {W : LinkId → Prop} {ps : List Part} {s t : State} (touched : Touches W ps s t)
    (notices : s.notices.Sound → t.notices.Sound)
    (channels : ∀ h, (s.channel h).Sound → (t.channel h).Sound)
    (n : ∀ p ∈ [Part.poolFree, .fifos, .queue, .ceiling, .penalty, .meter, .memory, .entries, .lines, .attempt, .serving],
      p ∉ ps := by decide) : Keeps s t :=
  ⟨⟨fun h => touched.poolConserved h fun p hp => n p (by revert p; decide),
    fun h => touched.bounded h fun p hp => n p (by revert p; decide),
    fun h => (State.reported_iff t).mpr ⟨notices ((State.reported_iff s).mp h).1,
      fun k => channels k (((State.reported_iff s).mp h).2 k)⟩,
    fun h => touched.single h (n _ (by decide)), fun h => touched.ordered h (n _ (by decide))⟩,
    fun _ h => touched.lawfulBut h fun p hp => n p (by revert p; decide)⟩

theorem keeps_updChannel (h : ChannelId) (f : Channel → Channel) (s : State)
    (sound : (s.channel h).Sound → (f (s.channel h)).Sound) : Keeps s (s.updChannel h f) := by
  refine .of_reported (touches_updChannel (W := Anywhere) h f s) id fun k hk => ?_
  by_cases e : h = k
  · subst e
    rw [State.channel_updChannel_self]
    exact sound hk
  · rwa [State.channel_updChannel_ne _ _ _ _ e]

theorem keeps_updNotices (f : NoticeUnit → NoticeUnit) (s : State) (sound : s.notices.Sound → (f s.notices).Sound) :
    Keeps s (s.updNotices f) :=
  .of_reported (touches_updNotices (W := Anywhere) f s) sound fun _ => id

theorem Channel.Sound.captured {c : Channel} (h : c.Sound) (r : SnapshotRecord) : (c.captured r).Sound := by
  unfold Channel.captured
  simp only
  split
  · exact ⟨nofun, fun _ => ⟨by simp only; omega, rfl, rfl, rfl⟩, nofun⟩
  · next more =>
    refine ⟨fun a => ?_, fun a => ?_, nofun⟩
    · obtain ⟨-, most, trigger⟩ := h.armed a
      exact ⟨by simp only; omega, by simp only; omega, trigger⟩
    · have := (h.disarmed a).1
      omega

theorem keeps_capture (h : ChannelId) (trigger : EventKind) (source : Nat) (s : State) :
    Keeps s (s.capture h trigger source).1 :=
  keeps_updChannel h (fun c => c.captured (s.captureRecord h trigger source)) s fun c => c.captured _

theorem keeps_claim (h : ChannelId) (kind : EventKind) (source : Nat) (s : State) :
    Keeps s (s.claim h kind source).1 := by
  unfold State.claim
  split
  · exact keeps_capture ..
  · next series =>
    split
    · exact .refl s
    · refine keeps_updChannel h (fun c => { c with seriesLink := some (indexOf 64 source) }) s fun c =>
        ⟨c.armed, fun a => ?_, c.superseded⟩
      exact nomatch series.symm.trans (c.disarmed a).2.2.2

/-- An entry of a pair that the pending set lacks joins it. -/
theorem NoticeUnit.Sound.append {n : NoticeUnit} (h : n.Sound) (e : PendingEntry)
    (fresh : ∀ x ∈ n.entries, ¬ (x.kind = e.kind ∧ x.source = e.source)) (level : n.levels.get e.kind.place ≠ 0)
    (count : 1 ≤ e.count ∧ e.count ≤ 255) : ({ n with entries := n.entries ++ [e] } : NoticeUnit).Sound := by
  refine ⟨?_, ?_, ?_⟩
  · rw [List.map_append]
    refine h.pairs.append (List.nodup_singleton _) fun p hp hq => ?_
    obtain ⟨x, hx, rfl⟩ := List.mem_map.mp hp
    simp only [List.map_cons, List.map_nil, List.mem_singleton, Prod.mk.injEq] at hq
    exact fresh x hx hq
  · simpa [or_imp, forall_and] using ⟨h.levels, level⟩
  · intro x hx
    rcases List.mem_append.mp hx with hx | hx
    · exact h.counts x hx
    · exact List.mem_singleton.mp hx ▸ count

/-- Entries that keep their pairs, with counts in bounds. -/
theorem NoticeUnit.Sound.map {n : NoticeUnit} (h : n.Sound) (f : PendingEntry → PendingEntry)
    (pair : ∀ x, (f x).kind = x.kind ∧ (f x).source = x.source)
    (count : ∀ x, 1 ≤ x.count ∧ x.count ≤ 255 → 1 ≤ (f x).count ∧ (f x).count ≤ 255) :
    ({ n with entries := n.entries.map f } : NoticeUnit).Sound := by
  refine ⟨?_, ?_, ?_⟩
  · have same : (fun e : PendingEntry => (e.kind, e.source)) ∘ f = fun e => (e.kind, e.source) :=
      funext fun x => by simp [pair x]
    rw [List.map_map, same]
    exact h.pairs
  · simp only [List.mem_map, forall_exists_index, and_imp, forall_apply_eq_imp_iff₂]
    exact fun x hx => (pair x).1 ▸ h.levels x hx
  · simp only [List.mem_map, forall_exists_index, and_imp, forall_apply_eq_imp_iff₂]
    exact fun x hx => count x (h.counts x hx)

theorem NoticeUnit.Sound.filter {n : NoticeUnit} (h : n.Sound) (p : PendingEntry → Bool) :
    ({ n with entries := n.entries.filter p } : NoticeUnit).Sound :=
  ⟨h.pairs.sublist (List.filter_sublist.map _), fun x hx => h.levels x (List.mem_filter.mp hx).1,
    fun x hx => h.counts x (List.mem_filter.mp hx).1⟩

theorem keeps_setDiscardMark (j : LinkId) (b : Bool) (s : State) :
    Keeps s (s.updLink j fun l => { l with discardMark := b }) :=
  (touches_updLink (ps := [.discardMark]) s (only_self j) fun l p => by cases p <;> simp [Part.SameLink]).keeps

theorem keeps_noticeEvent (e : Event) (s : State) : Keeps s (s.noticeEvent e) := by
  unfold State.noticeEvent
  refine .ite (fun _ => .refl s) fun level => .ite (fun _ => ?_) fun fresh => ?_
  · refine keeps_updNotices _ s fun h => h.map _ (fun x => ?_) fun x hx => ?_
    · split <;> exact ⟨rfl, rfl⟩
    · split
      · simp only
        omega
      · exact hx
  · have joined : Keeps s (s.updNotices fun n => { n with entries := n.entries ++ [⟨e.kind, e.source, e.detail, 1⟩] }) :=
      keeps_updNotices _ s fun h => h.append _ (by simpa using fresh) level ⟨Nat.le_refl _, by simp only; omega⟩
    exact .ite (fun _ => joined.trans (keeps_setDiscardMark ..)) fun _ => joined

theorem keeps_offer (fuel : Nat) (e : Event) (s : State) : Keeps s (s.offer fuel e) := by
  induction fuel generalizing e s with
  | zero => exact keeps_noticeEvent e s
  | succ fuel ih =>
    unfold State.offer
    split
    · exact keeps_noticeEvent e s
    · next h _ =>
      have claimed := keeps_claim h e.kind e.source s
      split
      · next t claim =>
        rwa [claim] at claimed
      · next t done claim =>
        rw [claim] at claimed
        exact claimed.trans (ih done t)

theorem keeps_seriesCapture (j : LinkId) (h : ChannelId) (s : State) : Keeps s (s.seriesCapture j h) := by
  unfold State.seriesCapture
  split
  · next t _ _ =>
    refine .ite (fun _ => ?_) fun _ => .refl s
    have captured := keeps_capture h t.kind j.val s
    split
    · next u e =>
      rwa [e] at captured
    · next u done e =>
      rw [e] at captured
      exact captured.trans (keeps_offer 4 done u)
  · exact .refl s

theorem keeps_offerSignal (x : Signal) (s : State) : Keeps s (s.offerSignal x) := by
  unfold State.offerSignal
  split
  · exact keeps_offer 4 _ s
  · exact .ite (fun _ => .refl s) fun _ => keeps_offer 4 _ s
  · exact .forEach fun h _ t => keeps_seriesCapture _ h t

/-! ### The service port and the end of a step -/

theorem keeps_beginService (m : ManagementFrame) (s : State) : Keeps s (s.beginService m) :=
  .of_reported (W := Anywhere) (ps := [.service, .notices])
    (.of_parts fun p => by cases p <;> simp [Part.Same, State.cage, State.link, State.beginService])
    (fun h => ⟨h.pairs, h.levels, h.counts⟩) fun _ => id

theorem keeps_sendSnapshot (h : ChannelId) (r : SnapshotRecord) (s : State) : Keeps s (s.sendSnapshot h r) :=
  (keeps_updChannel h _ s fun c => ⟨c.armed, c.disarmed, fun _ => rfl⟩).trans (keeps_beginService ..)

theorem keeps_sendNotice (e : PendingEntry) (s : State) : Keeps s (s.sendNotice e) := by
  have left : Keeps s (s.updNotices fun n =>
      { n with entries := n.entries.filter fun x => !(x.kind = e.kind && x.source = e.source) }) :=
    keeps_updNotices _ s fun h => h.filter _
  unfold State.sendNotice
  simp only
  split
  · exact (left.trans (keeps_setDiscardMark ..)).trans (keeps_beginService ..)
  · exact left.trans (keeps_beginService ..)

theorem touches_setService (p : ServicePort) (s : State) : Touches Anywhere [.service] s { s with service := p } :=
  .of_parts fun p => by cases p <;> simp [Part.Same, State.cage, State.link]

theorem keeps_serveOut (s : State) : Keeps s s.serveOut := by
  unfold State.serveOut
  refine .ite (fun _ => .refl s) fun _ => ?_
  split
  · exact (touches_setService _ s).keeps.trans (keeps_beginService ..)
  · refine .ite (fun _ => .refl s) fun _ => ?_
    split
    · exact keeps_sendSnapshot ..
    · split
      · exact keeps_sendNotice ..
      · exact .refl s

theorem touches_setRaised (x : List Signal) (s : State) : Touches Anywhere [.raised] s { s with raised := x } :=
  .of_parts fun p => by cases p <;> simp [Part.Same, State.cage, State.link]

theorem keeps_settle (s : State) : Keeps s s.settle :=
  ((touches_setRaised [] s).keeps.trans (.forEach fun x _ t => keeps_offerSignal x t)).trans (keeps_serveOut _)

/-! ### A step's end -/

/-- A change keeps each invariant that holds before it, no cage being about to leave SERVING. -/
structure Preserves (s t : State) : Prop extends KeepsData s t where
  lawful : s.Lawful → t.Lawful

section
variable {s t u : State}

theorem Keeps.preserves (h : Keeps s t) : Preserves s t :=
  ⟨h.toKeepsData, fun l => (State.lawful_iff t).mpr (h.lawful _ ((State.lawful_iff s).mp l))⟩

theorem Preserves.refl (s : State) : Preserves s s := (Keeps.refl s).preserves

theorem Preserves.trans (h : Preserves s t) (g : Preserves t u) : Preserves s u :=
  ⟨h.toKeepsData.trans g.toKeepsData, g.lawful ∘ h.lawful⟩

theorem Preserves.ite {p : Prop} [Decidable p] (h : p → Preserves s t) (g : ¬ p → Preserves s u) :
    Preserves s (if p then t else u) := by
  split
  · next c => exact h c
  · next c => exact g c

theorem Preserves.forEach {α : Type} {f : α → State → State} {l : List α} (h : ∀ x ∈ l, ∀ t, Preserves t (f x t)) :
    Preserves s (s.forEach f l) := by
  induction l generalizing s with
  | nil => exact refl s
  | cons x rest ih => exact (h x (by simp) s).trans (ih fun y hy => h y (by simp [hy]))

end

/-- A step's outcome that keeps the invariants. -/
def KeepsIn (s : State) (r : Result) : Prop := ∀ t, r = .next t → Preserves s t

theorem preservesIn_answer {s u : State} (h : Preserves s u) : KeepsIn s u.answer := by
  rintro t ⟨⟩
  exact h.trans (keeps_settle u).preserves

theorem preservesIn_serve {i : Instr} {f : State → State} {s : State} (h : ∀ t, Preserves t (f t)) :
    KeepsIn s (serve i f s) :=
  preservesIn_answer ((keeps_receive i s).preserves.trans (.ite (fun _ => h _) fun _ => .refl _))

theorem keepsIn_answer {s u : State} (h : Keeps s u) : KeepsIn s u.answer := preservesIn_answer h.preserves

theorem keepsIn_serve {i : Instr} {f : State → State} {s : State} (h : ∀ t, Keeps t (f t)) :
    KeepsIn s (serve i f s) := preservesIn_serve fun t => (h t).preserves

theorem keeps_reach (m : Moment) (s : State) : Keeps s (s.reach m) := (touches_reach (W := Anywhere) m s).keeps

theorem keeps_onExpiry (t : Timer) (f : State → State) (s : State)
    (h : t.isSome → ∀ m, Keeps (s.reach m) (f (s.reach m))) : Keeps s (s.onExpiry t f) := by
  cases t with
  | none => exact .refl s
  | some m => exact (keeps_reach m s).trans (h rfl m)

theorem preserves_onExpiry (t : Timer) (f : State → State) (s : State)
    (h : t.isSome → ∀ m, Preserves (s.reach m) (f (s.reach m))) : Preserves s (s.onExpiry t f) := by
  cases t with
  | none => exact .refl s
  | some m => exact (keeps_reach m s).preserves.trans (h rfl m)

end Sys2Proof.Machine
end

section
/-! PROOFS. The link events, the requests on links and the traffic events keep every invariant. -/

set_option Elab.async false

namespace Sys2Proof.Machine

/-! ### The engine's changes that no law reads -/

theorem keeps_updEngine_rest (j : LinkId) (f : LinkEngine → LinkEngine) (s : State)
    (h : ∀ e, (f e).recovery = e.recovery ∧ (f e).adaptationTimer = e.adaptationTimer
      ∧ (f e).alignmentTimer = e.alignmentTimer := by exact fun _ => ⟨rfl, rfl, rfl⟩) : Keeps s (s.updEngine j f) :=
  (touches_updEngine_rest (only_self j) f s h).keeps

/-- A working link that is not UP moves on to a state without an attempt timer of its own. -/
theorem keeps_moveOn (j : LinkId) (f : LinkEngine → LinkEngine) (s : State) (working : ¬ (s.link j).Rests)
    (ended : (s.link j).engine.recovery ≠ .up) (active : (f (s.link j).engine).recovery ≠ .inactive)
    (adapting : ((s.link j).engine.adaptationTimer.isSome → (s.link j).engine.recovery = .adapting) →
      (f (s.link j).engine).adaptationTimer.isSome → (f (s.link j).engine).recovery = .adapting)
    (aligning : ((s.link j).engine.alignmentTimer.isSome → (s.link j).engine.recovery = .aligning) →
      (f (s.link j).engine).alignmentTimer.isSome → (f (s.link j).engine).recovery = .aligning) :
    Keeps s (s.updEngine j f) := by
  refine .of_engine (touches_updEngine (only_self j) f s) ?_
  rw [State.link_updEngine_self]
  exact .of_engine working rfl rfl active (fun e => absurd e ended) adapting aligning

/-- A link that waits after its attempt in QUALIFYING, PEER-HOLD or DAMPED has no attempt timer running. -/
theorem keeps_setWaiting (j : LinkId) (v w : RecoveryState) (s : State) (recovery : (s.link j).engine.recovery = v)
    (waits : v = .qualifying ∨ v = .peerHold ∨ v = .damped) (working : w.isWorking = true) :
    Keeps s (s.updEngine j fun e => { e with recovery := w }) := by
  refine keeps_moveOn j _ s (Link.not_rests_of recovery ?_) ?_ ?_ (fun h e => ?_) fun h e => ?_
  · rcases waits with rfl | rfl | rfl <;> rfl
  · rcases waits with rfl | rfl | rfl <;> exact recovery ▸ nofun
  · rintro (rfl : w = .inactive)
    cases working
  · rcases waits with rfl | rfl | rfl <;> exact nomatch recovery.symm.trans (h e)
  · rcases waits with rfl | rfl | rfl <;> exact nomatch recovery.symm.trans (h e)

/-! ### Qualification and the peer check -/

theorem keeps_proceed (j : LinkId) (s : State) {v : RecoveryState} (recovery : (s.link j).engine.recovery = v)
    (waits : v = .qualifying ∨ v = .peerHold ∨ v = .damped) : Keeps s (s.proceed j) :=
  .ite (fun _ => keeps_setWaiting j v .damped s recovery waits rfl) fun _ => keeps_admitLink j _ true s recovery waits

/-- The peer record a peer check stores (R101). -/
def State.storePeer (j : LinkId) (store : Option PeerIdentity) (s : State) : State :=
  match store with
  | some p => s.setPeer j (some p)
  | none => s

/-- The event a peer check raises (R101). -/
def State.tell (j : LinkId) (event : Option EventKind) (s : State) : State :=
  match event with
  | some k => s.raise k j.val
  | none => s

/-- What a peer check finds for a link. -/
def State.peerCheck (s : State) (j : LinkId) : PeerVerdict :=
  peerVerdict (s.linkSet j).peerMode ((s.link j).engine.heardPeer.map HeardPeer.identity) (s.memory.peers.get j)

theorem State.completeQualification_eq (j : LinkId) (s : State) : s.completeQualification j =
    (let t := s.updEngine j fun e => { e with probeTimer := none, grade := if e.marginal then .degraded else .full }
     let u := (t.storePeer j (s.peerCheck j).store).tell j (s.peerCheck j).event
     if (s.peerCheck j).proceeds then u.proceed j else u.updEngine j fun e => { e with recovery := .peerHold }) := rfl

theorem keeps_storePeer (j : LinkId) (store : Option PeerIdentity) (s : State) : Keeps s (s.storePeer j store) := by
  cases store with
  | none => exact .refl s
  | some p => exact keeps_setPeer j _ s

theorem keeps_tell (j : LinkId) (event : Option EventKind) (s : State) : Keeps s (s.tell j event) := by
  cases event with
  | none => exact .refl s
  | some k => exact keeps_raise ..

theorem State.link_storePeer (j : LinkId) (store : Option PeerIdentity) (s : State) :
    (s.storePeer j store).link j = s.link j := by
  cases store <;> rfl

theorem State.link_tell (j : LinkId) (event : Option EventKind) (s : State) : (s.tell j event).link j = s.link j := by
  cases event <;> rfl

theorem keeps_completeQualification (j : LinkId) (s : State) (recovery : (s.link j).engine.recovery = .qualifying) :
    Keeps s (s.completeQualification j) := by
  have graded := touches_updEngine_rest (only_self j) (fun e => { e with
    probeTimer := none, grade := if e.marginal then Grade.degraded else .full }) s fun _ => ⟨rfl, rfl, rfl⟩
  rw [State.completeQualification_eq]
  have checked := fun v : PeerVerdict => (graded.keeps.trans (keeps_storePeer j v.store _)).trans (keeps_tell j v.event _)
  have waiting := fun v : PeerVerdict =>
    (congrArg (·.engine.recovery) ((State.link_tell j v.event _).trans (State.link_storePeer j v.store _))).trans
      ((graded.like j).recovery.trans recovery)
  exact .ite (fun _ => (checked _).trans (keeps_proceed j _ (waiting _) (.inl rfl))) fun _ =>
    (checked _).trans (keeps_setWaiting j _ .peerHold _ (waiting _) (.inl rfl) rfl)

theorem keeps_qualFailed (j : LinkId) (s : State) (working : ¬ (s.link j).Rests)
    (ended : (s.link j).engine.recovery ≠ .up) : Keeps s (s.qualFailed j) := by
  have raised := (touches_raise (W := Only j) .qualFailed j.val 0 s).trans
    (touches_addPenalty (only_self j) s.settings.lossIncrement _) (rs := [.penalty, .suppressed, .raised])
  refine ((keeps_raise ..).trans (keeps_addPenalty ..)).trans (keeps_attemptFailed j _ _ ?_ ?_)
  · rwa [Link.Rests, raised.engine j]
  · rwa [raised.engine j]

theorem keeps_clearDegraded (j : LinkId) (s : State) : Keeps s (s.clearDegraded j) :=
  ((keeps_updEngine_rest j _ s).trans (keeps_raise ..)).trans (keeps_meterRecovered j _)

theorem keeps_applyVerdict (j : LinkId) (v : Verdict) (s : State) : Keeps s (s.applyVerdict j v) := by
  unfold State.applyVerdict
  simp only
  split
  · next recovery =>
    exact .ite (fun _ => keeps_qualFailed j s (Link.not_rests_of recovery) (recovery ▸ nofun)) fun _ =>
      .ite (fun _ => keeps_completeQualification j s recovery) fun _ => .refl s
  · next recovery =>
    exact .ite (fun _ => keeps_qualFailed j s (Link.not_rests_of recovery) (recovery ▸ nofun)) fun _ => .refl s
  · next recovery =>
    exact .ite (fun _ => keeps_qualFailed j s (Link.not_rests_of recovery) (recovery ▸ nofun)) fun _ => .refl s
  · next recovery =>
    exact .ite (fun _ => keeps_lossPath .errors j s (Link.not_rests_of recovery)) fun _ =>
      .ite (fun _ => keeps_clearDegraded j s) fun _ => .refl s
  all_goals exact .refl s

theorem keeps_signal (x : Signal) (s : State) : Keeps s (s.signal x) := (touches_signal (W := Anywhere) x s).keeps

theorem keeps_windowEnd (j : LinkId) (s : State) : Keeps s (s.windowEnd j) := by
  unfold State.windowEnd
  simp only
  refine Keeps.trans (Keeps.trans (keeps_updEngine_rest j _ s ?_) (keeps_signal ..)) (keeps_applyVerdict ..)
  exact fun e => e.countVerdict_attempt _

theorem keeps_sendProbe (j : LinkId) (s : State) : Keeps s (s.sendProbe j) := (touches_sendProbe (only_self j) s).keeps

theorem keeps_enterQualifying (j : LinkId) (s : State) (recovery : (s.link j).engine.recovery = .aligning) :
    Keeps s (s.enterQualifying j) := by
  refine Keeps.trans (keeps_moveOn j _ s (Link.not_rests_of recovery) (recovery ▸ nofun) ?_ ?_ ?_)
    (keeps_sendProbe j _)
  · exact nofun
  · exact fun h e => nomatch recovery.symm.trans (h e)
  · exact fun _ => nofun

/-! ### Lock -/

theorem keeps_judgeWhole (j : LinkId) (s : State) : Keeps s (s.judgeWhole j) :=
  (touches_judgeWhole (only_self j) s).keeps

theorem keeps_confirmLoss (j : LinkId) (s : State) : Keeps s (s.confirmLoss j) := by
  unfold State.confirmLoss
  split
  · next recovery => exact keeps_attemptFailed j _ s (Link.not_rests_of recovery) (recovery ▸ nofun)
  · next recovery => exact keeps_attemptFailed j _ s (Link.not_rests_of recovery) (recovery ▸ nofun)
  · next recovery => exact keeps_lossPath .signal j s (Link.not_rests_of recovery)
  · next recovery => exact keeps_lossPath .signal j s (Link.not_rests_of recovery)
  · next recovery => exact keeps_lossPath .signal j s (Link.not_rests_of recovery)
  all_goals exact .refl s

theorem keeps_lockLost (j : LinkId) (s : State) : Keeps s (s.lockLost j) :=
  .ite (fun _ => .refl s) fun _ => .ite (fun _ => keeps_confirmLoss j s) fun _ =>
    keeps_updEngine_rest j _ s

theorem keeps_measureSkew (j : LinkId) (s : State) (recovery : (s.link j).engine.recovery = .aligning) :
    Keeps s (s.measureSkew j) := by
  unfold State.measureSkew
  simp only
  have measured := fun x : Nat => touches_updEngine_rest (only_self j)
    (fun e : LinkEngine => { e with measuredSkew := some x }) s fun _ => ⟨rfl, rfl, rfl⟩
  have still := fun x : Nat => ((measured x).like j).recovery.trans recovery
  split
  · exact (measured _).keeps.trans (keeps_attemptFailed j _ _ (Link.not_rests_of (still _)) (still _ ▸ nofun))
  · exact (measured _).keeps.trans (keeps_updEngine_rest j _ _)

theorem keeps_enterAligning (j : LinkId) (s : State) (recovery : (s.link j).engine.recovery = .adapting) :
    Keeps s (s.enterAligning j) :=
  keeps_moveOn j _ s (Link.not_rests_of recovery) (recovery ▸ nofun) nofun (fun _ => nofun) fun _ _ => rfl

theorem keeps_converge (j : LinkId) (r : Convergence) (s : State) : Keeps s (s.converge j r) := by
  have joined := touches_updEngine_rest (only_self j) (fun e => { e with converged := e.converged.set r.lane true }) s
    fun _ => ⟨rfl, rfl, rfl⟩
  refine .ite (fun c => .ite (fun _ => joined.keeps.trans (keeps_enterAligning j _ ?_)) fun _ => joined.keeps)
    fun _ => .refl s
  refine (joined.like j).recovery.trans ?_
  simp only [Bool.and_eq_true, decide_eq_true_eq] at c
  exact c.1.1

theorem keeps_lockMarker (j : LinkId) (n : LaneId) (offset : Nat) (s : State) : Keeps s (s.lockMarker j n offset) := by
  refine .ite (fun _ => ?_) fun _ => .refl s
  have locked := (keeps_updEngine_rest j (fun e => { e with
      markerLock := e.markerLock.set n true
      hadMarker := e.hadMarker.set n true
      markerOffset := e.markerOffset.set n offset }) s fun _ => ⟨rfl, rfl, rfl⟩).trans (keeps_judgeWhole j _)
  refine .ite (fun due => locked.trans (keeps_measureSkew j _ ?_)) fun _ => locked
  simp only [State.skewDue, Bool.and_eq_true, decide_eq_true_eq] at due
  exact due.1.1

theorem keeps_lockFec (j : LinkId) (s : State) : Keeps s (s.lockFec j) :=
  .ite (fun _ => .refl s) fun _ => .ite
    (fun recovery => .ite (fun _ => keeps_enterQualifying j s recovery) fun _ => .refl s) fun _ =>
      .ite (fun _ => (keeps_updEngine_rest j _ s).trans (keeps_judgeWhole j _)) fun _ => .refl s

theorem keeps_loseLock (j : LinkId) (what : LockLoss) (s : State) : Keeps s (s.loseLock j what) := by
  refine .ite (fun _ => .refl s) fun _ => ?_
  cases what with
  | marker n =>
    exact .ite (fun _ => (keeps_updEngine_rest j _ s).trans (keeps_lockLost j _)) fun _ => .refl s
  | fec =>
    exact .ite (fun _ => (keeps_updEngine_rest j _ s).trans (keeps_lockLost j _)) fun _ => .refl s

theorem keeps_probeAgain (j : LinkId) (s : State) : Keeps s (s.probeAgain j) :=
  (keeps_updEngine_rest j _ s).trans (keeps_sendProbe j _)

/-- An attempt whose timer runs is in that timer's state, and fails (R85). -/
theorem keeps_attemptTimedOut (j : LinkId) (s : State) (t : Timer) (cause : FailureCause)
    (timed : t.isSome → ∀ a, (s.link j).Fits a →
      (s.link j).engine.recovery = .adapting ∨ (s.link j).engine.recovery = .aligning) :
    Keeps s (s.onExpiry t fun u => u.attemptFailed j cause) := by
  refine keeps_onExpiry t _ s fun running m => ?_
  refine .of_engine (touches_attemptFailed (only_self j) cause _) fun a h => ?_
  have recovery := timed running a h
  have works : ¬ ((s.reach m).link j).Rests := by
    rcases recovery with recovery | recovery
    · exact Link.not_rests_of (l := (s.reach m).link j) recovery
    · exact Link.not_rests_of (l := (s.reach m).link j) recovery
  refine follows_attemptFailed j cause _ works ?_ a h
  rcases recovery with recovery | recovery
  · exact fun e => nomatch recovery.symm.trans e
  · exact fun e => nomatch recovery.symm.trans e

/-! ### The damping tick (R108) -/

theorem decayed_le (factor penalty : Nat) (h : factor ≤ 65535) : decayed factor penalty ≤ penalty := by
  unfold decayed
  exact Nat.div_le_of_le_mul (by nlinarith)

theorem keeps_reuse (j : LinkId) (s : State) : Keeps s (s.reuse j) := by
  refine .ite (fun _ => ?_) fun _ => .refl s
  have reused := (touches_setSuppressed (only_self j) false s).trans
    (touches_raise (W := Only j) .reused j.val 0 _) (rs := [.suppressed, .raised])
  exact .ite (fun recovery => reused.keeps.trans (keeps_admitLink j _ true _ ((reused.like j).recovery.trans recovery)
    (.inr (.inr rfl)))) fun _ => reused.keeps

theorem keeps_pauseClass (j : LinkId) (k : ClassId) (s : State) : Keeps s (s.pauseClass j k) :=
  (touches_pauseClass (only_self j) k s).keeps

end Sys2Proof.Machine
end

section
/-! PROOFS. The link events, the requests on links and the traffic events, each a step that keeps every invariant. -/

set_option Elab.async false

namespace Sys2Proof.Machine

/-! ### The damping tick (R108) -/

theorem touches_setTickTimer (m : Moment) (s : State) : Touches Anywhere [.tickTimer] s { s with tickTimer := m } :=
  .of_parts fun p => by cases p <;> simp [Part.Same, State.cage, State.link]

theorem keepsData_of_bounded {W : LinkId → Prop} {s t : State} (touched : Touches W [.penalty] s t)
    (bounded : s.Bounded → t.Bounded) : KeepsData s t :=
  ⟨fun h => touched.poolConserved h, bounded, fun h => touched.reported h, fun h => touched.single h,
    fun h => touched.ordered h⟩

/-- Every link's penalty lowered. -/
theorem keeps_lowerPenalties (f : Nat → Nat) (s : State) (lower : s.Bounded → ∀ n, f n ≤ n) :
    Keeps s (s.forEach (fun j => State.updLink j fun l => { l with penalty := f l.penalty }) allLinks) := by
  have each := fun (j : LinkId) (t : State) => touches_setPenalty (W := Anywhere) (j := j) trivial f t
  have all : Touches Anywhere [.penalty] s
      (s.forEach (fun j => State.updLink j fun l => { l with penalty := f l.penalty }) allLinks) :=
    .forEach fun j _ t => each j t
  refine ⟨keepsData_of_bounded all fun h => ?_, fun _ h => all.lawfulBut h⟩
  have low := lower h
  generalize allLinks = l
  clear all lower
  induction l generalizing s with
  | nil => exact h
  | cons j rest ih =>
    exact ih _ ((keepsData_setPenalty j f s ((low _).trans ·)).bounded h)

theorem keeps_dampingTick (s : State) : Keeps s s.dampingTick := by
  refine ((touches_setTickTimer _ s).keeps.trans (keeps_lowerPenalties (decayed s.settings.decayFactor) _ fun h n => ?_)).trans
    (.forEach fun j _ t => keeps_reuse j t)
  exact decayed_le _ n h.decayFactor

/-! ### The link events -/

theorem keepsIn_execLaneConverged (j : LinkId) (r : Convergence) (s : State) : KeepsIn s (execLaneConverged j r s) :=
  keepsIn_answer (keeps_converge j r s)

theorem keepsIn_execAdaptationTimerExpiry (j : LinkId) (s : State) : KeepsIn s (execAdaptationTimerExpiry j s) :=
  keepsIn_answer (keeps_attemptTimedOut j s _ _ fun timed _ h => .inl (h.adapting timed))

theorem keepsIn_execAlignmentTimerExpiry (j : LinkId) (s : State) : KeepsIn s (execAlignmentTimerExpiry j s) :=
  keepsIn_answer (keeps_attemptTimedOut j s _ _ fun timed _ h => .inr (h.aligning timed))

theorem keepsIn_execMarkerLock (j : LinkId) (n : LaneId) (offset : Nat) (s : State) :
    KeepsIn s (execMarkerLock j n offset s) := keepsIn_answer (keeps_lockMarker j n offset s)

theorem keepsIn_execFecLock (j : LinkId) (s : State) : KeepsIn s (execFecLock j s) := keepsIn_answer (keeps_lockFec j s)

theorem keepsIn_execLossOfLock (j : LinkId) (what : LockLoss) (s : State) : KeepsIn s (execLossOfLock j what s) :=
  keepsIn_answer (keeps_loseLock j what s)

theorem keepsIn_execLockLossTimerExpiry (j : LinkId) (s : State) : KeepsIn s (execLockLossTimerExpiry j s) :=
  keepsIn_answer (keeps_onExpiry _ _ s fun _ _ => (keeps_updEngine_rest j _ _).trans (keeps_confirmLoss j _))

theorem keepsIn_execWindowTimerExpiry (j : LinkId) (s : State) : KeepsIn s (execWindowTimerExpiry j s) :=
  keepsIn_answer (keeps_onExpiry _ _ s fun _ _ => keeps_windowEnd j _)

theorem keepsIn_execProbeIntervalExpiry (j : LinkId) (s : State) : KeepsIn s (execProbeIntervalExpiry j s) :=
  keepsIn_answer (keeps_onExpiry _ _ s fun _ _ => keeps_probeAgain j _)

theorem keepsIn_execCodewordDecoded (j : LinkId) (corrected : Nat) (uncorrectable : Bool) (s : State) :
    KeepsIn s (execCodewordDecoded j corrected uncorrectable s) := by
  unfold execCodewordDecoded
  split
  · exact keepsIn_answer (keeps_updEngine_rest j _ s)
  · exact keepsIn_answer (.refl s)

theorem keepsIn_execDecayTickExpiry (s : State) : KeepsIn s (execDecayTickExpiry s) :=
  keepsIn_answer ((keeps_reach ..).trans (keeps_dampingTick _))

theorem keepsIn_execHoldTimerExpiry (j : LinkId) (s : State) : KeepsIn s (execHoldTimerExpiry j s) :=
  keepsIn_answer (keeps_onExpiry _ _ s fun timed m => keeps_holdExpired j (s.reach m) timed)

theorem keepsIn_execPauseRefreshExpiry (j : LinkId) (k : ClassId) (s : State) :
    KeepsIn s (execPauseRefreshExpiry j k s) :=
  keepsIn_answer (keeps_onExpiry _ _ s fun _ _ => keeps_pauseClass j k _)

/-! ### The requests on links -/

theorem keepsIn_serve_onLink {i : Instr} {link : Byte} {f : LinkId → State → State} {s : State}
    (h : ∀ j t, Keeps t (f j t)) : KeepsIn s (serve i (State.onLink link f) s) :=
  keepsIn_serve fun t => .ite (fun _ => keeps_respond ..) fun _ => h _ t

theorem keeps_extendHold (extension : Nat) (j : LinkId) (s : State) : Keeps s (s.extendHold extension j) := by
  unfold State.extendHold
  split
  · next held =>
    unfold State.lengthenHold
    refine Keeps.trans (.of_engine (touches_updHold (only_self j) _ s) ?_) (keeps_respond ..)
    rw [State.link_updHold_self]
    intro a h
    exact ⟨⟨⟨h.active, h.unused, h.metered, h.ramping, fun _ => held, h.adapting, h.aligning⟩, h.admitted⟩, id⟩
  all_goals exact keeps_respond ..

theorem keeps_forceAdmit (j : LinkId) (s : State) : Keeps s (s.forceAdmit j) := by
  unfold State.forceAdmit
  split
  · next r => exact (keeps_admitLink j _ _ s r (.inl rfl)).trans (keeps_respond ..)
  · next r => exact (keeps_admitLink j _ _ s r (.inr (.inl rfl))).trans (keeps_respond ..)
  · next r => exact (keeps_admitLink j _ _ s r (.inr (.inr rfl))).trans (keeps_respond ..)
  all_goals exact keeps_respond ..

theorem keeps_acceptPeer (j : LinkId) (s : State) : Keeps s (s.acceptPeer j) :=
  .ite (fun recovery => ((keeps_setPeer j _ s).trans (keeps_proceed j (s.setPeer j _) recovery (.inr (.inl rfl)))).trans
    (keeps_respond ..)) fun _ => keeps_respond ..

theorem keeps_retryLink (j : LinkId) (s : State) : Keeps s (s.retryLink j) :=
  .ite (fun recovery => (keeps_enterAdapting j none 0 s (Link.not_rests_of recovery) (recovery ▸ nofun)).trans
    (keeps_respond ..)) fun _ => keeps_respond ..

theorem keeps_clearPenalty (j : LinkId) (s : State) : Keeps s (s.clearPenalty j) := by
  have cleared : Touches (Only j) [.penalty, .suppressed] s
      (s.updLink j fun l => { l with penalty := 0, suppressed := false }) :=
    touches_updLink s (only_self j) fun l p => by cases p <;> simp [Part.SameLink]
  have keeps : Keeps s (s.updLink j fun l => { l with penalty := 0, suppressed := false }) :=
    ⟨⟨fun h => cleared.poolConserved h, fun h => h.of_link cleared
      (by rw [cleared.meter]; exact id) (by rw [State.link_updLink_self]; exact fun _ => Nat.zero_le _),
      fun h => cleared.reported h, fun h => cleared.single h, fun h => cleared.ordered h⟩, fun _ h => cleared.lawfulBut h⟩
  refine Keeps.trans (.ite (fun recovery => keeps.trans (keeps_admitLink j _ _ _ ?_ (.inr (.inr rfl)))) fun _ => keeps)
    (keeps_respond ..)
  exact (cleared.like j).recovery.trans recovery

theorem keeps_flushPark (j : LinkId) (s : State) : Keeps s (s.flushPark j) := by
  unfold State.flushPark
  exact ((keeps_flushLink .flushed j s).trans (keeps_endReplay j _)).trans (keeps_respond ..)

/-! ### The traffic events -/

theorem keeps_managementFrame (port : Port) (frame : List Byte) (s : State) : Keeps s (s.managementFrame port frame) :=
  .ite (fun _ => .refl s) fun _ => .ite (fun _ => .refl s) fun _ => keeps_arrive ..

theorem keeps_judgeArrival (j : LinkId) (k : ClassId) (candidate : Option ClassId) (length : Nat) (admissible : Bool)
    (s : State) : Keeps s (s.judgeArrival j k candidate length admissible) :=
  .ite (fun _ => keeps_judge j s) fun _ => keeps_endReplay j s

theorem keeps_passFrame (j : LinkId) (frame : List Byte) (s : State) : Keeps s (s.passFrame j frame) :=
  (touches_passFrame (only_self j) frame s).keeps

theorem keeps_dataFrame (j : LinkId) (frame : List Byte) (s : State) : Keeps s (s.dataFrame j frame) := by
  unfold State.dataFrame
  simp only
  split
  · exact keeps_passFrame ..
  · exact (keeps_park ..).trans (keeps_judgeArrival ..)
  · exact (keeps_park ..).trans (keeps_judgeArrival ..)
  all_goals exact keeps_discard ..

theorem keeps_classify (j : LinkId) (frame : List Byte) (s : State) : Keeps s (s.classify j frame) :=
  .ite (fun _ => keeps_discard ..) fun _ => .ite
    (fun _ => .ite (fun _ => keeps_managementFrame ..) fun _ => keeps_discard ..) fun _ => keeps_dataFrame ..

theorem keeps_moduleFrame (j : LinkId) (frame : List Byte) (s : State) : Keeps s (s.moduleFrame j frame) := by
  refine .ite (fun _ => keeps_discard ..) fun _ => .ite (fun _ => ?_) fun _ => ?_
  · unfold State.hearProbe
    split
    · exact keeps_updEngine_rest j _ s
    · exact .refl s
  · split
    · exact (touches_forwardFrame (only_self j) frame s).keeps
    · exact (touches_forwardFrame (only_self j) frame s).keeps
    all_goals exact keeps_discard ..

theorem keeps_tick (j : LinkId) (s : State) (running : (s.link j).meter.mode ≠ .stopped) : Keeps s (s.tick j) :=
  ((keeps_reach ..).trans (keeps_setTokens j (fun m => min m.burst (m.tokens + m.rate)) (fun _ => s.nextTick j)
    (s.reach _) running fun _ => Nat.min_le_left ..)).trans (keeps_judge j _)

theorem keeps_transitEnded (j : LinkId) (s : State) : Keeps s (s.transitEnded j) :=
  (touches_updLink (ps := [.moduleSide]) s (only_self j) fun l p => by cases p <;> simp [Part.SameLink]).keeps.trans
    (keeps_judge j _)

theorem keeps_rampStep (j : LinkId) (s : State) (timed : (s.link j).meter.rampTimer.isSome) : Keeps s (s.rampStep j) := by
  have ramped := keeps_ramped j (s.inMs (s.linkSet j).rampStep) s timed
  exact .ite (fun _ => ramped.trans (keeps_judge j _)) fun _ => ramped

theorem keepsIn_execFrameFromSwitch (j : LinkId) (frame : List Byte) (s : State) :
    KeepsIn s (execFrameFromSwitch j frame s) := by
  unfold execFrameFromSwitch
  split
  · exact keepsIn_answer (.refl s)
  · exact keepsIn_answer (keeps_classify ..)

theorem keepsIn_execFrameFromModule (j : LinkId) (frame : List Byte) (s : State) :
    KeepsIn s (execFrameFromModule j frame s) := by
  unfold execFrameFromModule
  split
  · exact keepsIn_answer (.refl s)
  · exact keepsIn_answer (keeps_moduleFrame ..)

theorem keepsIn_execFabricEgressFree (j : LinkId) (s : State) : KeepsIn s (execFabricEgressFree j s) := by
  unfold execFabricEgressFree
  split
  · exact keepsIn_answer (touches_toFabric (only_self j) _ s).keeps
  · exact keepsIn_answer (.refl s)

theorem keepsIn_execTokenTick (j : LinkId) (s : State) : KeepsIn s (execTokenTick j s) := by
  unfold execTokenTick
  split
  · next metered => exact keepsIn_answer (keeps_tick j s (metered ▸ nofun))
  all_goals exact keepsIn_answer (.refl s)

theorem keepsIn_execModuleEgressTransitEnd (j : LinkId) (s : State) : KeepsIn s (execModuleEgressTransitEnd j s) := by
  unfold execModuleEgressTransitEnd
  split
  · exact keepsIn_answer (keeps_transitEnded j s)
  · exact keepsIn_answer (.refl s)

theorem keepsIn_execRampTimerExpiry (j : LinkId) (s : State) : KeepsIn s (execRampTimerExpiry j s) :=
  keepsIn_answer (keeps_onExpiry _ _ s fun timed m => keeps_rampStep j (s.reach m) timed)

theorem keepsIn_execServicePortFrame (frame : List Byte) (s : State) : KeepsIn s (execServicePortFrame frame s) := by
  unfold execServicePortFrame
  split
  · exact keepsIn_answer (.refl s)
  · split
    · exact keepsIn_answer (keeps_managementFrame ..)
    · exact keepsIn_answer (.refl s)

theorem keepsIn_execGapTimerExpiry (s : State) : KeepsIn s (execGapTimerExpiry s) :=
  keepsIn_answer (keeps_onExpiry _ _ s fun _ _ => keeps_updNotices (fun n => { n with gapTimer := none }) _ fun h =>
    ⟨h.pairs, h.levels, h.counts⟩)

theorem keepsIn_execServicePortFree (s : State) : KeepsIn s (execServicePortFree s) :=
  keepsIn_answer (touches_setService _ s).keeps

end Sys2Proof.Machine
end

section
/-! PROOFS. The lines, timers and states of the cages stay lawful, and with them their links (R40, R49, R77). -/

set_option Elab.async false

namespace Sys2Proof.Machine

/-! ### The links of a cage -/

theorem mem_linksOf {c : CageId} {j : LinkId} : j ∈ linksOf c ↔ cageOf j = c := by
  have h := Fin.isLt c
  have hj := Fin.isLt j
  simp only [linksOf, linkOf, cageOf, List.mem_cons, List.not_mem_nil, or_false, Fin.ext_iff, Fin.val_zero, Fin.val_one,
    Fin.val_two]
  show _ ∨ _ ∨ _ ∨ (j : Nat) = c * 4 + 3 ↔ _
  omega

theorem linksOf_nodup (c : CageId) : (linksOf c).Nodup := by
  revert c
  decide

theorem State.mem_activeLinks {s : State} {c : CageId} {j : LinkId} :
    j ∈ s.activeLinks c ↔ cageOf j = c ∧ s.isActive j = true := by
  rw [State.activeLinks, List.mem_filter, mem_linksOf]

theorem State.activeLinks_nodup (s : State) (c : CageId) : (s.activeLinks c).Nodup := (linksOf_nodup c).filter _

/-! ### Changes that go from one thing to the next -/

section
variable {α : Type} {f : α → State → State} {l : List α} {s : State}

/-- What each turn makes so, and no other undoes, is so of every one at the end. -/
theorem State.forEach_all {Q : α → State → Prop} (done : ∀ x ∈ l, ∀ t, Q x (f x t))
    (stable : ∀ x ∈ l, ∀ y t, Q y t → Q y (f x t)) : ∀ x ∈ l, Q x (s.forEach f l) := by
  have later : ∀ (l : List α) y t, (∀ x ∈ l, ∀ y t, Q y t → Q y (f x t)) → Q y t → Q y (t.forEach f l) := by
    intro l
    induction l with
    | nil => exact fun _ _ _ h => h
    | cons x rest ih => exact fun y t st h => ih y _ (fun z hz => st z (by simp [hz])) (st x (by simp) y t h)
  induction l generalizing s with
  | nil => simp
  | cons x rest ih =>
    intro y hy
    rcases List.mem_cons.mp hy with rfl | hy
    · exact later rest y _ (fun z hz => stable z (by simp [hz])) (done y (by simp) s)
    · exact ih (fun z hz => done z (by simp [hz])) (fun z hz => stable z (by simp [hz])) y hy

/-- What holds through turns each of which finds its own premise still standing. -/
theorem State.forEach_through {P : State → Prop} {Q : α → State → Prop} (nodup : l.Nodup)
    (step : ∀ x ∈ l, ∀ t, P t → Q x t → P (f x t)) (stable : ∀ x ∈ l, ∀ y t, x ≠ y → Q y t → Q y (f x t))
    (start : P s) (due : ∀ x ∈ l, Q x s) : P (s.forEach f l) := by
  induction l generalizing s with
  | nil => exact start
  | cons x rest ih =>
    obtain ⟨fresh, nodup⟩ := List.nodup_cons.mp nodup
    refine ih nodup (fun y hy => step y (by simp [hy])) (fun y hy => stable y (by simp [hy]))
      (step x (by simp) s start (due x (by simp))) fun y hy => stable x (by simp) y s ?_ (due y (by simp [hy]))
    rintro rfl
    exact fresh hy

end

/-- Of the links that take their turns, each is as its own turn leaves it, which found it as it was. -/
theorem State.forEach_at {f : LinkId → State → State} {ps : List Part} (each : ∀ i t, Touches (Only i) ps t (f i t))
    {l : List LinkId} (nodup : l.Nodup) {j : LinkId} (hj : j ∈ l) (s : State) :
    ∃ t, Touches (· ≠ j) ps s t ∧ (s.forEach f l).link j = (f j t).link j := by
  induction l generalizing s with
  | nil => cases hj
  | cons x rest ih =>
    obtain ⟨fresh, nodup⟩ := List.nodup_cons.mp nodup
    by_cases e : j = x
    · subst e
      have others : Touches (· ≠ j) ps (f j s) ((f j s).forEach f rest) := .forEach fun i hi t =>
        (each i t).widen fun k hk => hk ▸ fun e => fresh (e ▸ hi)
      exact ⟨s, .refl .., others.elsewhere j (by simp)⟩
    · obtain ⟨t, touched, result⟩ := ih nodup ((List.mem_cons.mp hj).resolve_left e) (f x s)
      have first : Touches (· ≠ j) ps s (f x s) := (each x s).widen fun k hk => hk ▸ Ne.symm e
      exact ⟨t, first.trans touched (List.Subset.refl _) (List.Subset.refl _), result⟩

/-! ### One cage changed -/

theorem State.updCage_updCage (c : CageId) (f g : Cage → Cage) (s : State) :
    (s.updCage c f).updCage c g = s.updCage c fun m => g (f m) := by
  unfold State.updCage
  congr 1
  refine Bank.eq_of_get _ _ fun i => ?_
  by_cases e : c = i
  · subst e
    simp [Bank.get_set_self]
  · simp [Bank.get_set_ne _ _ _ _ e]

/-- One cage replaced by a lawful one of the same layout, which leaves SERVING only where its links may work on. -/
theorem State.LawfulBut.updCage {L : CageId → Prop} {s : State} {c : CageId} {f : Cage → Cage} (h : s.LawfulBut L)
    (L' : CageId → Prop) (sub : ∀ d, L d → L' d) (lawful : (s.cage c).Lawful → (f (s.cage c)).Lawful)
    (layout : (f (s.cage c)).fabricLayout = (s.cage c).fabricLayout)
    (stays : ¬ L' c → (s.cage c).mode = .serving → (f (s.cage c)).mode = .serving) : (s.updCage c f).LawfulBut L' := by
  obtain ⟨cages, fits, outside⟩ := h
  have active : ∀ j, (s.updCage c f).isActive j = s.isActive j := fun j => by
    unfold State.isActive State.linkLayout
    by_cases e : c = cageOf j
    · rw [← e, State.cage_updCage_self, layout]
    · rw [State.cage_updCage_ne _ _ _ _ e]
  refine ⟨fun d => ?_, fun j => active j ▸ fits j, fun j hj hm => ?_⟩
  · by_cases e : c = d
    · subst e
      rw [State.cage_updCage_self]
      exact lawful (cages c)
    · rw [State.cage_updCage_ne _ _ _ _ e]
      exact cages d
  · refine outside j (fun l => hj (sub _ l)) fun serving => hm ?_
    by_cases e : c = cageOf j
    · rw [← e, State.cage_updCage_self]
      exact stays (e ▸ hj) (e ▸ serving)
    · rwa [State.cage_updCage_ne _ _ _ _ e]

theorem keepsData_updCage (c : CageId) (f : Cage → Cage) (s : State) : KeepsData s (s.updCage c f) :=
  (touches_updCage (W := Anywhere) c f s).keepsData

theorem preserves_updCage {c : CageId} {f : Cage → Cage} {s : State}
    (lawful : (s.cage c).Lawful → (f (s.cage c)).Lawful)
    (layout : (f (s.cage c)).fabricLayout = (s.cage c).fabricLayout)
    (stays : (s.cage c).mode = .serving → (f (s.cage c)).mode = .serving) : Preserves s (s.updCage c f) :=
  ⟨keepsData_updCage c f s, fun h => (State.lawful_iff _).mpr (((State.lawful_iff s).mp h).updCage (fun _ => False)
    (fun _ => id) lawful layout fun _ => stays)⟩

theorem keeps_updCage_rest (c : CageId) (f : Cage → Cage) (s : State)
    (h : (f (s.cage c)).lines = (s.cage c).lines := by rfl) : Keeps s (s.updCage c f) :=
  (touches_updCage_rest (W := Anywhere) c f s h).keeps

/-- The states in which the module is out of reset, held in low power and not timed. -/
def CageMode.isDark : CageMode → Bool
  | .identifying | .profiling | .profileWait | .tripped | .forcedOff | .failed => true
  | .absent | .seating | .waitEngage | .waking | .powering | .serving => false

/-- A cage without a timer running. -/
structure Cage.Untimed (m : Cage) : Prop where
  seating : m.seatingTimer = none
  ready : m.readyTimer = none
  guard : m.guardTimer = none
  powerUp : m.powerUpTimer = none
  poll : m.pollTimer = none

theorem Timer.eq_none_of {t : Timer} {p : Prop} (h : t.isSome → p) (n : ¬ p) : t = none := by
  cases t with
  | none => rfl
  | some m => exact absurd (h rfl) n

theorem Cage.Lawful.untimed {m : Cage} (h : m.Lawful) (seating : m.mode ≠ .seating) (waking : m.mode ≠ .waking)
    (powering : m.mode ≠ .powering) : m.Untimed :=
  ⟨Timer.eq_none_of h.seating seating, Timer.eq_none_of h.ready waking, Timer.eq_none_of h.guard powering,
    Timer.eq_none_of h.powerUp powering, Timer.eq_none_of h.poll powering⟩

theorem Cage.Untimed.lawful {m : Cage} (h : m.Untimed) (reset : m.resetLine = m.mode.holdsReset)
    (lowPower : m.lowPower = match m.mode with
      | .serving => false
      | .powering => m.guardTimer.isSome
      | _ => true) : m.Lawful :=
  ⟨reset, lowPower, by simp [h.seating], by simp [h.ready], by simp [h.guard], by simp [h.powerUp], by simp [h.poll]⟩

theorem CageMode.isDark_iff (v : CageMode) : v.isDark = true ↔
    v.holdsReset = false ∧ v ≠ .waking ∧ v ≠ .powering ∧ v ≠ .serving := by
  cases v <;> simp [CageMode.isDark, CageMode.holdsReset]

/-- Low power is asserted in every state but POWERING and SERVING (R40). -/
theorem Cage.lowPower_iff {m : Cage} (powering : m.mode ≠ .powering) (serving : m.mode ≠ .serving) :
    (m.lowPower = match m.mode with
      | .serving => false
      | .powering => m.guardTimer.isSome
      | _ => true) ↔ m.lowPower = true := by
  split
  · next e => exact absurd e serving
  · next e => exact absurd e powering
  · exact .rfl

theorem Cage.Lawful.dark {m : Cage} (h : m.Lawful) (dark : m.mode.isDark = true) :
    m.Untimed ∧ m.resetLine = false ∧ m.lowPower = true := by
  obtain ⟨released, waking, powering, serving⟩ := (CageMode.isDark_iff _).mp dark
  exact ⟨h.untimed (fun e => by rw [e] at released; cases released) waking powering, h.reset.trans released,
    (Cage.lowPower_iff powering serving).mp h.lowPower⟩

theorem Cage.Untimed.lawful_dark {m : Cage} (h : m.Untimed) (dark : m.mode.isDark = true) (reset : m.resetLine = false)
    (low : m.lowPower = true) : m.Lawful := by
  obtain ⟨released, -, powering, serving⟩ := (CageMode.isDark_iff _).mp dark
  exact h.lawful (reset.trans released.symm) ((Cage.lowPower_iff powering serving).mpr low)

/-- A dark cage in another dark state. -/
theorem Cage.Lawful.setDark {m n : Cage} (h : m.Lawful) (dark : m.mode.isDark = true) (now : n.mode.isDark = true)
    (lines : n.lines = (n.mode, m.lines.2)) : n.Lawful := by
  obtain ⟨⟨s, r, g, u, p⟩, reset, low⟩ := h.dark dark
  simp only [Cage.lines, Prod.mk.injEq, List.cons.injEq, and_true, true_and] at lines
  obtain ⟨reset', low', ⟨s', r', g', u', p'⟩, _⟩ := lines
  exact Cage.Untimed.lawful_dark ⟨s'.trans s, r'.trans r, g'.trans g, u'.trans u, p'.trans p⟩ now (reset'.trans reset)
    (low'.trans low)

/-- A dark cage moves on to another dark state. -/
theorem preserves_setDark {c : CageId} {f : Cage → Cage} {s : State} (dark : (s.cage c).mode.isDark = true)
    (now : (f (s.cage c)).mode.isDark = true)
    (lines : (f (s.cage c)).lines = ((f (s.cage c)).mode, (s.cage c).lines.2)) : Preserves s (s.updCage c f) := by
  refine preserves_updCage (fun h => h.setDark dark now lines) (congrArg (·.2.2.2.2) lines) fun e => ?_
  rw [e] at dark
  cases dark

theorem Cage.quiet_untimed (m : Cage) (now : Moment) : (m.quiet.lowered now).Untimed := ⟨rfl, rfl, rfl, rfl, rfl⟩

/-! ### The buses and the search, which no law reads -/

theorem keeps_chooseBus (k : ControllerId) (s : State) : Keeps s (s.chooseBus k) :=
  (touches_chooseBus (W := Anywhere) k s).keeps

theorem keeps_placeRead (c : CageId) (purpose : Purpose) (page offset : Byte) (length : Nat) (s : State) :
    Keeps s (s.placeRead c purpose page offset length) :=
  (touches_placeRead (W := Anywhere) c purpose page offset length s).keeps

theorem keeps_dropRequests (c : CageId) (s : State) : Keeps s (s.dropRequests c) :=
  (touches_dropRequests (W := Anywhere) c s).keeps

theorem keeps_forgetAtReset (c : CageId) (s : State) : Keeps s (s.forgetAtReset c) :=
  (touches_forgetAtReset (W := Anywhere) c s).keeps

theorem keeps_forgetPage (c : CageId) (s : State) : Keeps s (s.forgetPage c) :=
  (touches_forgetPage (W := Anywhere) c s).keeps

theorem keeps_leaveSearch (c : CageId) (s : State) : Keeps s (s.leaveSearch c) :=
  (touches_leaveSearch (W := Anywhere) c s).keeps

theorem keeps_chooseSearch (s : State) : Keeps s s.chooseSearch := (touches_chooseSearch (W := Anywhere) s).keeps

theorem keeps_updSearch (f : SearchUnit → SearchUnit) (s : State) : Keeps s (s.updSearch f) :=
  (touches_updSearch (W := Anywhere) f s).keeps

theorem keeps_updController (k : ControllerId) (f : Controller → Controller) (s : State) :
    Keeps s (s.updController k f) := (touches_updController (W := Anywhere) k f s).keeps

/-- The lines of a cage after a change of its requests and page record alone. -/
theorem Touches.cageLines {W : LinkId → Prop} {ps : List Part} {s t : State} (h : Touches W ps s t) (c : CageId)
    (n : .lines ∉ ps := by decide) : (t.cage c).lines = (s.cage c).lines := h.same .lines n c

theorem Touches.cageMode {W : LinkId → Prop} {ps : List Part} {s t : State} (h : Touches W ps s t) (c : CageId)
    (n : .lines ∉ ps := by decide) : (t.cage c).mode = (s.cage c).mode := Cage.mode_of_lines (h.cageLines c n)

/-! ### Departures (R49, R114) -/

theorem lossRecovery_departs {cause : LossCause} (departs : cause = .gate ∨ cause = .removed ∨ cause = .restart)
    (j : LinkId) (s : State) : (s.lossRecovery j cause).link j = { s.link j with engine := (s.link j).engine.down } := by
  rcases departs with rfl | rfl | rfl <;> exact State.link_updEngine_self ..

theorem lossPath_rests {cause : LossCause} (departs : cause = .gate ∨ cause = .removed ∨ cause = .restart) (j : LinkId)
    (s : State) : ((s.lossPath cause j).link j).engine.recovery = .down := by
  unfold State.lossPath
  simp only
  rw [State.link_raise, (touches_loseService (only_self j) _).engine j, lossRecovery_departs departs]
  rfl

theorem departBy_rests {cause : LossCause} (departs : cause = .gate ∨ cause = .removed ∨ cause = .restart) (j : LinkId)
    (s : State) : ((s.departBy cause j).link j).Rests := by
  unfold State.departBy
  split
  · exact .inr (lossPath_rests departs j s)
  · next idle => exact not_not.mp ((RecoveryState.isWorking_iff _).not.mp idle)

theorem touches_departLinks (c : CageId) (cause : LossCause) (s : State) :
    Touches Anywhere lossParts s (s.departLinks c cause) :=
  .forEach fun _ _ t => touches_departBy (W := Anywhere) trivial cause t

theorem keepsData_departLinks (c : CageId) (cause : LossCause) (s : State) : KeepsData s (s.departLinks c cause) :=
  .forEach fun j _ t => (keeps_departBy cause j t).toKeepsData

/-- The links of a cage that has left SERVING depart, and the device is lawful again. -/
theorem lawful_departLinks {c : CageId} {cause : LossCause} {s : State} (h : s.LawfulBut (· = c))
    (departs : cause = .gate ∨ cause = .removed ∨ cause = .restart) : (s.departLinks c cause).Lawful := by
  have kept : Keeps s (s.departLinks c cause) := .forEach fun j _ t => keeps_departBy cause j t
  obtain ⟨cages, fits, outside⟩ := kept.lawful _ h
  have lines := (touches_departLinks c cause s).same .lines (by decide)
  have gone : ∀ j ∈ s.activeLinks c, ((s.departLinks c cause).link j).Rests := by
    refine State.forEach_all (Q := fun j t => (t.link j).Rests) (fun j _ t => departBy_rests departs j t)
      fun i _ j t r => ?_
    by_cases e : j = i
    · exact e ▸ departBy_rests departs i t
    · rwa [(touches_departBy (only_self i) cause t).elsewhere j e]
  refine (State.lawful_iff _).mpr ⟨cages, fits, fun j _ hm => ?_⟩
  by_cases e : cageOf j = c
  · by_cases active : s.isActive j = true
    · exact gone j (State.mem_activeLinks.mpr ⟨e, active⟩)
    · refine .inl ((fits j).active.mpr ?_)
      rw [State.isActive_of_lines lines]
      simpa using active
  · exact outside j e hm

end Sys2Proof.Machine
end

section
/-! PROOFS. The changes of state of a cage monitor, each of which keeps every invariant (chapters 1 and 3). -/

set_option Elab.async false

namespace Sys2Proof.Machine

/-! ### The gate closes, and a cage fails (R50, R53, R54) -/

/-- A released cage whose timers stop and whose low-power line is asserted. -/
theorem Cage.Lawful.darkened {m : Cage} (h : m.Lawful) (released : m.mode.holdsReset = false) (now : Moment)
    {mode : CageMode} (dark : mode.isDark = true) (cause : FailedCause) :
    ({ (m.quiet.lowered now) with mode := mode, failedCause := cause } : Cage).Lawful :=
  Cage.Untimed.lawful_dark ⟨rfl, rfl, rfl, rfl, rfl⟩ dark (h.reset.trans released) rfl

theorem keeps_tellCage (c : CageId) (event : Option EventKind) (s : State) : Keeps s (match event with
    | some k => s.raise k c.val
    | none => s) := by
  cases event with
  | none => exact .refl s
  | some k => exact keeps_raise ..

theorem CageMode.servesAlerts_iff (v : CageMode) : v.servesAlerts = true ↔ v = .powering ∨ v = .serving := by
  cases v <;> simp [CageMode.servesAlerts]

theorem preserves_closeGate (c : CageId) (mode : CageMode) (event : Option EventKind) (s : State)
    (dark : mode.isDark = true) (opened : (s.cage c).mode.servesAlerts = true) : Preserves s (s.closeGate c mode event) := by
  have dropped := touches_dropRequests (W := Anywhere) c s
  have released : (s.cage c).mode.holdsReset = false := by
    rcases (CageMode.servesAlerts_iff _).mp opened with e | e <;> rw [e] <;> rfl
  have closed : ∀ L : CageId → Prop, ((s.cage c).mode = .serving → L c) → s.Lawful →
      ((s.dropRequests c).updCage c fun m => { (m.quiet.lowered s.now) with mode := mode }).LawfulBut L := by
    intro L leaves h
    refine (dropped.lawfulBut ((State.lawful_iff s).mp h)).updCage L (fun _ => False.elim) (fun g => ?_) rfl ?_
    · exact g.darkened (dropped.cageMode c ▸ released) s.now dark _
    · rw [dropped.cageMode c]
      exact fun kept serving => absurd (leaves serving) kept
  have data := dropped.keepsData.trans (keepsData_updCage c (fun m => { (m.quiet.lowered s.now) with mode := mode }) _)
  unfold State.closeGate
  simp only
  split
  · have told := keeps_tellCage c event ((s.dropRequests c).updCage c fun m => { (m.quiet.lowered s.now) with mode := mode })
    exact ⟨(data.trans told.toKeepsData).trans (keepsData_departLinks ..), fun h =>
      lawful_departLinks (told.lawful _ (closed _ (fun _ => rfl) h)) (.inl rfl)⟩
  · next idle =>
    exact Preserves.trans ⟨data, fun h => (State.lawful_iff _).mpr (closed _ (fun e => absurd e (by simpa using idle)) h)⟩
      (keeps_tellCage ..).preserves

theorem preserves_trip (c : CageId) (s : State) (opened : (s.cage c).mode.servesAlerts = true) :
    Preserves s (s.trip c) := preserves_closeGate c _ _ s rfl opened

theorem preserves_cageFailed (c : CageId) (cause : FailedCause) (event : EventKind) (s : State)
    (released : s.Lawful → (s.cage c).mode.holdsReset = false ∧ (s.cage c).mode ≠ .serving) :
    Preserves s (s.cageFailed c cause event) := by
  have dropped := touches_dropRequests (W := Anywhere) c s
  refine Preserves.trans (t := State.updCage c _ _) ⟨dropped.keepsData.trans (keepsData_updCage ..), fun h => ?_⟩
    (keeps_raise ..).preserves
  obtain ⟨released, ended⟩ := released h
  refine (preserves_updCage (fun g => ?_) rfl fun e => ?_).lawful (dropped.keeps.preserves.lawful h)
  · exact g.darkened (dropped.cageMode c ▸ released) s.now rfl cause
  · exact absurd (dropped.cageMode c ▸ e) ended

/-! ### Alerts and flag reads (R51, R52) -/

theorem keeps_readFlags (c : CageId) (s : State) : Keeps s (s.readFlags c) :=
  (keeps_updCage_rest c _ s).trans (keeps_placeRead ..)

theorem preserves_alerted (c : CageId) (s : State) : Preserves s (s.alerted c) :=
  .ite (fun _ => .refl s) fun serves => .ite (fun _ => preserves_trip c s (by simp_all)) fun _ =>
    .ite (fun _ => (keeps_updCage_rest c _ s).preserves) fun _ => (keeps_readFlags c s).preserves

theorem keeps_flagsClear (c : CageId) (s : State) : Keeps s (s.flagsClear c) := by
  have cleared := keeps_updCage_rest c (fun m => { m with readAgain := false }) s
  exact .ite (fun _ => cleared.trans (keeps_readFlags c _)) fun _ => cleared

theorem preserves_flagsEnded (c : CageId) (outcome : BusOutcome) (data : List Byte) (s : State) :
    Preserves s (s.flagsEnded c outcome data) := by
  have ended := touches_updCage_rest (W := Anywhere) c (fun m => { m with flagRequested := false }) s rfl
  refine .ite (fun _ => .refl s) fun serves => .ite (fun _ => ended.keeps.preserves.trans (preserves_trip c _ ?_))
    fun _ => (ended.keeps.trans (keeps_flagsClear c _)).preserves
  rw [ended.cageMode c]
  simpa using serves

/-! ### Powering and serving (R45 to R49) -/

theorem keeps_pollReady (c : CageId) (s : State) : Keeps s (s.pollReady c) := keeps_placeRead ..

/-- A cage in POWERING whose guard has ended. -/
theorem Cage.Lawful.guardEnded {m n : Cage} (reset : m.resetLine = false) (seating : m.seatingTimer = none)
    (ready : m.readyTimer = none)
    (lines : n.lines = (.powering, m.resetLine, false, [m.seatingTimer, m.readyTimer, none, n.powerUpTimer, n.pollTimer],
      m.fabricLayout)) : n.Lawful := by
  simp only [Cage.lines, Prod.mk.injEq, List.cons.injEq, and_true] at lines
  obtain ⟨mode, line, low, ⟨s, r, g⟩, _⟩ := lines
  exact ⟨by rw [line, reset, mode]; rfl, by rw [low, mode, g]; rfl, by simp [s, seating], by simp [r, ready],
    fun _ => mode, fun _ => mode, fun _ => mode⟩

theorem preserves_guardEnded (c : CageId) (s : State) (timed : (s.cage c).guardTimer.isSome) :
    Preserves s (s.guardEnded c) := by
  refine Preserves.trans (t := State.updCage c _ _) ⟨keepsData_updCage .., fun h => ?_⟩ (keeps_pollReady ..).preserves
  have powering := (h.cages c).guard timed
  refine (preserves_updCage (fun g => ?_) rfl fun e => nomatch powering.symm.trans e).lawful h
  refine Cage.Lawful.guardEnded (m := s.cage c) (g.reset.trans (by rw [powering]; rfl)) ?_ ?_
    (by simp [Cage.lines, powering])
  · exact Timer.eq_none_of g.seating (powering ▸ nofun)
  · exact Timer.eq_none_of g.ready (powering ▸ nofun)

/-- A dark cage enters POWERING, its guard running or ended already (R45). -/
theorem preserves_enterPowering (c : CageId) (s : State) (dark : s.Lawful → (s.cage c).mode.isDark = true) :
    Preserves s (s.enterPowering c) := by
  have guarded : ∀ m : Moment, Preserves s ((s.updCage c fun m => { m with mode := .powering }).updCage c fun n =>
      { n with guardTimer := some m }) := fun m => by
    rw [State.updCage_updCage]
    refine ⟨keepsData_updCage .., fun h => (preserves_updCage (fun g => ?_) rfl fun e => ?_).lawful h⟩
    · obtain ⟨untimed, reset, low⟩ := g.dark (dark h)
      exact ⟨reset, low, by simp [untimed.seating], by simp [untimed.ready], fun _ => rfl, fun _ => rfl, fun _ => rfl⟩
    · have := dark h
      rw [e] at this
      cases this
  have ended : Preserves s ((s.updCage c fun m => { m with mode := .powering }).guardEnded c) := by
    unfold State.guardEnded
    rw [State.updCage_updCage]
    refine Preserves.trans ⟨keepsData_updCage .., fun h => (preserves_updCage (fun g => ?_) rfl fun e => ?_).lawful h⟩
      (keeps_pollReady ..).preserves
    · obtain ⟨untimed, reset, low⟩ := g.dark (dark h)
      exact Cage.Lawful.guardEnded reset untimed.seating untimed.ready rfl
    · have := dark h
      rw [e] at this
      cases this
  have entered : ∀ b : Bool, ∀ m : Moment, Preserves s (if b then (s.updCage c fun m => { m with mode := .powering }).guardEnded c
      else (s.updCage c fun m => { m with mode := .powering }).updCage c fun n => { n with guardTimer := some m }) :=
    fun b m => .ite (fun _ => ended) fun _ => guarded m
  unfold State.enterPowering
  simp only
  split
  · split
    · exact ended.trans (preserves_alerted c _)
    · exact (guarded _).trans (preserves_alerted c _)
  · split
    · exact ended
    · exact guarded _

/-- An active link of a serving cage leaves DOWN. -/
theorem lawful_leaveDown (j : LinkId) (s : State) (serving : (s.cage (cageOf j)).mode = .serving)
    (active : s.isActive j = true) (rests : (s.link j).Rests) (h : s.LawfulBut fun _ => False) :
    (s.leaveDown j).LawfulBut fun _ => False := by
  unfold State.leaveDown
  have touched := touches_enterAdapting (only_self j) (s.warmAnswer j) 0 s
  obtain ⟨hold, meter, recovery, alignment⟩ := s.enterAdapting_link j (s.warmAnswer j) 0
  obtain ⟨cages, fits, outside⟩ := h
  have lines := touched.same .lines (by decide)
  refine ⟨fun c => (cages c).of_lines (lines c), fun i => ?_, fun i hi hm => ?_⟩
  · rw [State.isActive_of_lines lines]
    by_cases e : i = j
    · subst e
      have f := fits i
      have idle : ¬ ((s.link i).hold.service = .pass ∨ (s.link i).hold.service = .replay) := fun v => by
        rcases rests with r | r <;> exact nomatch r.symm.trans (f.admitted v)
      refine ⟨⟨iff_of_false (recovery ▸ nofun) (by simp [active]), fun e => (nomatch recovery.symm.trans e), ?_, ?_, ?_,
        fun _ => recovery, ?_⟩, ?_⟩
      · rw [meter, hold]
        exact f.metered
      · rw [meter]
        exact f.ramping
      · rw [hold]
        exact f.held
      · rw [alignment]
        exact nofun
      · rw [hold]
        exact fun v => absurd v idle
    · rw [touched.elsewhere i e]
      exact fits i
  · rw [Cage.mode_of_lines (lines _)] at hm
    by_cases e : i = j
    · exact absurd (e ▸ serving) hm
    · rw [touched.elsewhere i e]
      exact outside i hi hm

theorem preserves_enterServing (c : CageId) (s : State) (powering : (s.cage c).mode = .powering) :
    Preserves s (s.enterServing c) := by
  unfold State.enterServing
  simp only
  have leave := fun (j : LinkId) (t : State) => touches_enterAdapting (only_self j) (t.warmAnswer j) 0 t
  have opened : Preserves s (s.updCage c fun m => { m with
      mode := .serving, lowPower := false, guardTimer := none, powerUpTimer := none, pollTimer := none }) := by
    refine preserves_updCage (fun g => ⟨?_, rfl, fun e => ?_, fun e => ?_, nofun, nofun, nofun⟩) rfl fun _ => rfl
    · exact g.reset.trans (by rw [powering]; rfl)
    · exact nomatch powering.symm.trans (g.seating e)
    · exact nomatch powering.symm.trans (g.ready e)
  refine ⟨opened.toKeepsData.trans (.forEach fun j _ t => (leave j t).keepsData), fun h => ?_⟩
  have rest : ∀ j, cageOf j = c → (s.link j).Rests := fun j e =>
    ((State.lawful_iff s).mp h).outside j id (by rw [e, powering]; nofun)
  refine (State.lawful_iff _).mpr (State.forEach_through (P := fun t => t.LawfulBut fun _ => False)
    (Q := fun j t => (t.cage (cageOf j)).mode = .serving ∧ t.isActive j = true ∧ (t.link j).Rests)
    (State.activeLinks_nodup _ c) (fun j _ t l due => lawful_leaveDown j t due.1 due.2.1 due.2.2 l)
    (fun i _ j t ne due => ?_) ((State.lawful_iff _).mp (opened.lawful h)) fun j hj => ?_)
  · have lines := (leave i t).same .lines (by decide)
    refine ⟨(Cage.mode_of_lines (lines _)).trans due.1, (State.isActive_of_lines lines j).trans due.2.1, ?_⟩
    rw [State.leaveDown, (leave i t).elsewhere j (Ne.symm ne)]
    exact due.2.2
  · obtain ⟨e, active⟩ := State.mem_activeLinks.mp hj
    refine ⟨?_, active, rest j e⟩
    rw [e, State.cage_updCage_self]

/-- A cage in POWERING with its poll timer changed. -/
theorem preserves_setPoll (c : CageId) (t : Timer) (s : State) (powering : s.Lawful → (s.cage c).mode = .powering) :
    Preserves s (s.updCage c fun m => { m with pollTimer := t }) :=
  ⟨keepsData_updCage .., fun h => (preserves_updCage
    (fun g => ⟨g.reset, g.lowPower, g.seating, g.ready, g.guard, g.powerUp, fun _ => powering h⟩) rfl id).lawful h⟩

theorem preserves_pollEnded (c : CageId) (outcome : BusOutcome) (data : List Byte) (s : State) :
    Preserves s (s.pollEnded c outcome data) :=
  .ite (fun _ => .refl s) fun powering => .ite (fun _ => preserves_enterServing c s (not_not.mp powering)) fun _ =>
    preserves_setPoll c _ s fun _ => not_not.mp powering

/-! ### The search result and identification (R15 to R19, R42, R43) -/

theorem preserves_takeResult (c : CageId) (r : SearchResult) (s : State) (profiling : (s.cage c).mode = .profiling) :
    Preserves s (s.takeResult c r) := by
  have taken := (touches_updCage_rest (W := Anywhere) c (fun m => { m with workingCopy := some (r.set, s.sets.get r.set) })
    s rfl)
  have told : ∀ t : State, Touches Anywhere [.raised] t (match r.event with
      | some k => t.raise k c.val
      | none => t) := fun t => by
    cases r.event with
    | none => exact .refl ..
    | some k => exact touches_raise ..
  have touched := taken.trans (told _) (rs := [.cages, .raised])
  have still := (touched.cageMode c).trans profiling
  unfold State.takeResult
  simp only
  split
  · exact touched.keeps.preserves.trans (preserves_enterPowering c _ fun _ => by rw [still]; rfl)
  · exact touched.keeps.preserves.trans (preserves_cageFailed c _ _ _ fun _ => by rw [still]; exact ⟨rfl, nofun⟩)

theorem keeps_readIdentity (c : CageId) (s : State) : Keeps s (s.readIdentity c) := keeps_placeRead ..

theorem preserves_joinSearch (c : CageId) (s : State) (dark : (s.cage c).mode.isDark = true) :
    Preserves s (s.joinSearch c) :=
  (preserves_setDark dark rfl rfl).trans (keeps_updSearch ..).preserves

theorem touches_lookup (c : CageId) (key digest : BitVec 32) (s : State) :
    Touches Anywhere [.memory, .freeCount] s (s.lookup c key digest) :=
  (touches_updMemory _ s).trans (touches_spend _)

theorem preserves_identified (c : CageId) (bytes : List Byte) (s : State) (identifying : (s.cage c).mode = .identifying) :
    Preserves s (s.identified c bytes) := by
  unfold State.identified
  simp only
  have named := touches_updCage_rest (W := Anywhere) c (fun m => { m with
    identityKey := some (identityKeyOf bytes), serialDigest := some (serialDigestOf (bytes.drop 4)), identityBytes := [] })
    s rfl
  have known := named.keeps.trans (keeps_lookup c (identityKeyOf bytes) (serialDigestOf (bytes.drop 4)) _)
  have dark : (((s.updCage c fun m => { m with
      identityKey := some (identityKeyOf bytes), serialDigest := some (serialDigestOf (bytes.drop 4)),
      identityBytes := [] }).lookup c (identityKeyOf bytes)
        (serialDigestOf (bytes.drop 4))).cage c).mode.isDark = true := by
    rw [(touches_lookup ..).cageMode c, named.cageMode c, identifying]
    rfl
  split
  · exact (known.preserves.trans (preserves_joinSearch c _ dark)).trans (keeps_chooseSearch _).preserves
  · exact known.preserves.trans (preserves_setDark dark rfl rfl)

theorem preserves_identificationEnded (c : CageId) (outcome : BusOutcome) (data : List Byte) (s : State) :
    Preserves s (s.identificationEnded c outcome data) := by
  refine .ite (fun _ => .refl s) fun identifying => ?_
  have identifying := not_not.mp identifying
  have failing : s.Lawful → (s.cage c).mode.holdsReset = false ∧ (s.cage c).mode ≠ .serving := fun _ => by
    rw [identifying]
    exact ⟨rfl, nofun⟩
  cases outcome with
  | done =>
    exact .ite (fun _ => ((keeps_updCage_rest c _ s).trans (keeps_readIdentity ..)).preserves) fun _ =>
      preserves_identified c _ s identifying
  | nack => exact preserves_cageFailed c _ _ s failing
  | stretched => exact preserves_cageFailed c _ _ s failing
  | absent => exact .refl s

/-! ### The end of a transaction (R8, R12, R14) -/

theorem keeps_passThroughEnded (outcome : BusOutcome) (kind : BusKind) (data : List Byte) (s : State) :
    Keeps s (s.passThroughEnded outcome kind data) := by
  cases outcome <;> exact keeps_respond ..

theorem preserves_handOver (t : Transaction) (outcome : BusOutcome) (data : List Byte) (s : State) :
    Preserves s (s.handOver t outcome data) := by
  unfold State.handOver
  split
  · exact (keeps_passThroughEnded ..).preserves
  · refine .ite (fun _ => .refl s) fun _ => ?_
    split
    · exact preserves_identificationEnded ..
    · exact preserves_pollEnded ..
    · exact preserves_flagsEnded ..

theorem preserves_endTransaction (k : ControllerId) (outcome : BusOutcome) (data : List Byte) (s : State) :
    Preserves s (s.endTransaction k outcome data) := by
  unfold State.endTransaction
  split
  · exact .refl s
  · next t _ =>
    exact (((keeps_updController k _ s).trans (keeps_updCage_rest _ _ _)).preserves.trans
      (preserves_handOver t outcome data _)).trans (keeps_chooseBus ..).preserves

/-! ### Waking (R2, R4, R15) -/

theorem keepsData_enterIdentifying (c : CageId) (s : State) : KeepsData s (s.enterIdentifying c) :=
  (keepsData_updCage ..).trans (keeps_readIdentity ..).toKeepsData

theorem keepsData_enterWaking (c : CageId) (s : State) : KeepsData s (s.enterWaking c) :=
  .ite (fun _ => (keepsData_updCage ..).trans (keepsData_enterIdentifying ..)) fun _ => keepsData_updCage ..

theorem preserves_enterIdentifying (c : CageId) (s : State) (waking : s.Lawful → (s.cage c).mode = .waking) :
    Preserves s (s.enterIdentifying c) := by
  refine Preserves.trans (t := State.updCage c _ _) ⟨keepsData_updCage .., fun h => ?_⟩ (keeps_readIdentity ..).preserves
  refine (preserves_updCage (fun g => ?_) rfl fun e => nomatch (waking h).symm.trans e).lawful h
  have mode := waking h
  have low := g.lowPower
  rw [mode] at low
  exact Cage.Untimed.lawful_dark ⟨Timer.eq_none_of g.seating (mode ▸ nofun), rfl, Timer.eq_none_of g.guard (mode ▸ nofun),
    Timer.eq_none_of g.powerUp (mode ▸ nofun), Timer.eq_none_of g.poll (mode ▸ nofun)⟩ rfl
    (g.reset.trans (by rw [mode]; rfl)) low

/-- A cage that is seated, or waits for ENGAGE, wakes (R4). -/
theorem preserves_enterWaking (c : CageId) (s : State) (seated : (s.cage c).seatingTimer = none)
    (mode : s.Lawful → (s.cage c).mode = .seating ∨ (s.cage c).mode = .waitEngage) : Preserves s (s.enterWaking c) := by
  have woken : ∀ t : Timer, Preserves s (s.updCage c fun m => { m with
      mode := .waking, visit := m.visit + 1, resetLine := false, guardOrigin := s.now, readyTimer := t }) := fun t => by
    refine ⟨keepsData_updCage .., fun h => (preserves_updCage (fun g => ?_) rfl fun e => ?_).lawful h⟩
    · have low := g.lowPower
      have untimed : (s.cage c).guardTimer = none ∧ (s.cage c).powerUpTimer = none ∧ (s.cage c).pollTimer = none := by
        rcases mode h with e | e <;> exact ⟨Timer.eq_none_of g.guard (e ▸ nofun), Timer.eq_none_of g.powerUp (e ▸ nofun),
          Timer.eq_none_of g.poll (e ▸ nofun)⟩
      obtain ⟨guard, powerUp, poll⟩ := untimed
      refine ⟨rfl, ?_, by simp [seated], fun _ => rfl, by simp [guard], by simp [powerUp], by simp [poll]⟩
      rcases mode h with e | e <;> rw [e] at low <;> exact low
    · rcases mode h with w | w <;> exact nomatch w.symm.trans e
  refine .ite (fun _ => (woken _).trans (preserves_enterIdentifying c _ fun _ => ?_)) fun _ => woken _
  rw [State.cage_updCage_self]

theorem preserves_seated (c : CageId) (s : State) (timed : (s.cage c).seatingTimer.isSome) : Preserves s (s.seated c) := by
  have stopped : Preserves s ((s.updCage c fun m => { m with seatingTimer := none }).raise .inserted c.val) :=
    (preserves_updCage (f := fun m => { m with seatingTimer := none })
      (fun g => ⟨g.reset, g.lowPower, nofun, g.ready, g.guard, g.powerUp, g.poll⟩) rfl id).trans
      (keeps_raise ..).preserves
  have cage : ((s.updCage c fun m => { m with seatingTimer := none }).raise .inserted c.val).cage c
      = { s.cage c with seatingTimer := none } := by
    rw [State.cage_raise, State.cage_updCage_self]
  refine ⟨KeepsData.ite (fun _ => ?_) fun _ => stopped.toKeepsData.trans (keepsData_updCage ..), fun h => ?_⟩
  · exact stopped.toKeepsData.trans (keepsData_enterWaking c _)
  · have seating := (h.cages c).seating timed
    unfold State.seated
    simp only
    split
    · exact (preserves_enterWaking c _ (by rw [cage]) fun _ => .inl (by rw [cage]; exact seating)).lawful (stopped.lawful h)
    · refine (preserves_updCage (fun g => ?_) rfl fun e => ?_).lawful (stopped.lawful h)
      · rw [cage] at g ⊢
        have low := g.lowPower
        rw [seating] at low
        refine Cage.Untimed.lawful ⟨rfl, ?_, ?_, ?_, ?_⟩ (g.reset.trans (by rw [seating]; rfl)) low
        · exact Timer.eq_none_of g.ready (by simp [seating])
        · exact Timer.eq_none_of g.guard (by simp [seating])
        · exact Timer.eq_none_of g.powerUp (by simp [seating])
        · exact Timer.eq_none_of g.poll (by simp [seating])
      · rw [cage] at e
        exact nomatch seating.symm.trans e

end Sys2Proof.Machine
end

section
/-! PROOFS. Departures, restarts, layouts and the engagement of the device keep every invariant (R3, R5, R56, R77, R120, R121). -/

set_option Elab.async false

namespace Sys2Proof.Machine

/-! ### Removal (R5, R13) -/

/-- What the end of a transaction with ABSENT hands over changes no cage's state: only a pass-through is answered. -/
theorem touches_handOver_absent (t : Transaction) (data : List Byte) (s : State)
    (gone : (s.cage t.request.cage).mode = .absent) : Touches Anywhere replyParts s (s.handOver t .absent data) := by
  unfold State.handOver
  split
  · exact touches_respond ..
  · refine .ite (fun _ => .refl ..) fun _ => ?_
    split
    · unfold State.identificationEnded
      rw [if_pos (by rw [gone]; nofun)]
      exact .refl ..
    · unfold State.pollEnded
      rw [if_pos (by rw [gone]; nofun)]
      exact .refl ..
    · unfold State.flagsEnded
      rw [if_pos (by rw [gone]; rfl)]
      exact .refl ..

theorem Touches.controller {W : LinkId → Prop} {ps : List Part} {s t : State} (h : Touches W ps s t) (k : ControllerId)
    (n : .controllers ∉ ps := by decide) : t.controller k = s.controller k := by
  rw [State.controller, h.controllers n, State.controller]

/-- The parts a controller's side of a removal may change. -/
abbrev busParts : List Part := [.cages, .controllers] ++ replyParts

theorem touches_endTransaction_absent (k : ControllerId) (data : List Byte) (s : State)
    (gone : ∀ t, (s.controller k).inFlight = some t → (s.cage t.request.cage).mode = .absent) :
    Touches Anywhere busParts s (s.endTransaction k .absent data) := by
  unfold State.endTransaction
  split
  · exact .refl ..
  · next t flying =>
    have freed := (touches_updController (W := Anywhere) k (fun c => { c with inFlight := none }) s).trans
      (touches_updCage_rest t.request.cage (fun m => { m with lastPage := t.pageAfter .absent }) _ rfl) (rs := busParts)
    refine (freed.trans (touches_handOver_absent t data _ ?_) (rs := busParts)).trans (touches_chooseBus ..)
    rw [freed.cageMode]
    exact gone t flying

theorem touches_busRemoval (c : CageId) (s : State) (gone : (s.cage c).mode = .absent) :
    Touches Anywhere busParts s (s.busRemoval c) := by
  have answered : Touches Anywhere busParts s (if (s.controller (controllerOf c)).slot.any fun r => r.cage = c then
      (s.updController (controllerOf c) fun x => { x with slot := none, bypass := 0 }).respond .notPresent else s) :=
    .ite (fun _ => (touches_updController _ _ _).trans (touches_respond ..)) fun _ => .refl ..
  unfold State.busRemoval
  simp only
  split
  · exact answered
  · next x flying =>
    refine .ite (fun own => answered.trans (touches_endTransaction_absent _ [] _ fun t ht => ?_)) fun _ => answered
    have same : ((if (s.controller (controllerOf c)).slot.any fun r => r.cage = c then
      (s.updController (controllerOf c) fun x => { x with slot := none, bypass := 0 }).respond .notPresent
        else s).controller (controllerOf c)).inFlight = (s.controller (controllerOf c)).inFlight := by
      split
      · rw [(touches_respond ..).controller, State.controller_updController_self]
      · rfl
    rw [same, flying] at ht
    cases ht
    rw [answered.cageMode, own]
    exact gone

theorem keepsData_busRemoval (c : CageId) (s : State) : KeepsData s (s.busRemoval c) := by
  have answered : KeepsData s (if (s.controller (controllerOf c)).slot.any fun r => r.cage = c then
      (s.updController (controllerOf c) fun x => { x with slot := none, bypass := 0 }).respond .notPresent else s) :=
    .ite (fun _ => ((keeps_updController ..).trans (keeps_respond ..)).toKeepsData) fun _ => .refl s
  unfold State.busRemoval
  simp only
  split
  · exact answered
  · exact .ite (fun _ => answered.trans (preserves_endTransaction ..).toKeepsData) fun _ => answered

theorem State.cage_enterAbsent (c : CageId) (s : State) : (s.enterAbsent c).cage c =
    { ((s.cage c).resetTo .absent s.now) with present := false, lastPage := none, busRequests := [] } :=
  s.cage_updCage_self c fun m => { (m.resetTo .absent s.now) with present := false, lastPage := none, busRequests := [] }

/-- Both lines asserted and every timer stopped, in a state that holds the module so. -/
theorem Cage.resetTo_lawful (m : Cage) (now : Moment) {mode : CageMode} (holds : mode.holdsReset = true) :
    (m.resetTo mode now).Lawful := by
  refine Cage.Untimed.lawful ⟨rfl, rfl, rfl, rfl, rfl⟩ holds.symm ((Cage.lowPower_iff ?_ ?_).mpr rfl)
  · rintro (rfl : mode = .powering)
    cases holds
  · rintro (rfl : mode = .serving)
    cases holds

theorem preserves_removed (c : CageId) (s : State) : Preserves s (s.removed c) := by
  have first : Touches Anywhere [.raised, .cages, .controllers, .search] s
      (((s.raise .removed c.val).dropRequests c).leaveSearch c) :=
    ((touches_raise ..).trans (touches_dropRequests c _) (rs := [.raised, .cages, .controllers])).trans
      (touches_leaveSearch c _)
  unfold State.removed
  simp only
  generalize ((s.raise .removed c.val).dropRequests c).leaveSearch c = t at first
  have emptied : KeepsData t (t.enterAbsent c) := (keepsData_updCage ..).trans (keeps_setHeld ..).toKeepsData
  have gone : ((t.enterAbsent c).cage c).mode = .absent := by
    rw [State.cage_enterAbsent]
    rfl
  have bus := touches_busRemoval c _ gone
  have data := keepsData_busRemoval c (t.enterAbsent c)
  have absent : ∀ L : CageId → Prop, ((s.cage c).mode = .serving → L c) → s.Lawful →
      ((t.enterAbsent c).busRemoval c).LawfulBut L := fun L leaves h => by
    refine bus.lawfulBut ((keeps_setHeld c false _).lawful L ?_)
    refine (first.lawfulBut ((State.lawful_iff s).mp h)).updCage L (fun _ => False.elim) (fun _ => ?_) rfl ?_
    · exact ((t.cage c).resetTo_lawful t.now rfl).of_lines rfl
    · rw [first.cageMode c]
      exact fun kept serving => absurd (leaves serving) kept
  split
  · exact ⟨((first.keepsData.trans emptied).trans data).trans (keepsData_departLinks ..), fun h =>
      lawful_departLinks (absent _ (fun _ => rfl) h) (.inr (.inl rfl))⟩
  · next idle =>
    exact ⟨(first.keepsData.trans emptied).trans data, fun h =>
      (State.lawful_iff _).mpr (absent _ (fun e => absurd e (by simpa using idle)) h)⟩

/-! ### CAGE-RESTART (R56) -/

theorem touches_beforeReset (c : CageId) (s : State) : Touches Anywhere [.cages, .controllers, .freeCount, .search] s
    (((s.dropRequests c).forgetAtReset c).leaveSearch c) :=
  ((touches_dropRequests c s).trans (touches_forgetAtReset c _) (rs := [.cages, .controllers, .freeCount])).trans
    (touches_leaveSearch c _)

theorem keepsData_seatAgain (c : CageId) (s : State) : KeepsData s (s.seatAgain c) :=
  (touches_beforeReset c s).keepsData.trans (keepsData_updCage ..)

theorem lawful_seatAgain (c : CageId) (s : State) (L : CageId → Prop) (leaves : (s.cage c).mode = .serving → L c)
    (h : s.Lawful) : (s.seatAgain c).LawfulBut L := by
  have first := touches_beforeReset c s
  refine (first.lawfulBut ((State.lawful_iff s).mp h)).updCage L (fun _ => False.elim) (fun _ => ?_) rfl ?_
  · have g := Cage.resetTo_lawful ((((s.dropRequests c).forgetAtReset c).leaveSearch c).cage c) s.now
      (mode := .seating) rfl
    exact ⟨g.reset, g.lowPower, fun _ => rfl, g.ready, g.guard, g.powerUp, g.poll⟩
  · rw [first.cageMode c]
    exact fun kept serving => absurd (leaves serving) kept

theorem preserves_seatingRestart (c : CageId) (s : State) (t : Timer) (now : Moment)
    (seating : (s.cage c).mode = .seating) :
    Preserves s (s.updCage c fun m => { m with guardOrigin := now, seatingTimer := t }) :=
  preserves_updCage (fun g => ⟨g.reset, g.lowPower, fun _ => seating, g.ready, g.guard, g.powerUp, g.poll⟩) rfl id

theorem preserves_restartCage (c : CageId) (s : State) : Preserves s (s.restartCage c) := by
  have later : Preserves s ((if (s.cage c).mode = .serving then (s.seatAgain c).departLinks c .restart else
      s.seatAgain c).forEach (State.flushLink .flushed) (linksOf c)) := by
    refine Preserves.trans ?_ (Keeps.forEach fun j _ t => keeps_flushLink .flushed j t).preserves
    split
    · exact ⟨(keepsData_seatAgain c s).trans (keepsData_departLinks ..), fun h =>
        lawful_departLinks (lawful_seatAgain c s _ (fun _ => rfl) h) (.inr (.inr rfl))⟩
    · next idle =>
      exact ⟨keepsData_seatAgain c s, fun h =>
        (State.lawful_iff _).mpr (lawful_seatAgain c s _ (fun e => absurd e idle) h)⟩
  unfold State.restartCage
  split
  · exact .refl s
  · next seating => exact preserves_seatingRestart c s _ _ seating
  all_goals exact later

/-! ### Engagement (R120, R121) -/

/-- A link out of service in which nothing runs any more. -/
theorem Link.Follows.setService {l : Link} (v : ServiceState) (used : l.engine.recovery ≠ .inactive ∨ v = .off)
    (idle : v ≠ .pass ∧ v ≠ .replay) (timer : l.hold.holdTimer = none) (stopped : l.meter = stoppedMeter) :
    l.Follows { l with hold := { l.hold with service := v } } := fun a h =>
  ⟨⟨⟨h.active, fun e => used.resolve_left (not_not.mpr e), fun r => absurd (by rw [stopped]; rfl) r, h.ramping,
    fun e => absurd e (by simp [timer]), h.adapting, h.aligning⟩,
    fun e => e.elim (absurd · idle.1) (absurd · idle.2)⟩, id⟩

theorem touches_setLinkService {W : LinkId → Prop} {j : LinkId} (hj : W j) (v : ServiceState) (s : State) :
    Touches W [.hold, .serving] s (s.setService j v) := touches_updHold hj _ s

/-- An active link that is OFF is in SHED on an engaged device (R120). -/
theorem keeps_openService (j : LinkId) (s : State) :
    Keeps s (if s.isActive j && (s.link j).hold.service = ServiceState.off then s.setService j .shed else s) := by
  refine .ite (fun c => ?_) fun _ => .refl s
  simp only [Bool.and_eq_true, decide_eq_true_eq] at c
  have touched := touches_setLinkService (only_self j) .shed s
  refine ⟨touched.keepsData, fun L h => ?_⟩
  have link : (s.setService j .shed).link j = { s.link j with hold := { (s.link j).hold with service := .shed } } :=
    State.link_updHold_self ..
  have f := h.fits j
  have fit : ((s.setService j .shed).link j).Fits (s.isActive j) := by
    rw [link]
    refine ⟨⟨f.active, fun e => ?_, fun r => ?_, f.ramping, fun e => ?_, f.adapting, f.aligning⟩, nofun⟩
    · exact absurd c.1 (by simp [f.active.mp e])
    · exact nomatch c.2.symm.trans (f.metered r)
    · exact nomatch c.2.symm.trans (f.held e)
  have lines := touched.same .lines (by decide)
  refine ⟨fun d => (h.cages d).of_lines (lines d), fun i => ?_, fun i hi hm => ?_⟩
  · rw [State.isActive_of_lines lines]
    by_cases e : i = j
    · exact e ▸ fit
    · rw [touched.elsewhere i e]
      exact h.fits i
  · rw [Cage.mode_of_lines (lines _)] at hm
    rw [Link.Rests, touched.engine i]
    exact h.outside i hi hm

theorem touches_setEngaged (b : Bool) (s : State) : Touches Anywhere [.engaged] s { s with engaged := b } :=
  .of_parts fun p => by cases p <;> simp [Part.Same, State.cage, State.link]

theorem preserves_wake (c : CageId) (s : State) :
    Preserves s (if (s.cage c).mode = CageMode.waitEngage then s.enterWaking c else s) := by
  refine .ite (fun waits => ?_) fun _ => .refl s
  refine ⟨keepsData_enterWaking c s, fun h => (preserves_enterWaking c s ?_ fun _ => .inr waits).lawful h⟩
  exact Timer.eq_none_of (h.cages c).seating (waits ▸ nofun)

theorem preserves_engage (s : State) : Preserves s s.engage :=
  ((touches_setEngaged true s).keeps.trans (.forEach fun j _ t => keeps_openService j t)).preserves.trans
    (.forEach fun c _ t => preserves_wake c t)

theorem makeOff_link (j : LinkId) (s : State) : (s.makeOff j).link j = { s.link j with
    meter := stoppedMeter, hold := { (s.link j).hold with service := .off, holdTimer := none } } := by
  rw [State.makeOff, State.link_updHold_self]
  have stopped : (s.stopMeter j).link j = { s.link j with meter := stoppedMeter } := State.link_updLink_self ..
  rw [stopped]

theorem keeps_makeOff (j : LinkId) (s : State) : Keeps s (s.makeOff j) := by
  refine .of_link (touches_makeOff (only_self j) s)
    ((keeps_stopMeter j s).toKeepsData.trans (touches_updHold (only_self j) _ _).keepsData) ?_
  rw [makeOff_link]
  exact fun a h => ⟨⟨⟨h.active, fun _ => rfl, fun r => absurd rfl r, nofun, nofun, h.adapting, h.aligning⟩, nofun⟩, id⟩

/-- A link out of service goes DOWN. -/
theorem keeps_toDown (j : LinkId) (s : State) (off : (s.link j).hold.service = .off) (working : ¬ (s.link j).Rests) :
    Keeps s (s.toDown j) := by
  unfold State.toDown
  refine .of_engine (touches_updEngine (only_self j) _ s) ?_
  rw [State.link_updEngine_self]
  intro a h
  refine ⟨⟨⟨iff_of_false nofun fun e => working (.inl (h.active.mpr e)), nofun, h.metered, h.ramping, h.held, nofun,
    nofun⟩, ?_⟩, fun r => absurd r working⟩
  rw [show (LinkEngine.down (s.link j).engine).recovery = .down from rfl]
  simp only [off]
  exact nofun

/-- The turn of one link as its cage is disengaged. -/
def State.comeDown (j : LinkId) (s : State) : State :=
  if (s.link j).engine.recovery.isWorking then s.toDown j else s

theorem touches_comeDown {W : LinkId → Prop} {j : LinkId} (hj : W j) (s : State) :
    Touches W [.engine, .attempt] s (s.comeDown j) := .ite (fun _ => touches_updEngine hj _ s) fun _ => .refl ..

theorem comeDown_rests (j : LinkId) (s : State) : ((s.comeDown j).link j).Rests := by
  unfold State.comeDown
  split
  · exact .inr (congrArg (·.engine.recovery) (s.link_updEngine_self j LinkEngine.down))
  · next idle => exact not_not.mp ((RecoveryState.isWorking_iff _).not.mp idle)

/-- Every link is OFF: what stands while the cages are disengaged. -/
def State.AllOff (s : State) : Prop := ∀ j, (s.link j).hold.service = .off

theorem Touches.allOff {W : LinkId → Prop} {ps : List Part} {s t : State} (h : Touches W ps s t) (off : s.AllOff)
    (n : .serving ∉ ps := by decide) : t.AllOff := fun j => (h.same .serving n j).1.trans (off j)

theorem lawful_comeDown (j : LinkId) (s : State) (off : s.AllOff) {L : CageId → Prop} (h : s.LawfulBut L) :
    (s.comeDown j).LawfulBut L := by
  unfold State.comeDown
  split
  · next working => exact (keeps_toDown j s (off j) ((RecoveryState.isWorking_iff _).mp working)).lawful L h
  · exact h

/-- The change DISENGAGE makes of a cage that is past SEATING. -/
theorem lawful_disengaged (c : CageId) (s : State) (off : s.AllOff) (h : s.Lawful) :
    let t := (((s.dropRequests c).forgetAtReset c).leaveSearch c).updCage c (Cage.resetTo .waitEngage s.now)
    (t.forEach State.comeDown (t.activeLinks c)).Lawful := by
  intro t
  have first := touches_beforeReset c s
  have reset : t.LawfulBut (· = c) :=
    (first.lawfulBut ((State.lawful_iff s).mp h)).updCage _ (fun _ => False.elim)
      (fun _ => Cage.resetTo_lawful _ _ rfl) rfl fun kept => absurd rfl kept
  have offNow : t.AllOff := (touches_updCage (W := Anywhere) c _ _).allOff (first.allOff off)
  have each := fun (j : LinkId) (u : State) => touches_comeDown (W := Anywhere) (j := j) trivial u
  have down := State.forEach_through (P := fun u => u.LawfulBut (· = c) ∧ u.AllOff) (Q := fun _ _ => True)
    (f := State.comeDown) (t.activeLinks_nodup c)
    (fun j _ u hu _ => ⟨lawful_comeDown j u hu.2 hu.1, (each j u).allOff hu.2⟩) (fun _ _ _ _ _ _ => trivial)
    ⟨reset, offNow⟩ fun _ _ => trivial
  have gone := State.forEach_all (Q := fun j u => (u.link j).Rests) (f := State.comeDown) (l := t.activeLinks c) (s := t)
    (fun j _ u => comeDown_rests j u) fun i _ j u r => by
      by_cases e : j = i
      · exact e ▸ comeDown_rests i u
      · rwa [(touches_comeDown (only_self i) u).elsewhere j e]
  have lines := (Touches.forEach (W := Anywhere) (s := t) (f := State.comeDown) (l := t.activeLinks c)
    fun j _ u => each j u).same .lines (by decide)
  obtain ⟨cages, fits, outside⟩ := down.1
  refine (State.lawful_iff _).mpr ⟨cages, fits, fun j _ hm => ?_⟩
  by_cases e : cageOf j = c
  · by_cases active : t.isActive j = true
    · exact gone j (State.mem_activeLinks.mpr ⟨e, active⟩)
    · refine .inl ((fits j).active.mpr ?_)
      rw [State.isActive_of_lines lines]
      simpa using active
  · exact outside j e hm

theorem touches_disengageCage (c : CageId) (s : State) : Touches Anywhere
    [.cages, .lines, .controllers, .freeCount, .search, .engine, .attempt] s (s.disengageCage c) := by
  have later := ((touches_beforeReset c s).trans (touches_updCage c (Cage.resetTo .waitEngage s.now) _)
    (rs := [.cages, .lines, .controllers, .freeCount, .search])).trans (ps := [.cages, .lines, .controllers, .freeCount, .search])
    (rs := [.cages, .lines, .controllers, .freeCount, .search, .engine, .attempt])
    (.forEach (l := ((((s.dropRequests c).forgetAtReset c).leaveSearch c).updCage c (Cage.resetTo .waitEngage
      s.now)).activeLinks c) fun j _ u => touches_comeDown (W := Anywhere) (j := j) trivial u)
  unfold State.disengageCage
  split
  · exact .refl ..
  · exact .refl ..
  all_goals exact later

theorem lawful_disengageCage (c : CageId) (s : State) (off : s.AllOff) (h : s.Lawful) : (s.disengageCage c).Lawful := by
  have later := lawful_disengaged c s off h
  unfold State.disengageCage
  split
  · exact h
  · exact h
  all_goals exact later

theorem preserves_disengage (s : State) : Preserves s s.disengage := by
  have released : Keeps s (s.forEach State.releaseLink allLinks) := .forEach fun j _ t => keeps_releaseLink j t
  have off : Keeps (s.forEach State.releaseLink allLinks) _ := .forEach (l := allLinks) fun j _ t => keeps_makeOff j t
  have flushed : Keeps ((s.forEach State.releaseLink allLinks).forEach State.makeOff allLinks) _ :=
    .forEach (l := allLinks) fun j _ t => keeps_flushLink .flushed j t
  have before := ((released.trans off).trans flushed).trans (touches_setEngaged false _).keeps
  have allOff : (((s.forEach State.releaseLink allLinks).forEach State.makeOff allLinks).forEach
      (State.flushLink .flushed) allLinks).AllOff := by
    have store : ∀ u : State, Touches Anywhere storeParts u (u.forEach (State.flushLink .flushed) allLinks) := fun u =>
      .forEach fun j _ t => touches_flushLink (j := j) trivial .flushed t
    refine (store _).allOff fun j => ?_
    refine State.forEach_all (Q := fun j t => (t.link j).hold.service = .off) (fun j _ t => ?_) (fun i _ j t h => ?_) j
      (List.mem_finRange j)
    · rw [makeOff_link]
    · by_cases e : j = i
      · rw [e, makeOff_link]
      · rwa [(touches_makeOff (only_self i) t).elsewhere j e]
  refine ⟨before.toKeepsData.trans (.forEach fun c _ t => (touches_disengageCage c t).keepsData), fun h => ?_⟩
  refine (State.forEach_through (P := fun t => t.Lawful ∧ t.AllOff) (Q := fun _ _ => True) (List.nodup_finRange 16)
    (fun c _ t ht _ => ⟨lawful_disengageCage c t ht.2 ht.1, (touches_disengageCage c t).allOff ht.2⟩)
    (fun _ _ _ _ _ _ => trivial) ⟨before.preserves.lawful h, (touches_setEngaged false _).allOff allOff⟩ fun _ _ => trivial).1

end Sys2Proof.Machine
end

section
/-! PROOFS. Fabric layouts, the table's modes and the ends of searches keep every invariant (R23 to R34, R44, R77). -/

set_option Elab.async false

namespace Sys2Proof.Machine

/-! ### Fabric layouts (R44, R77) -/

theorem keepsData_relayout (old new : Layout) (j : LinkId) (s : State) : KeepsData s (s.relayout old new j) := by
  have closed : ∀ t : State, Touches (Only j) [.engine, .attempt, .hold, .serving] t (t.updLink j fun l => { l with
      engine := { l.engine.down with recovery := .inactive }
      hold := { l.hold with service := .off, holdTimer := none } }) := fun t =>
    touches_updLink t (only_self j) fun l p => by cases p <;> simp [Part.SameLink]
  unfold State.relayout
  split
  · exact ((closed s).keepsData.trans (keeps_flushLink ..).toKeepsData).trans (keeps_releaseLink ..).toKeepsData
  · exact (touches_slotUsed (only_self j) s).keepsData
  all_goals exact .refl s

/-- A resting link's hold timer and meter do not run. -/
theorem Link.Fits.idle {a : Bool} {l : Link} (h : l.Fits a) (rests : l.Rests) : l.meter.mode = .stopped ∧
    l.engine.adaptationTimer = none ∧ l.engine.alignmentTimer = none := by
  refine ⟨?_, Timer.eq_none_of h.adapting ?_, Timer.eq_none_of h.aligning ?_⟩
  · by_contra running
    have up := h.admitted (.inr (h.metered running))
    rcases rests with r | r <;> exact nomatch r.symm.trans up
  all_goals rcases rests with r | r <;> exact r ▸ nofun

/-- A slot after a new layout: INACTIVE, DOWN, or as it was (R77). -/
theorem fits_relayout (old new : Layout) (j : LinkId) (s : State) (h : (s.link j).Fits (old.uses (slotOf j)))
    (rests : (s.link j).Rests) : ((s.relayout old new j).link j).Fits (new.uses (slotOf j))
      ∧ ((s.relayout old new j).link j).Rests := by
  obtain ⟨stopped, adapting, aligning⟩ := h.idle rests
  have ramp : ¬ (s.link j).meter.rampTimer.isSome := fun r => h.ramping r stopped
  unfold State.relayout
  split
  · next used unused =>
    have like := ((touches_flushLink (only_self j) .flushed (s.updLink j fun l => { l with
      engine := { l.engine.down with recovery := .inactive }
      hold := { l.hold with service := .off, holdTimer := none } })).like j).trans
        ((touches_releaseLink (only_self j) _).like j)
    rw [State.link_updLink_self] at like
    rw [unused]
    exact ⟨like.fits ⟨⟨iff_of_true rfl rfl, fun _ => rfl, fun r => absurd stopped r, fun r => absurd r ramp, nofun,
      nofun, nofun⟩, nofun⟩, like.rests (.inl rfl)⟩
  · next unused used =>
    have inactive := h.active.mpr unused
    have off := h.unused inactive
    have timer : (s.link j).hold.holdTimer = none := Timer.eq_none_of h.held (off ▸ nofun)
    rw [State.slotUsed, State.link_updLink_self, used]
    refine ⟨⟨⟨iff_of_false nofun nofun, nofun, fun r => absurd stopped r, fun r => absurd r ramp, fun r => ?_,
      fun r => ?_, fun r => ?_⟩, fun e => ?_⟩, .inr rfl⟩
    · exact absurd r (by simp [timer])
    · exact absurd r (by simp [adapting])
    · exact absurd r (by simp [aligning])
    · revert e
      simp only
      split <;> exact nofun
  · next used used' =>
    exact ⟨used' ▸ used ▸ h, rests⟩
  · next unused unused' =>
    exact ⟨unused' ▸ unused ▸ h, rests⟩

theorem preserves_setLayout (c : CageId) (l : Layout) (s : State) (takes : (s.cage c).mode.takesLayout = true) :
    Preserves s (s.setLayout c l) := by
  have each := fun (j : LinkId) (t : State) => touches_relayout (only_self j) (s.cage c).fabricLayout l t
  refine ⟨(keepsData_updCage ..).trans (.forEach fun j _ t => keepsData_relayout _ l j t), fun h => ?_⟩
  unfold State.setLayout
  have changed := touches_updCage (W := Anywhere) c (fun m => { m with fabricLayout := l }) s
  have all : Touches (fun j => cageOf j = c) (storeParts ++ [.engine, .attempt, .serving])
      (s.updCage c fun m => { m with fabricLayout := l }) ((s.updCage c fun m => { m with fabricLayout := l }).forEach
        (State.relayout (s.cage c).fabricLayout l) (linksOf c)) :=
    .forEach fun j hj t => (each j t).widen fun i hi => hi ▸ mem_linksOf.mp hj
  have lines := all.same .lines (by decide)
  have own : (s.updCage c fun m => { m with fabricLayout := l }).cage c = { s.cage c with fabricLayout := l } :=
    State.cage_updCage_self ..
  have idle : (s.cage c).mode ≠ .serving := fun e => by
    rw [e] at takes
    cases takes
  obtain ⟨cages, fits, outside⟩ := (State.lawful_iff s).mp h
  have turned : ∀ j, cageOf j = c → ((((s.updCage c fun m => { m with fabricLayout := l }).forEach
      (State.relayout (s.cage c).fabricLayout l) (linksOf c)).link j).Fits (l.uses (slotOf j)) ∧
        (((s.updCage c fun m => { m with fabricLayout := l }).forEach
      (State.relayout (s.cage c).fabricLayout l) (linksOf c)).link j).Rests) := fun j e => by
    obtain ⟨t, before, after⟩ := State.forEach_at each (linksOf_nodup c) (mem_linksOf.mpr e)
      (s.updCage c fun m => { m with fabricLayout := l })
    have same : t.link j = s.link j := before.elsewhere j (by simp)
    rw [after]
    refine fits_relayout _ l j t ?_ ?_
    · rw [same, ← e]
      exact fits j
    · rw [same]
      exact outside j id (e ▸ idle)
  refine (State.lawful_iff _).mpr ⟨fun d => ?_, fun j => ?_, fun j hj hm => ?_⟩
  · refine Cage.Lawful.of_lines ?_ (lines d)
    by_cases e : c = d
    · subst e
      rw [own]
      obtain ⟨h1, h2, h3, h4, h5, h6, h7⟩ := cages c
      exact ⟨h1, h2, h3, h4, h5, h6, h7⟩
    · rw [State.cage_updCage_ne _ _ _ _ e]
      exact cages d
  · rw [State.isActive_of_lines lines, State.isActive, State.linkLayout]
    by_cases e : cageOf j = c
    · rw [e, own]
      exact (turned j e).1
    · rw [State.cage_updCage_ne _ _ _ _ (Ne.symm e), all.elsewhere j e]
      exact fits j
  · by_cases e : cageOf j = c
    · exact (turned j e).2
    · rw [all.elsewhere j e]
      rw [Cage.mode_of_lines (lines _), State.cage_updCage_ne _ _ _ _ (Ne.symm e)] at hm
      exact outside j hj hm

/-! ### The table's modes (R23, R24, R34) -/

theorem touches_setTable (table : ProfileTable) (s : State) (entries : table.entries = s.table.entries) :
    Touches Anywhere [.table] s { s with table := table } :=
  .of_parts fun p => by cases p <;> simp [Part.Same, State.cage, State.link, entries]

theorem touches_setTableSearch (table : ProfileTable) (search : SearchUnit) (s : State)
    (entries : table.entries = s.table.entries) :
    Touches Anywhere [.table, .search] s { s with table := table, search := search } :=
  .of_parts fun p => by cases p <;> simp [Part.Same, State.cage, State.link, entries]

/-- The cages that wait as the table enters EDIT move to PROFILE-WAIT; each is judged as it stood before (R24). -/
theorem preserves_enterEdit (s : State) : Preserves s s.enterEdit := by
  have waits : Preserves s (s.forEach (fun c t =>
      if s.search.waiting.get c && (s.cage c).mode = .profiling then t.updCage c fun m => { m with mode := .profileWait }
      else t) allCages) := by
    refine ⟨.forEach fun c _ t => .ite (fun _ => keepsData_updCage ..) fun _ => .refl t, fun h => ?_⟩
    refine State.forEach_through (P := State.Lawful) (Q := fun c t => t.cage c = s.cage c) (List.nodup_finRange 16)
      (fun c _ t ht same => ?_) (fun c _ d t ne same => ?_) h fun _ _ => rfl
    · split
      · next due =>
        simp only [Bool.and_eq_true, decide_eq_true_eq] at due
        exact (preserves_setDark (by rw [same, due.2]; rfl) rfl rfl).lawful ht
      · exact ht
    · split
      · rwa [State.cage_updCage_ne _ _ _ _ ne]
      · exact same
  refine waits.trans (Touches.keeps (touches_setTableSearch _ _ _ ?_)).preserves
  rfl

theorem preserves_enterActive (s : State) : Preserves s s.enterActive := by
  have opened := (touches_setTable { s.table with mode := .active, fault := none } s rfl).keeps.preserves
  have joined : ∀ c t, Preserves t (if (t.cage c).mode = CageMode.profileWait then t.joinSearch c else t) := fun c t =>
    .ite (fun waits => preserves_joinSearch c t (by rw [waits]; rfl)) fun _ => .refl t
  exact (opened.trans (.forEach fun c _ t => joined c t)).trans (keeps_chooseSearch _).preserves

theorem preserves_afterSearch (s : State) : Preserves s s.afterSearch :=
  .ite (fun _ => (preserves_enterEdit s).trans (keeps_respond ..).preserves) fun _ => (keeps_chooseSearch s).preserves

theorem ProfileTable.afterSearch_entries (t : ProfileTable) (c : CageId) (r : SearchResult) :
    (t.afterSearch c r).entries = t.entries := by
  cases r <;> rfl

theorem preserves_searchEnded (s : State) : Preserves s s.searchEnded := by
  unfold State.searchEnded
  split
  · exact .refl s
  · next x _ =>
    have ended := touches_setTableSearch (s.table.afterSearch x.cage (searchFrom x.cage x.key x.next x.view))
      { s.search with inFlight := none } s (ProfileTable.afterSearch_entries ..)
    refine Preserves.trans (.ite (fun current => ended.keeps.preserves.trans (preserves_takeResult _ _ _ ?_))
      fun _ => ended.keeps.preserves) (preserves_afterSearch _)
    simp only [State.isCurrent, Bool.and_eq_true, decide_eq_true_eq] at current
    exact (ended.cageMode _).trans current.1

theorem touches_setCommitView (v : Option (List ProfileEntry)) (s : State) : Touches Anywhere [.management] s
    (s.updManagement fun m => { m with commitView := v }) :=
  .of_parts fun p => by cases p <;> simp [Part.Same, State.cage, State.link]

theorem preserves_commitEnded (s : State) : Preserves s s.commitEnded := by
  have summed := (touches_setCommitView none s).keeps
  unfold State.commitEnded
  split
  · exact .ite (fun _ => (summed.preserves.trans (preserves_enterActive _)).trans (keeps_respond ..).preserves) fun _ =>
      (summed.trans (keeps_respond ..)).preserves
  · exact .refl s

/-! ### Keys (R20, R30 to R32) -/

/-- Entries replaced by others in order. -/
theorem keeps_setEntries (entries : List ProfileEntry) (s : State)
    (ordered : s.table.Ordered → ({ s.table with entries := entries } : ProfileTable).Ordered) :
    Keeps s (s.setEntries entries) := by
  have touched : Touches Anywhere [.table, .entries] s (s.setEntries entries) :=
    .of_parts fun p => by cases p <;> simp [Part.Same, State.cage, State.link, State.setEntries]
  exact ⟨⟨fun h => touched.poolConserved h, fun h => touched.bounded h, fun h => touched.reported h,
    fun h => touched.single h, ordered⟩, fun _ h => touched.lawfulBut h⟩

/-- An entry above the last joins entries in order (R30). -/
theorem ordered_append {entries : List ProfileEntry} (h : entries.Pairwise fun a b => a.key.toNat < b.key.toNat)
    (e : ProfileEntry) (above : isAbove e.key entries.getLast? = true) :
    (entries ++ [e]).Pairwise fun a b => a.key.toNat < b.key.toNat := by
  refine List.pairwise_append.mpr ⟨h, List.pairwise_singleton .., fun a ha b hb => ?_⟩
  rw [List.mem_singleton.mp hb]
  obtain ⟨x, hx⟩ := Option.isSome_iff_exists.mp (List.getLast?_isSome.mpr (List.ne_nil_of_mem ha))
  have last : x.key.toNat < e.key.toNat := by simpa [isAbove, hx] using above
  obtain ⟨front, rfl⟩ := List.getLast?_eq_some_iff.mp hx
  rcases List.mem_append.mp ha with hf | hl
  · exact (List.pairwise_append.mp h |>.2.2 a hf x (by simp)).trans last
  · exact List.mem_singleton.mp hl ▸ last

/-- An entry between its neighbours takes a place among entries in order (R31). -/
theorem ordered_set {entries : List ProfileEntry} (h : entries.Pairwise fun a b => a.key.toNat < b.key.toNat) (i : Nat)
    (e : ProfileEntry) (above : isAbove e.key (entryBefore entries i) = true)
    (below : isBelow e.key entries[i + 1]? = true) :
    (entries.set i e).Pairwise fun a b => a.key.toNat < b.key.toNat := by
  have keys := List.pairwise_iff_getElem.mp h
  refine List.pairwise_iff_getElem.mpr fun a b ha hb ab => ?_
  rw [List.length_set] at ha hb
  rw [List.getElem_set, List.getElem_set]
  split
  · next eq =>
    subst eq
    rw [if_neg (by omega)]
    have next : e.key.toNat < (entries[i + 1]'(by omega)).key.toNat := by
      rw [List.getElem?_eq_getElem (by omega)] at below
      simpa [isBelow] using below
    rcases Nat.lt_or_ge (i + 1) b with far | near
    · exact next.trans (keys _ _ _ _ far)
    · obtain rfl : b = i + 1 := by omega
      exact next
  · split
    · next eq =>
      subst eq
      have prev : (entries[i - 1]'(by omega)).key.toNat < e.key.toNat := by
        rw [entryBefore, if_neg (by omega), List.getElem?_eq_getElem (by omega)] at above
        simpa [isAbove] using above
      rcases Nat.lt_or_ge a (i - 1) with far | near
      · exact (keys _ _ _ _ far).trans prev
      · obtain rfl : a = i - 1 := by omega
        exact prev
    · exact keys a b ha hb ab

end Sys2Proof.Machine
end

section
/-! PROOFS. The events of buses, searches and cages and every request, each a step that keeps every invariant. -/

set_option Elab.async false

namespace Sys2Proof.Machine

/-! ### The buses, the search and the cages -/

theorem preserves_attemptEnded (k : ControllerId) (selected : Bool) (s : State) : Preserves s (s.attemptEnded k selected) := by
  unfold State.attemptEnded
  split
  · exact .refl s
  · exact .ite (fun _ => preserves_endTransaction ..) fun _ =>
      (touches_nextAttempt (W := Anywhere) k _ selected s).keeps.preserves

theorem preserves_transactionDone (k : ControllerId) (data : List Byte) (s : State) :
    Preserves s (s.transactionDone k data) := by
  unfold State.transactionDone
  split
  · exact .refl s
  · exact .ite (fun _ => preserves_endTransaction ..) fun _ => .refl s

/-- A cage in ABSENT or SEATING, with a seating timer in SEATING alone (R1, R2). -/
theorem Cage.Lawful.setSeating {m n : Cage} (h : m.Lawful) (mode : m.mode = .absent ∨ m.mode = .seating)
    (now : n.mode = .absent ∧ n.seatingTimer = none ∨ n.mode = .seating)
    (lines : n.lines = (n.mode, m.resetLine, m.lowPower, [n.seatingTimer, m.readyTimer, m.guardTimer, m.powerUpTimer,
      m.pollTimer], m.fabricLayout)) : n.Lawful := by
  simp only [Cage.lines, Prod.mk.injEq, List.cons.injEq, and_true, true_and] at lines
  obtain ⟨reset, low, ⟨ready, guard, powerUp, poll⟩, _⟩ := lines
  have holds : m.resetLine = true ∧ m.lowPower = true := by
    have reset := h.reset
    have low := h.lowPower
    rcases mode with e | e <;> rw [e] at reset low <;> exact ⟨reset, low⟩
  have idle : m.mode ≠ .waking ∧ m.mode ≠ .powering := by rcases mode with e | e <;> exact e ▸ ⟨nofun, nofun⟩
  have stopped : n.readyTimer = none ∧ n.guardTimer = none ∧ n.powerUpTimer = none ∧ n.pollTimer = none :=
    ⟨ready.trans (Timer.eq_none_of h.ready idle.1), guard.trans (Timer.eq_none_of h.guard idle.2),
      powerUp.trans (Timer.eq_none_of h.powerUp idle.2), poll.trans (Timer.eq_none_of h.poll idle.2)⟩
  obtain ⟨ready, guard, powerUp, poll⟩ := stopped
  refine ⟨?_, ?_, fun t => ?_, by simp [ready], by simp [guard], by simp [powerUp], by simp [poll]⟩
  · rw [reset, holds.1]
    rcases now with ⟨e, _⟩ | e <;> rw [e] <;> rfl
  · rw [low, holds.2]
    rcases now with ⟨e, _⟩ | e <;> rw [e]
  · rcases now with ⟨_, e⟩ | e
    · rw [e] at t
      cases t
    · exact e

theorem preserves_setSeating {c : CageId} {f : Cage → Cage} {s : State}
    (mode : (s.cage c).mode = .absent ∨ (s.cage c).mode = .seating)
    (now : (f (s.cage c)).mode = .absent ∧ (f (s.cage c)).seatingTimer = none ∨ (f (s.cage c)).mode = .seating)
    (lines : (f (s.cage c)).lines = ((f (s.cage c)).mode, (s.cage c).resetLine, (s.cage c).lowPower,
      [(f (s.cage c)).seatingTimer, (s.cage c).readyTimer, (s.cage c).guardTimer, (s.cage c).powerUpTimer,
        (s.cage c).pollTimer], (s.cage c).fabricLayout)) : Preserves s (s.updCage c f) := by
  refine preserves_updCage (fun h => h.setSeating mode now lines) (congrArg (·.2.2.2.2) lines) fun e => ?_
  rcases mode with m | m <;> exact nomatch m.symm.trans e

theorem preserves_insertion (c : CageId) (s : State) (absent : (s.cage c).mode = .absent) : Preserves s (s.insertion c) := by
  have forgotten := touches_forgetPage (W := Anywhere) c s
  exact forgotten.keeps.preserves.trans
    (preserves_setSeating (.inl ((forgotten.cageMode c).trans absent)) (.inr rfl) rfl)

theorem preserves_unseat (c : CageId) (s : State) (seating : (s.cage c).mode = .seating) : Preserves s (s.unseat c) :=
  (preserves_setSeating (.inr seating) (.inl ⟨rfl, rfl⟩) rfl).trans (keeps_setHeld ..).preserves

theorem keepsIn_execPresentAssertion (c : CageId) (s : State) : KeepsIn s (execPresentAssertion c s) := by
  unfold execPresentAssertion
  split
  · next absent => exact preservesIn_answer (preserves_insertion c s absent)
  · next seating => exact preservesIn_answer (preserves_setSeating (.inr seating) (.inr seating) rfl)
  all_goals exact keepsIn_answer (.refl s)

theorem keepsIn_execPresentDeassertionInSeating (c : CageId) (s : State) :
    KeepsIn s (execPresentDeassertionInSeating c s) := by
  unfold execPresentDeassertionInSeating
  split
  · next seating => exact preservesIn_answer (preserves_unseat c s seating)
  · exact keepsIn_answer (.refl s)

theorem keepsIn_execRemoval (c : CageId) (s : State) : KeepsIn s (execRemoval c s) := by
  unfold execRemoval
  split
  · exact keepsIn_answer (.refl s)
  · next seating => exact preservesIn_answer (preserves_unseat c s seating)
  all_goals exact preservesIn_answer (preserves_removed c s)

theorem keepsIn_execAlertAssertion (c : CageId) (s : State) : KeepsIn s (execAlertAssertion c s) := by
  unfold execAlertAssertion
  split
  · exact keepsIn_answer (.refl s)
  · exact preservesIn_answer ((keeps_updCage_rest c _ s).preserves.trans (preserves_alerted c _))

theorem keepsIn_execAlertDeassertion (c : CageId) (s : State) : KeepsIn s (execAlertDeassertion c s) :=
  keepsIn_answer (keeps_updCage_rest c _ s)

theorem keepsIn_execSeatingTimerExpiry (c : CageId) (s : State) : KeepsIn s (execSeatingTimerExpiry c s) :=
  preservesIn_answer (preserves_onExpiry _ _ s fun timed m => preserves_seated c (s.reach m) timed)

theorem keepsIn_execReadyTimerExpiry (c : CageId) (s : State) : KeepsIn s (execReadyTimerExpiry c s) :=
  preservesIn_answer (preserves_onExpiry _ _ s fun timed m =>
    preserves_enterIdentifying c (s.reach m) fun h => (h.cages c).ready timed)

theorem keepsIn_execGuardTimerExpiry (c : CageId) (s : State) : KeepsIn s (execGuardTimerExpiry c s) :=
  preservesIn_answer (preserves_onExpiry _ _ s fun timed m => preserves_guardEnded c (s.reach m) timed)

theorem keepsIn_execPollTimerExpiry (c : CageId) (s : State) : KeepsIn s (execPollTimerExpiry c s) :=
  preservesIn_answer (preserves_onExpiry _ _ s fun timed m =>
    (preserves_setPoll c none (s.reach m) fun h => (h.cages c).poll timed).trans (keeps_pollReady ..).preserves)

theorem keepsIn_execPowerUpTimerExpiry (c : CageId) (s : State) : KeepsIn s (execPowerUpTimerExpiry c s) := by
  refine preservesIn_answer (preserves_onExpiry _ _ s fun timed m => preserves_cageFailed c _ _ (s.reach m) fun h => ?_)
  rw [(h.cages c).powerUp timed]
  exact ⟨rfl, nofun⟩

/-! ### The requests on cages and on the device -/

theorem preservesIn_serve_onCage {i : Instr} {cage : Byte} {f : CageId → State → State} {s : State}
    (h : ∀ c t, Preserves t (f c t)) : KeepsIn s (serve i (State.onCage cage f) s) :=
  preservesIn_serve fun t => .ite (fun _ => (keeps_respond ..).preserves) fun _ => h _ t

/-- A change made, then answered. -/
theorem Preserves.respond {s t : State} (h : Preserves s t) {o : RequestOutcome} {fields : List Nat} {data : List Byte} :
    Preserves s (t.respond o fields data) := h.trans (keeps_respond ..).preserves

theorem Keeps.respond {s t : State} (h : Keeps s t) {o : RequestOutcome} {fields : List Nat} {data : List Byte} :
    Keeps s (t.respond o fields data) := h.trans (keeps_respond ..)

theorem preserves_forceGateOff (c : CageId) (s : State) : Preserves s (s.forceGateOff c) := by
  unfold State.forceGateOff
  split
  · next powering => exact (preserves_closeGate c _ none s rfl (by rw [powering]; rfl)).respond
  · next serving => exact (preserves_closeGate c _ none s rfl (by rw [serving]; rfl)).respond
  · next tripped => exact Preserves.respond (preserves_setDark (by rw [tripped]; rfl) rfl rfl)
  all_goals exact (Preserves.refl s).respond

theorem preserves_reArmGate (c : CageId) (s : State) : Preserves s (s.reArmGate c) := by
  unfold State.reArmGate
  split
  · next tripped => exact (preserves_enterPowering c s fun _ => by rw [tripped]; rfl).respond
  · next off => exact (preserves_enterPowering c s fun _ => by rw [off]; rfl).respond
  all_goals exact (Preserves.refl s).respond

/-! ### The configuration (section 10.4) -/

theorem keeps_updSettings (f : Settings → Settings) (s : State)
    (ceiling : (f s.settings).ceiling = s.settings.ceiling ∧ (f s.settings).decayFactor = s.settings.decayFactor
      := by exact ⟨rfl, rfl⟩) : Keeps s (s.updSettings f) :=
  (Touches.of_parts (W := Anywhere) (ps := [.settings]) fun p => by
    cases p <;> simp [Part.Same, State.cage, State.link, ceiling]).keeps

theorem keeps_takeItem (f : Settings → Settings) (s : State)
    (ceiling : (f s.settings).ceiling = s.settings.ceiling ∧ (f s.settings).decayFactor = s.settings.decayFactor
      := by exact ⟨rfl, rfl⟩) : Keeps s (s.takeItem f) := (keeps_updSettings f s ceiling).respond

theorem keeps_takeClamped (low high value : Nat) (f : Nat → Settings → Settings) (s : State)
    (ceiling : ∀ n, (f n s.settings).ceiling = s.settings.ceiling ∧ (f n s.settings).decayFactor = s.settings.decayFactor
      := by exact fun _ => ⟨rfl, rfl⟩) : Keeps s (s.takeClamped low high value f) :=
  (keeps_updSettings _ s (ceiling _)).trans (keeps_respondTaken ..)

theorem keeps_refuse (s : State) : Keeps s s.refuse := keeps_respond ..

theorem touches_setCeiling (n : Nat) (s : State) : Touches Anywhere [.settings, .ceiling] s
    (s.updSettings fun g => { g with ceiling := n }) := touches_updSettings ..

/-- A new ceiling, under which every penalty has been lowered (R106). -/
theorem keeps_setCeiling (n : Nat) (s : State) (h : n ≤ 65535) :
    Keeps s ((s.lowerPenalties n).updSettings fun g => { g with ceiling := n }) := by
  have lower : Touches Anywhere [.penalty] s (s.lowerPenalties n) := .forEach fun j _ t =>
    touches_setPenalty (j := j) trivial (fun p => min n p) t
  have low : ∀ j, ((s.lowerPenalties n).link j).penalty ≤ n := fun j => by
    refine State.forEach_all (Q := fun j t => (t.link j).penalty ≤ n) (fun j _ t => ?_) (fun i _ j t h => ?_) j
      (List.mem_finRange j)
    · rw [State.link_updLink_self]
      exact Nat.min_le_left ..
    · by_cases e : i = j
      · rw [e, State.link_updLink_self]
        exact Nat.min_le_left ..
      · rwa [State.link_updLink_ne _ _ _ _ e]
  have all := lower.trans (touches_setCeiling n _) (rs := [.penalty, .settings, .ceiling])
  refine ⟨⟨fun h => all.poolConserved h, fun b => ?_, fun h => all.reported h, fun h => all.single h,
    fun h => all.ordered h⟩, fun _ h => all.lawfulBut h⟩
  exact ⟨all.queue ▸ b.queue, h, (congrArg Settings.decayFactor lower.settings).trans_le b.decayFactor, low,
    fun j => by rw [all.meter]; exact b.tokens j, fun j => by rw [all.meter]; exact b.stopped j⟩

theorem keeps_setDecayFactor (n : Nat) (s : State) (h : n ≤ 65535) :
    Keeps s (s.updSettings fun g => { g with decayFactor := n }) := by
  have all := touches_updSettings (W := Anywhere) (fun g => { g with decayFactor := n }) s
  exact ⟨⟨fun h => all.poolConserved h, fun b => ⟨b.queue, b.ceiling, h, b.penalty, b.tokens, b.stopped⟩,
    fun h => all.reported h, fun h => all.single h, fun h => all.ordered h⟩, fun _ h => all.lawfulBut h⟩

theorem EventKind.ofCode_place (k : EventKind) : eventKindOfCode (k.place.val + 1) = some k := by
  cases k <;> rfl

theorem EventKind.place_injective {k x : EventKind} (h : k.place = x.place) : k = x :=
  Option.some.inj (by rw [← k.ofCode_place, ← x.ofCode_place, h])

/-- A kind's level changed: to 0 with its entries removed (R174). -/
theorem keeps_setLevel (k : EventKind) (n : Nat) (s : State) :
    Keeps s (if n = 0 then (s.updNotices fun u => { u with levels := u.levels.set k.place n }).silence k
      else s.updNotices fun u => { u with levels := u.levels.set k.place n }) := by
  have place : ∀ x : EventKind, x ≠ k → k.place ≠ x.place := fun x ne e => ne (EventKind.place_injective e).symm
  split
  · have emptied : Keeps s ((s.updNotices fun u => { u with levels := u.levels.set k.place n }).updNotices fun u =>
        { u with entries := u.entries.filter fun x => x.kind ≠ k }) := by
      refine .of_reported ((touches_updNotices (W := Anywhere) _ s).trans (touches_updNotices _ _)
        (rs := [.notices, .pendingSet])) (fun h => ⟨(h.filter _).pairs, fun e he => ?_, (h.filter _).counts⟩) fun _ => id
      obtain ⟨he, other⟩ := List.mem_filter.mp he
      show (s.notices.levels.set k.place n).get e.kind.place ≠ 0
      rw [Bank.get_set_ne _ _ _ _ (place _ (by simpa using other))]
      exact h.levels e he
    exact .ite (fun _ => emptied.trans (.forEach fun j _ t => keeps_setDiscardMark j false t)) fun _ => emptied
  · next level =>
    refine keeps_updNotices _ s fun h => ⟨h.pairs, fun e he => ?_, h.counts⟩
    by_cases same : k.place = e.kind.place
    · rw [← same, Bank.get_set_self]
      exact level
    · rw [Bank.get_set_ne _ _ _ _ same]
      exact h.levels e he

/-! ### The snapshot channels (R175, R180) -/

theorem keeps_armChannel (h : ChannelId) (g : Trigger) (m : ChannelMode) (count : Byte) (s : State) :
    Keeps s (s.updChannel h (Channel.armedWith g m (max 1 count.toNat))) := by
  refine keeps_updChannel h _ s fun c => ⟨fun _ => ⟨Nat.le_max_left .., ?_, nofun⟩, nofun, c.superseded⟩
  have := count.isLt
  exact Nat.max_le.mpr ⟨by omega, by omega⟩

theorem keeps_startChannel (h : ChannelId) (kind : EventKind) (source : Nat) (s : State) :
    Keeps s (s.startChannel h kind source) := by
  have claimed := keeps_claim h kind source s
  unfold State.startChannel
  split
  · next t e => rwa [e] at claimed
  · next t done e =>
    rw [e] at claimed
    exact claimed.trans (keeps_signal ..)

theorem keeps_disarmChannel (h : ChannelId) (s : State) : Keeps s (s.updChannel h Channel.disarmed) :=
  keeps_updChannel h _ s fun _ => ⟨nofun, fun _ => ⟨rfl, rfl, rfl, rfl⟩, fun _ => rfl⟩

/-! ### Reads, FORGET, sets and pass-throughs -/

theorem touches_setSlots (a b : Option DiscardRecord) (s : State) :
    Touches Anywhere [.slotA, .slotB] s { s with slotA := a, slotB := b } :=
  .of_parts fun p => by cases p <;> simp [Part.Same, State.cage, State.link]

theorem touches_setSets (sets : Bank 32 ParameterSet) (s : State) : Touches Anywhere [.sets] s { s with sets := sets } :=
  .of_parts fun p => by cases p <;> simp [Part.Same, State.cage, State.link]

theorem keeps_forget (f : RecoveryMemory → RecoveryMemory) (removed : Nat) (s : State)
    (single : s.memory.Single → (f s.memory).Single) : Keeps s (s.forget f removed) :=
  (keeps_updMemory f s single).respond

theorem resetMemory_single : resetMemory.Single := by
  refine ⟨Nat.zero_le _, List.nodup_nil, fun c r h => ?_, fun c d r q h => ?_⟩ <;>
    simp [resetMemory] at h

theorem keeps_passThrough (cage page offset length : Byte) (limit : Nat) (kind : BusKind) (data : List Byte) (s : State) :
    Keeps s (s.passThrough cage page offset length limit kind data) := by
  refine .ite (fun _ => keeps_respond ..) fun _ => ?_
  split
  · exact keeps_respond ..
  · exact (keeps_holdEngine s).trans (touches_placePassThrough (W := Anywhere) _ _).keeps

end Sys2Proof.Machine
end

section
/-! PROOFS. The resets leave a device that meets every invariant, and every step keeps them: the statements on what always
holds. -/

set_option Elab.async false

namespace Sys2Proof.Machine

/-! ### A device at rest, as a reset leaves it -/

/-- Nothing runs, waits or is held. -/
structure State.AtRest (s : State) : Prop where
  cages : ∀ c, ∃ now time p a, (s.cage c).lines = ({ resetCage now time p a with
    fabricLayout := (s.cage c).fabricLayout } : Cage).lines
  engines : ∀ j, (s.link j).engine = resetEngine (if s.isActive j then .down else .inactive)
  penalties : ∀ j, (s.link j).penalty = 0
  holds : ∀ j, (s.link j).hold = resetHold
  parks : ∀ j, (s.link j).park = resetPark
  meters : ∀ j, (s.link j).meter = stoppedMeter
  pool : s.poolFree = poolSize
  queue : s.management.queue = []
  entries : s.notices.entries = []
  channels : s.channels = Bank.fill 4 resetChannel

theorem resetCage_lawful (now : Moment) (time : Nat) (p a : Bool) : (resetCage now time p a).Lawful := by
  cases p <;> exact ⟨rfl, rfl, by simp [resetCage], nofun, nofun, nofun, nofun⟩

namespace State.AtRest

variable {s : State} (h : s.AtRest)
include h

theorem poolConserved : s.poolConserved := by
  have empty : s.blocksHeld = 0 := by
    refine List.sum_eq_zero fun n hn => ?_
    obtain ⟨j, -, rfl⟩ := List.mem_map.mp hn
    rw [h.parks j]
    rfl
  rw [State.poolConserved, empty, h.pool]
  rfl

theorem bounded (ceiling : s.settings.ceiling ≤ 65535) (decay : s.settings.decayFactor ≤ 65535) : s.Bounded :=
  ⟨by simp [h.queue], ceiling, decay, fun j => by simp [h.penalties j], fun j => by rw [h.meters j]; exact Nat.le_refl _,
    fun j _ => h.meters j⟩

theorem reported : s.Reported := by
  refine (State.reported_iff s).mpr ⟨⟨?_, ?_, ?_⟩, fun k => ?_⟩
  · simp [h.entries]
  · simp [h.entries]
  · simp [h.entries]
  · rw [State.channel, h.channels, Bank.get_fill]
    exact ⟨nofun, fun _ => ⟨rfl, rfl, rfl, rfl⟩, fun _ => rfl⟩

theorem lawful : s.Lawful := by
  refine (State.lawful_iff s).mpr ⟨fun c => ?_, fun j => ?_, fun j _ _ => ?_⟩
  · obtain ⟨now, time, p, a, lines⟩ := h.cages c
    obtain ⟨h1, h2, h3, h4, h5, h6, h7⟩ := resetCage_lawful now time p a
    exact Cage.Lawful.of_lines (m := { resetCage now time p a with fabricLayout := (s.cage c).fabricLayout })
      ⟨h1, h2, h3, h4, h5, h6, h7⟩ lines
  · have recovery : (s.link j).engine.recovery = if s.isActive j then .down else .inactive :=
      congrArg LinkEngine.recovery (h.engines j)
    refine ⟨⟨?_, fun _ => by rw [h.holds j]; rfl, ?_, ?_, ?_, ?_, ?_⟩, ?_⟩
    · rw [recovery]
      cases s.isActive j <;> simp
    · exact fun r => absurd (congrArg Meter.mode (h.meters j)) r
    · rw [h.meters j]
      exact nofun
    · rw [h.holds j]
      exact nofun
    · rw [h.engines j]
      exact nofun
    · rw [h.engines j]
      exact nofun
    · rw [h.holds j]
      exact nofun
  · rw [Link.Rests, h.engines j]
    cases s.isActive j
    · exact .inl rfl
    · exact .inr rfl

end State.AtRest

/-! ### Power-on reset (R1) -/

theorem atReset_atRest (present alert : BitVec 16) (straps : BitVec 4) : (State.atReset present alert straps).AtRest where
  cages c := ⟨0, (resetSettings straps).seatingTime, present.getLsbD c, alert.getLsbD c, by
    simp [State.cage, State.atReset, Cage.lines]⟩
  engines j := by
    have slot : (if j.val % 4 = 0 then RecoveryState.down else .inactive)
        = if (State.atReset present alert straps).isActive j then .down else .inactive := by
      simp only [State.isActive, State.linkLayout, State.cage, State.atReset, Bank.get_tabulate, resetCage]
      revert j
      decide
    rw [← slot]
    simp [State.link, State.atReset, resetLink]
  penalties j := by simp [State.link, State.atReset, resetLink]
  holds j := by simp [State.link, State.atReset, resetLink]
  parks j := by simp [State.link, State.atReset, resetLink]
  meters j := by simp [State.link, State.atReset, resetLink]
  pool := rfl
  queue := rfl
  entries := rfl
  channels := rfl

theorem resetTable_ordered : resetTable.Ordered := ⟨Nat.zero_le _, List.Pairwise.nil⟩

theorem resetSettings_bounded (straps : BitVec 4) :
    (resetSettings straps).ceiling ≤ 65535 ∧ (resetSettings straps).decayFactor ≤ 65535 := by
  simp [resetSettings]

theorem atReset_bounded (present alert : BitVec 16) (straps : BitVec 4) :
    (State.atReset present alert straps).Bounded :=
  (atReset_atRest present alert straps).bounded (resetSettings_bounded straps).1 (resetSettings_bounded straps).2

theorem keepsIn_execPowerOnReset (present alert : BitVec 16) (straps : BitVec 4) (s : State) :
    KeepsIn s (execPowerOnReset present alert straps s) := by
  rintro t ⟨⟩
  have reset := atReset_atRest present alert straps
  have rest : ({ State.atReset present alert straps with pending := s.pending, freeCount := s.freeCount } : State).AtRest :=
    ⟨reset.cages, reset.engines, reset.penalties, reset.holds, reset.parks, reset.meters, reset.pool, reset.queue,
      reset.entries, reset.channels⟩
  exact ⟨⟨fun _ => rest.poolConserved, fun _ => rest.bounded (resetSettings_bounded straps).1 (resetSettings_bounded straps).2, fun _ => rest.reported,
    fun _ => resetMemory_single, fun _ => resetTable_ordered⟩, fun _ => rest.lawful⟩

/-! ### DEVICE-RESTART (R165) -/

theorem keeps_replyFirst (s : State) : Keeps s s.replyFirst := by
  unfold State.replyFirst
  split
  · exact .refl s
  · split
    · exact (keeps_sendReply ..).trans (keeps_serveOut _)
    · next j _ => exact .ite (fun _ => (touches_toFabric (only_self j) _ s).keeps) fun _ => .refl s

theorem touches_restartTraffic (s : State) :
    Touches Anywhere (storeParts ++ [.serving, .meter]) s s.restartTraffic := by
  have zeroed := (touches_setSlots none none s).trans (ps := [.slotA, .slotB]) (qs := [.counters])
    (rs := storeParts ++ [.serving, .meter])
    (.forEach (l := allLinks) fun j _ t => touches_updCounters (W := Anywhere) (j := j) trivial (fun _ => zeroCounters) t)
  have released : ∀ t : State, Touches Anywhere [.hold, .fabricSide] t (t.forEach State.releaseLink allLinks) := fun t =>
    .forEach fun j _ u => touches_releaseLink (j := j) trivial u
  have off : ∀ t : State, Touches Anywhere [.hold, .serving, .meter] t (t.forEach State.makeOff allLinks) := fun t =>
    .forEach fun j _ u => touches_makeOff (j := j) trivial u
  have flushed : ∀ t : State, Touches Anywhere storeParts t (t.forEach (State.flushLink .flushed) allLinks) := fun t =>
    .forEach fun j _ u => touches_flushLink (j := j) trivial .flushed u
  unfold State.restartTraffic
  exact ((zeroed.trans (released _) (rs := storeParts ++ [.serving, .meter])).trans (off _)
    (rs := storeParts ++ [.serving, .meter])).trans (flushed _)

/-- The restart values around a state whose traffic has ended. -/
def State.restartedFrom (t : State) : State :=
  { t with
    raised := []
    cages := Bank.tabulate fun c => (t.cages.get c).restarted t.now t.settings.seatingTime
    controllers := Bank.fill 4 resetController
    search := resetSearch
    memory := { t.memory with held := Bank.tabulate fun c => t.memory.held.get c && (t.cages.get c).present }
    links := Bank.tabulate fun j => (t.links.get j).restarted t.settings (t.isActive j)
    tickTimer := t.inMs t.settings.decayTick
    engaged := false
    poolFree := poolSize
    poolLow := false
    management := resetManagement
    notices := { t.notices with entries := [], gapTimer := none }
    channels := Bank.fill 4 resetChannel }

theorem State.restart_eq (s : State) : s.restart = s.restartTraffic.restartedFrom := by
  rw [State.restart, State.restartedFrom]

theorem restartedFrom_atRest (t : State) : t.restartedFrom.AtRest where
  cages c := ⟨t.now, t.settings.seatingTime, (t.cages.get c).present, (t.cages.get c).alert, by
    simp [State.cage, State.restartedFrom, Cage.restarted, Cage.lines]⟩
  engines j := by
    have active : t.restartedFrom.isActive j = t.isActive j := by
      simp [State.isActive, State.linkLayout, State.cage, State.restartedFrom, Cage.restarted]
    rw [active]
    simp [State.link, State.restartedFrom, Link.restarted]
  penalties j := by simp [State.link, State.restartedFrom, Link.restarted]
  holds j := by simp [State.link, State.restartedFrom, Link.restarted]
  parks j := by simp [State.link, State.restartedFrom, Link.restarted]
  meters j := by simp [State.link, State.restartedFrom, Link.restarted]
  pool := rfl
  queue := rfl
  entries := rfl
  channels := rfl

theorem preserves_restartedFrom_of {s t : State} {ps : List Part} (traffic : Touches Anywhere ps s t)
    (n : ∀ p ∈ [Part.settings, .memory, .entries], p ∉ ps) : Preserves s t.restartedFrom := by
  have rest := restartedFrom_atRest t
  have settings := traffic.settings (n _ (by decide))
  refine ⟨⟨fun _ => rest.poolConserved, fun b => rest.bounded ?_ ?_, fun _ => rest.reported, fun h => ?_, fun h => ?_⟩,
    fun _ => rest.lawful⟩
  · exact (congrArg Settings.ceiling settings).trans_le b.ceiling
  · exact (congrArg Settings.decayFactor settings).trans_le b.decayFactor
  · exact (traffic.single h (n _ (by decide))).of_fewer (List.Sublist.refl _) fun c r hr => ⟨r, hr, rfl⟩
  · exact traffic.ordered h (n _ (by decide))

theorem preserves_restart (s : State) : Preserves s s.restart := by
  rw [State.restart_eq]
  exact preserves_restartedFrom_of (touches_restartTraffic s) (by decide)

/-! ### Damage to an entry (R21) -/

/-- What damage to an entry keeps: all but the order of the keys. -/
structure KeepsDamaged (s t : State) : Prop where
  pool : s.poolConserved → t.poolConserved
  bounded : s.Bounded → t.Bounded
  reported : s.Reported → t.Reported
  single : s.memory.Single → t.memory.Single
  lawful : s.Lawful → t.Lawful

theorem Preserves.damaged {s t : State} (h : Preserves s t) : KeepsDamaged s t :=
  ⟨h.pool, h.bounded, h.reported, h.single, h.lawful⟩

theorem keepsDamaged_execEntryDamage (index : Fin 256) (key attr : BitVec 32) (s t : State)
    (h : execEntryDamage index key attr s = .next t) : KeepsDamaged s t := by
  obtain ⟨⟩ := h
  have damaged : Touches Anywhere [.table, .entries, .search, .management, .freeCount] s { s with
      table := { s.table with entries := damageEntry index.val (entryOf key attr false) s.table.entries }
      search := s.search.sees (Config.damageSeen s.freeCount) index.val (entryOf key attr false)
      management := s.management.sees (Config.damageSeen s.freeCount) index.val (entryOf key attr false)
      freeCount := s.freeCount + 1 } :=
    .of_parts fun p => by cases p <;> simp [Part.Same, State.cage, State.link, ManagementEngine.sees]
  refine KeepsDamaged.mk (fun h => ?_) (fun h => ?_) (fun h => ?_) (fun h => ?_) fun h => ?_
  · exact (keeps_settle _).pool (damaged.poolConserved h)
  · exact (keeps_settle _).bounded (damaged.bounded h)
  · exact (keeps_settle _).reported (damaged.reported h)
  · exact (keeps_settle _).single (damaged.single h)
  · exact (keeps_settle _).preserves.lawful
      ((State.lawful_iff _).mpr (damaged.lawfulBut ((State.lawful_iff s).mp h)))

end Sys2Proof.Machine
end

section
/-! PROOFS. Every step keeps the invariants: the statements on what always holds. -/

set_option Elab.async false

namespace Sys2Proof.Machine

/-! ### The requests and the remaining events -/

theorem keepsIn_execModuleBusAttemptFailure (k : ControllerId) (selected : Bool) (s : State) :
    KeepsIn s (execModuleBusAttemptFailure k selected s) := by
  unfold execModuleBusAttemptFailure
  exact preservesIn_answer (preserves_attemptEnded ..)

theorem keepsIn_execBusStretchTimeout (k : ControllerId) (s : State) :
    KeepsIn s (execBusStretchTimeout k s) := by
  unfold execBusStretchTimeout
  exact preservesIn_answer (preserves_endTransaction ..)

theorem keepsIn_execModuleBusTransactionEnd (k : ControllerId) (data : List Byte) (s : State) :
    KeepsIn s (execModuleBusTransactionEnd k data s) := by
  unfold execModuleBusTransactionEnd
  exact preservesIn_answer (preserves_transactionDone ..)

theorem keepsIn_execSearchEnd (s : State) :
    KeepsIn s (execSearchEnd s) := by
  unfold execSearchEnd
  exact preservesIn_answer (preserves_searchEnded s)

theorem keepsIn_execReadStateDevice (q : Requester) (s : State) :
    KeepsIn s (execReadStateDevice q s) := by
  unfold execReadStateDevice
  exact keepsIn_serve fun t => keeps_respond ..

theorem keepsIn_execReadStateCage (q : Requester) (c : Byte) (s : State) :
    KeepsIn s (execReadStateCage q c s) := by
  unfold execReadStateCage
  exact keepsIn_serve fun t => .ite (fun _ => keeps_respond ..) fun _ => keeps_respond ..

theorem keepsIn_execReadStateLink (q : Requester) (j : Byte) (s : State) :
    KeepsIn s (execReadStateLink q j s) := by
  unfold execReadStateLink
  exact keepsIn_serve fun t => .ite (fun _ => keeps_respond ..) fun _ => keeps_respond ..

theorem keepsIn_execReadCounters (q : Requester) (j : Byte) (s : State) :
    KeepsIn s (execReadCounters q j s) := by
  unfold execReadCounters
  refine keepsIn_serve fun t => ?_
  split
  · exact keeps_respond ..
  · exact Keeps.respond (.forEach fun j _ u => (touches_updCounters (only_self j) _ u).keeps)

theorem keepsIn_execReadDiscards (q : Requester) (s : State) :
    KeepsIn s (execReadDiscards q s) := by
  unfold execReadDiscards
  exact keepsIn_serve fun t => (touches_setSlots none none t).keeps.respond

theorem keepsIn_execSeatingTime (q : Requester) (v : BitVec 16) (s : State) :
    KeepsIn s (execSeatingTime q v s) := by
  unfold execSeatingTime
  exact keepsIn_serve fun t => keeps_takeClamped ..

theorem keepsIn_execManagementReadyTime (q : Requester) (v : BitVec 16) (s : State) :
    KeepsIn s (execManagementReadyTime q v s) := by
  unfold execManagementReadyTime
  exact keepsIn_serve fun t => keeps_takeClamped ..

theorem keepsIn_execIdentityReadList (q : Requester) (v : List Byte) (s : State) :
    KeepsIn s (execIdentityReadList q v s) := by
  unfold execIdentityReadList
  exact keepsIn_serve fun t => keeps_takeItem _ t

theorem keepsIn_execSerialLocation (q : Requester) (page : Byte) (offset : Byte) (s : State) :
    KeepsIn s (execSerialLocation q page offset s) := by
  unfold execSerialLocation
  exact keepsIn_serve fun t => .ite (fun _ => keeps_refuse t) fun _ => keeps_takeItem _ t

theorem keepsIn_execPageSelectLocation (q : Requester) (v : Byte) (s : State) :
    KeepsIn s (execPageSelectLocation q v s) := by
  unfold execPageSelectLocation
  refine keepsIn_serve fun t => Keeps.trans (.forEach fun c _ u => ?_) (keeps_takeItem _ _)
  exact (touches_forgetLocation (W := Anywhere) c u).keeps

theorem keepsIn_execFabricLayout (q : Requester) (c : Byte) (v : Byte) (s : State) :
    KeepsIn s (execFabricLayout q c v s) := by
  unfold execFabricLayout
  refine preservesIn_serve fun t => ?_
  simp only
  split
  · exact (keeps_refuse t).preserves
  · exact .ite (fun _ => (keeps_refuse t).preserves) fun _ => .ite (fun takes => (preserves_setLayout _ _ t takes).respond)
      fun _ => (Preserves.refl t).respond

theorem keepsIn_execAlertEnable (q : Requester) (c : Byte) (v : Byte) (s : State) :
    KeepsIn s (execAlertEnable q c v s) := by
  unfold execAlertEnable
  exact keepsIn_serve fun t => .ite (fun _ => keeps_refuse t) fun _ => (keeps_updCage_rest _ _ t).respond

theorem keepsIn_execLockLossConfirmTime (q : Requester) (v : BitVec 16) (s : State) :
    KeepsIn s (execLockLossConfirmTime q v s) := by
  unfold execLockLossConfirmTime
  exact keepsIn_serve fun t => keeps_takeClamped ..

theorem keepsIn_execLossIncrement (q : Requester) (v : BitVec 16) (s : State) :
    KeepsIn s (execLossIncrement q v s) := by
  unfold execLossIncrement
  exact keepsIn_serve fun t => keeps_takeItem _ t

theorem keepsIn_execRemovalIncrement (q : Requester) (v : BitVec 16) (s : State) :
    KeepsIn s (execRemovalIncrement q v s) := by
  unfold execRemovalIncrement
  exact keepsIn_serve fun t => keeps_takeItem _ t

theorem keepsIn_execCeiling (q : Requester) (v : BitVec 16) (s : State) :
    KeepsIn s (execCeiling q v s) := by
  unfold execCeiling
  exact keepsIn_serve fun t => (keeps_setCeiling v.toNat t (Nat.le_of_lt_succ v.isLt)).respond

theorem keepsIn_execSuppressThreshold (q : Requester) (v : BitVec 16) (s : State) :
    KeepsIn s (execSuppressThreshold q v s) := by
  unfold execSuppressThreshold
  exact keepsIn_serve fun t => .ite (fun _ => keeps_refuse t) fun _ => keeps_takeItem _ t

theorem keepsIn_execReuseThreshold (q : Requester) (v : BitVec 16) (s : State) :
    KeepsIn s (execReuseThreshold q v s) := by
  unfold execReuseThreshold
  exact keepsIn_serve fun t => .ite (fun _ => keeps_refuse t) fun _ => keeps_takeItem _ t

theorem keepsIn_execDecayFactor (q : Requester) (v : BitVec 16) (s : State) :
    KeepsIn s (execDecayFactor q v s) := by
  unfold execDecayFactor
  exact keepsIn_serve fun t => (keeps_setDecayFactor v.toNat t (Nat.le_of_lt_succ v.isLt)).respond

theorem keepsIn_execDecayTick (q : Requester) (v : BitVec 16) (s : State) :
    KeepsIn s (execDecayTick q v s) := by
  unfold execDecayTick
  exact keepsIn_serve fun t => keeps_takeClamped ..

theorem keepsIn_execPausable (q : Requester) (k : Byte) (v : Byte) (s : State) :
    KeepsIn s (execPausable q k v s) := by
  unfold execPausable
  refine keepsIn_serve fun t => .ite (fun _ => keeps_refuse t) fun _ => Keeps.trans ?_ (keeps_takeItem _ _)
  exact .ite (fun _ => .refl t) fun _ => .forEach fun j _ u => (touches_releaseClass (only_self j) _ u).keeps

theorem keepsIn_execPauseTime (q : Requester) (v : BitVec 16) (s : State) :
    KeepsIn s (execPauseTime q v s) := by
  unfold execPauseTime
  exact keepsIn_serve fun t => keeps_takeClamped ..

theorem keepsIn_execPauseOnHold (q : Requester) (v : Byte) (s : State) :
    KeepsIn s (execPauseOnHold q v s) := by
  unfold execPauseOnHold
  refine keepsIn_serve fun t => Keeps.trans (.ite (fun _ => .forEach fun j _ u => ?_) fun _ => .refl t) (keeps_takeItem _ _)
  exact .ite (fun _ => .forEach fun k _ w => (touches_releaseIfLow (only_self j) k w).keeps) fun _ => .refl u

theorem keepsIn_execDscpMapEnable (q : Requester) (v : Byte) (s : State) :
    KeepsIn s (execDscpMapEnable q v s) := by
  unfold execDscpMapEnable
  exact keepsIn_serve fun t => keeps_takeItem _ t

theorem keepsIn_execDscpMap (q : Requester) (v : List Byte) (s : State) :
    KeepsIn s (execDscpMap q v s) := by
  unfold execDscpMap
  exact keepsIn_serve fun t => keeps_takeItem _ t

theorem keepsIn_execDefaultPriority (q : Requester) (v : Byte) (s : State) :
    KeepsIn s (execDefaultPriority q v s) := by
  unfold execDefaultPriority
  exact keepsIn_serve fun t => keeps_takeItem _ t

theorem keepsIn_execClassMap (q : Requester) (v : List Byte) (s : State) :
    KeepsIn s (execClassMap q v s) := by
  unfold execClassMap
  exact keepsIn_serve fun t => keeps_takeItem _ t

theorem keepsIn_execClassLimit (q : Requester) (v : BitVec 16) (s : State) :
    KeepsIn s (execClassLimit q v s) := by
  unfold execClassLimit
  exact keepsIn_serve fun t => keeps_takeClamped ..

theorem keepsIn_execCriticalLevel (q : Requester) (v : BitVec 16) (s : State) :
    KeepsIn s (execCriticalLevel q v s) := by
  unfold execCriticalLevel
  exact keepsIn_serve fun t => .ite (fun _ => keeps_refuse t) fun _ => keeps_takeClamped ..

theorem keepsIn_execResumeLevel (q : Requester) (v : BitVec 16) (s : State) :
    KeepsIn s (execResumeLevel q v s) := by
  unfold execResumeLevel
  exact keepsIn_serve fun t => .ite (fun _ => keeps_refuse t) fun _ => keeps_takeClamped ..

theorem keepsIn_execLinkLimit (q : Requester) (v : BitVec 16) (s : State) :
    KeepsIn s (execLinkLimit q v s) := by
  unfold execLinkLimit
  exact keepsIn_serve fun t => keeps_takeClamped ..

theorem keepsIn_execPoolLowMark (q : Requester) (v : BitVec 16) (s : State) :
    KeepsIn s (execPoolLowMark q v s) := by
  unfold execPoolLowMark
  exact keepsIn_serve fun t => keeps_takeClamped ..

theorem keepsIn_execManagementAddress (q : Requester) (v : MacAddress) (s : State) :
    KeepsIn s (execManagementAddress q v s) := by
  unfold execManagementAddress
  exact keepsIn_serve fun t => .ite (fun _ => keeps_refuse t) fun _ => keeps_takeItem _ t

theorem keepsIn_execManagementTypeValue (q : Requester) (v : BitVec 16) (s : State) :
    KeepsIn s (execManagementTypeValue q v s) := by
  unfold execManagementTypeValue
  exact keepsIn_serve fun t => .ite (fun _ => keeps_refuse t) fun _ => keeps_takeItem _ t

theorem keepsIn_execNoticeLevel (q : Requester) (kind : Byte) (v : Byte) (s : State) :
    KeepsIn s (execNoticeLevel q kind v s) := by
  unfold execNoticeLevel
  refine keepsIn_serve fun t => ?_
  split
  · exact keeps_refuse t
  · next k _ => exact (keeps_setLevel k _ t).trans (keeps_respondTaken ..)

theorem keepsIn_execNoticeGap (q : Requester) (v : Byte) (s : State) :
    KeepsIn s (execNoticeGap q v s) := by
  unfold execNoticeGap
  exact keepsIn_serve fun t => keeps_takeItem _ t

theorem keepsIn_execEngage (q : Requester) (s : State) :
    KeepsIn s (execEngage q s) := by
  unfold execEngage
  exact preservesIn_serve fun t => Preserves.respond (.ite (fun _ => .refl t) fun _ => preserves_engage t)

theorem keepsIn_execDisengage (q : Requester) (s : State) :
    KeepsIn s (execDisengage q s) := by
  unfold execDisengage
  exact preservesIn_serve fun t => Preserves.respond (.ite (fun _ => preserves_disengage t) fun _ => .refl t)

theorem keepsIn_execDeviceRestart (q : Requester) (s : State) :
    KeepsIn s (execDeviceRestart q s) := by
  unfold execDeviceRestart
  exact preservesIn_serve fun t => (keeps_replyFirst t).preserves.trans (preserves_restart _)

theorem keepsIn_execCageRestart (q : Requester) (c : Byte) (s : State) :
    KeepsIn s (execCageRestart q c s) := by
  unfold execCageRestart
  exact preservesIn_serve_onCage fun c t => (preserves_restartCage c t).respond

theorem keepsIn_execTableEdit (q : Requester) (s : State) :
    KeepsIn s (execTableEdit q s) := by
  unfold execTableEdit
  refine preservesIn_serve fun t => ?_
  split
  · exact (Preserves.refl t).respond
  · exact .ite (fun _ => ((keeps_updSearch ..).trans (keeps_holdEngine _)).preserves) fun _ =>
      (preserves_enterEdit t).respond

theorem keepsIn_execTableAppend (q : Requester) (key : BitVec 32) (attr : BitVec 32) (s : State) :
    KeepsIn s (execTableAppend q key attr s) := by
  unfold execTableAppend
  refine keepsIn_serve fun t => .ite (fun _ => keeps_respond ..) fun _ => .ite (fun _ => keeps_respond ..) fun _ =>
    .ite (fun _ => keeps_respond ..) fun room => .ite (fun _ => keeps_respond ..) fun above =>
      (keeps_setEntries _ t fun h => ⟨?_, ?_⟩).respond
  · rw [List.length_append, List.length_singleton]
    exact Nat.lt_of_not_le room
  · exact ordered_append h.2 (entryOf key attr true) (by show isAbove key _ = true; simpa using above)

theorem keepsIn_execTableReplace (q : Requester) (index : Byte) (key : BitVec 32) (attr : BitVec 32) (s : State) :
    KeepsIn s (execTableReplace q index key attr s) := by
  unfold execTableReplace
  refine keepsIn_serve fun t => .ite (fun _ => keeps_respond ..) fun _ => .ite (fun _ => keeps_respond ..) fun _ =>
    .ite (fun _ => keeps_respond ..) fun between => (keeps_setEntries _ t fun h => ⟨?_, ?_⟩).respond
  · rw [List.length_set]
    exact h.1
  · simp only [Bool.not_eq_true', Bool.not_eq_false, Bool.and_eq_true] at between
    exact ordered_set h.2 _ _ between.1 between.2

theorem keepsIn_execTableTruncate (q : Requester) (count : BitVec 16) (s : State) :
    KeepsIn s (execTableTruncate q count s) := by
  unfold execTableTruncate
  refine keepsIn_serve fun t => .ite (fun _ => keeps_respond ..) fun _ => .ite (fun _ => keeps_respond ..) fun _ =>
    (keeps_setEntries _ t fun h => ⟨?_, h.2.sublist (List.take_sublist ..)⟩).respond
  exact (List.take_sublist ..).length_le.trans h.1

theorem keepsIn_execTableCommit (q : Requester) (checksum : BitVec 32) (s : State) :
    KeepsIn s (execTableCommit q checksum s) := by
  unfold execTableCommit
  exact keepsIn_serve fun t => .ite (fun _ => keeps_respond ..) fun _ =>
    (touches_setCommitView _ t).keeps.trans (keeps_holdEngine _)

theorem keepsIn_execCommitChecksumDone (s : State) :
    KeepsIn s (execCommitChecksumDone s) := by
  unfold execCommitChecksumDone
  exact preservesIn_answer (preserves_commitEnded s)

theorem keepsIn_execTableRead (q : Requester) (start : BitVec 16) (number : Byte) (s : State) :
    KeepsIn s (execTableRead q start number s) := by
  unfold execTableRead
  exact keepsIn_serve fun t => .ite (fun _ => keeps_respond ..) fun _ => .ite (fun _ => keeps_respond ..) fun _ =>
    keeps_respond ..

theorem keepsIn_execSetWrite (q : Requester) (set : Byte) (contents : List Byte) (s : State) :
    KeepsIn s (execSetWrite q set contents s) := by
  unfold execSetWrite
  exact keepsIn_serve fun t => .ite (fun _ => keeps_respond ..) fun _ => (touches_setSets _ t).keeps.respond

theorem keepsIn_execSetRead (q : Requester) (set : Byte) (s : State) :
    KeepsIn s (execSetRead q set s) := by
  unfold execSetRead
  exact keepsIn_serve fun t => .ite (fun _ => keeps_respond ..) fun _ => keeps_respond ..

theorem keepsIn_execModuleRead (q : Requester) (cage : Byte) (page : Byte) (offset : Byte) (length : Byte) (s : State) :
    KeepsIn s (execModuleRead q cage page offset length s) := by
  unfold execModuleRead
  exact keepsIn_serve fun t => keeps_passThrough ..

theorem keepsIn_execModuleWrite (q : Requester) (cage : Byte) (page : Byte) (offset : Byte) (length : Byte) (data : List Byte) (s : State) :
    KeepsIn s (execModuleWrite q cage page offset length data s) := by
  unfold execModuleWrite
  exact keepsIn_serve fun t => keeps_passThrough ..

theorem keepsIn_execForceGateOff (q : Requester) (c : Byte) (s : State) :
    KeepsIn s (execForceGateOff q c s) := by
  unfold execForceGateOff
  exact preservesIn_serve_onCage preserves_forceGateOff

theorem keepsIn_execReArmGate (q : Requester) (c : Byte) (s : State) :
    KeepsIn s (execReArmGate q c s) := by
  unfold execReArmGate
  exact preservesIn_serve_onCage preserves_reArmGate

theorem keepsIn_execExtendHold (q : Requester) (j : Byte) (extension : BitVec 16) (s : State) :
    KeepsIn s (execExtendHold q j extension s) := by
  unfold execExtendHold
  exact keepsIn_serve_onLink fun j t => keeps_extendHold _ j t

theorem keepsIn_execForceAdmit (q : Requester) (j : Byte) (s : State) :
    KeepsIn s (execForceAdmit q j s) := by
  unfold execForceAdmit
  exact keepsIn_serve_onLink keeps_forceAdmit

theorem keepsIn_execAcceptPeer (q : Requester) (j : Byte) (s : State) :
    KeepsIn s (execAcceptPeer q j s) := by
  unfold execAcceptPeer
  exact keepsIn_serve_onLink keeps_acceptPeer

theorem keepsIn_execLinkRetry (q : Requester) (j : Byte) (s : State) :
    KeepsIn s (execLinkRetry q j s) := by
  unfold execLinkRetry
  exact keepsIn_serve_onLink keeps_retryLink

theorem keepsIn_execClearPenalty (q : Requester) (j : Byte) (s : State) :
    KeepsIn s (execClearPenalty q j s) := by
  unfold execClearPenalty
  exact keepsIn_serve_onLink keeps_clearPenalty

theorem keepsIn_execFlushPark (q : Requester) (j : Byte) (s : State) :
    KeepsIn s (execFlushPark q j s) := by
  unfold execFlushPark
  exact keepsIn_serve_onLink keeps_flushPark

theorem keepsIn_execForgetCage (q : Requester) (number : BitVec 32) (s : State) :
    KeepsIn s (execForgetCage q number s) := by
  unfold execForgetCage
  exact keepsIn_serve fun t => .ite (fun _ => keeps_respond ..) fun _ => (keeps_forgetPosition _ t).respond

theorem keepsIn_execForgetDigest (q : Requester) (digest : BitVec 32) (s : State) :
    KeepsIn s (execForgetDigest q digest s) := by
  unfold execForgetDigest
  exact keepsIn_serve fun t => keeps_forget _ _ t fun h => RecoveryMemory.forgetDigest_single h digest

theorem keepsIn_execForgetPeer (q : Requester) (number : BitVec 32) (s : State) :
    KeepsIn s (execForgetPeer q number s) := by
  unfold execForgetPeer
  exact keepsIn_serve fun t => .ite (fun _ => keeps_respond ..) fun _ => (keeps_setPeer _ none t).respond

theorem keepsIn_execForgetAll (q : Requester) (s : State) :
    KeepsIn s (execForgetAll q s) := by
  unfold execForgetAll
  exact keepsIn_serve fun t => keeps_forget _ _ t fun _ => resetMemory_single

theorem keepsIn_execReadMemoryCageRecords (q : Requester) (s : State) :
    KeepsIn s (execReadMemoryCageRecords q s) := by
  unfold execReadMemoryCageRecords
  exact keepsIn_serve fun t => keeps_respond ..

theorem keepsIn_execReadMemoryCache (q : Requester) (s : State) :
    KeepsIn s (execReadMemoryCache q s) := by
  unfold execReadMemoryCache
  exact keepsIn_serve fun t => keeps_respond ..

theorem keepsIn_execReadMemoryPeerRecords (q : Requester) (s : State) :
    KeepsIn s (execReadMemoryPeerRecords q s) := by
  unfold execReadMemoryPeerRecords
  exact keepsIn_serve fun t => keeps_respond ..

theorem keepsIn_execSnapArm (q : Requester) (h : Byte) (kind : Byte) (source : Byte) (count : Byte) (mode : Byte) (s : State) :
    KeepsIn s (execSnapArm q h kind source count mode s) := by
  unfold execSnapArm
  refine keepsIn_serve fun t => ?_
  simp only
  split
  · exact .ite (fun _ => keeps_respond ..) fun _ => .ite (fun _ => keeps_respond ..) fun _ =>
      (keeps_armChannel ..).trans (keeps_respondTaken ..)
  · exact keeps_respond ..

theorem keepsIn_execSnapStart (q : Requester) (h : Byte) (source : Byte) (s : State) :
    KeepsIn s (execSnapStart q h source s) := by
  unfold execSnapStart
  refine keepsIn_serve fun t => .ite (fun _ => keeps_respond ..) fun _ => .ite (fun _ => keeps_respond ..) fun _ => ?_
  split
  · exact keeps_respond ..
  · exact .ite (fun _ => (keeps_startChannel ..).respond) fun _ => keeps_respond ..

theorem keepsIn_execSnapDisarm (q : Requester) (h : Byte) (s : State) :
    KeepsIn s (execSnapDisarm q h s) := by
  unfold execSnapDisarm
  exact keepsIn_serve fun t => .ite (fun _ => keeps_respond ..) fun _ => (keeps_disarmChannel _ t).respond

/-! ### Every command -/

/-- Every command but damage to an entry keeps the invariants. -/
theorem keepsIn_exec (i : Instr) (s : State) (undamaged : ∀ index key attr, i ≠ .entryDamage index key attr) :
    KeepsIn s (exec i s) := by
  cases i with
  | powerOnReset present alert straps => exact keepsIn_execPowerOnReset present alert straps s
  | presentAssertion c => exact keepsIn_execPresentAssertion c s
  | presentDeassertionInSeating c => exact keepsIn_execPresentDeassertionInSeating c s
  | removal c => exact keepsIn_execRemoval c s
  | alertAssertion c => exact keepsIn_execAlertAssertion c s
  | seatingTimerExpiry c => exact keepsIn_execSeatingTimerExpiry c s
  | readyTimerExpiry c => exact keepsIn_execReadyTimerExpiry c s
  | moduleBusAttemptFailure k selected => exact keepsIn_execModuleBusAttemptFailure k selected s
  | busStretchTimeout k => exact keepsIn_execBusStretchTimeout k s
  | moduleBusTransactionEnd k data => exact keepsIn_execModuleBusTransactionEnd k data s
  | searchEnd => exact keepsIn_execSearchEnd s
  | guardTimerExpiry c => exact keepsIn_execGuardTimerExpiry c s
  | pollTimerExpiry c => exact keepsIn_execPollTimerExpiry c s
  | powerUpTimerExpiry c => exact keepsIn_execPowerUpTimerExpiry c s
  | laneConverged j r => exact keepsIn_execLaneConverged j r s
  | adaptationTimerExpiry j => exact keepsIn_execAdaptationTimerExpiry j s
  | markerLock j n offset => exact keepsIn_execMarkerLock j n offset s
  | fecLock j => exact keepsIn_execFecLock j s
  | alignmentTimerExpiry j => exact keepsIn_execAlignmentTimerExpiry j s
  | lossOfLock j what => exact keepsIn_execLossOfLock j what s
  | lockLossTimerExpiry j => exact keepsIn_execLockLossTimerExpiry j s
  | windowTimerExpiry j => exact keepsIn_execWindowTimerExpiry j s
  | probeIntervalExpiry j => exact keepsIn_execProbeIntervalExpiry j s
  | decayTickExpiry => exact keepsIn_execDecayTickExpiry  s
  | holdTimerExpiry j => exact keepsIn_execHoldTimerExpiry j s
  | pauseRefreshExpiry j k => exact keepsIn_execPauseRefreshExpiry j k s
  | frameFromSwitch j frame => exact keepsIn_execFrameFromSwitch j frame s
  | frameFromModule j frame => exact keepsIn_execFrameFromModule j frame s
  | fabricEgressFree j => exact keepsIn_execFabricEgressFree j s
  | tokenTick j => exact keepsIn_execTokenTick j s
  | moduleEgressTransitEnd j => exact keepsIn_execModuleEgressTransitEnd j s
  | rampTimerExpiry j => exact keepsIn_execRampTimerExpiry j s
  | servicePortFrame frame => exact keepsIn_execServicePortFrame frame s
  | readStateDevice q => exact keepsIn_execReadStateDevice q s
  | readStateCage q c => exact keepsIn_execReadStateCage q c s
  | readStateLink q j => exact keepsIn_execReadStateLink q j s
  | readCounters q j => exact keepsIn_execReadCounters q j s
  | readDiscards q => exact keepsIn_execReadDiscards q s
  | seatingTime q v => exact keepsIn_execSeatingTime q v s
  | managementReadyTime q v => exact keepsIn_execManagementReadyTime q v s
  | identityReadList q v => exact keepsIn_execIdentityReadList q v s
  | serialLocation q page offset => exact keepsIn_execSerialLocation q page offset s
  | pageSelectLocation q v => exact keepsIn_execPageSelectLocation q v s
  | fabricLayout q c v => exact keepsIn_execFabricLayout q c v s
  | alertEnable q c v => exact keepsIn_execAlertEnable q c v s
  | lockLossConfirmTime q v => exact keepsIn_execLockLossConfirmTime q v s
  | lossIncrement q v => exact keepsIn_execLossIncrement q v s
  | removalIncrement q v => exact keepsIn_execRemovalIncrement q v s
  | ceiling q v => exact keepsIn_execCeiling q v s
  | suppressThreshold q v => exact keepsIn_execSuppressThreshold q v s
  | reuseThreshold q v => exact keepsIn_execReuseThreshold q v s
  | decayFactor q v => exact keepsIn_execDecayFactor q v s
  | decayTick q v => exact keepsIn_execDecayTick q v s
  | pausable q k v => exact keepsIn_execPausable q k v s
  | pauseTime q v => exact keepsIn_execPauseTime q v s
  | pauseOnHold q v => exact keepsIn_execPauseOnHold q v s
  | dscpMapEnable q v => exact keepsIn_execDscpMapEnable q v s
  | dscpMap q v => exact keepsIn_execDscpMap q v s
  | defaultPriority q v => exact keepsIn_execDefaultPriority q v s
  | classMap q v => exact keepsIn_execClassMap q v s
  | classLimit q v => exact keepsIn_execClassLimit q v s
  | criticalLevel q v => exact keepsIn_execCriticalLevel q v s
  | resumeLevel q v => exact keepsIn_execResumeLevel q v s
  | linkLimit q v => exact keepsIn_execLinkLimit q v s
  | poolLowMark q v => exact keepsIn_execPoolLowMark q v s
  | managementAddress q v => exact keepsIn_execManagementAddress q v s
  | managementTypeValue q v => exact keepsIn_execManagementTypeValue q v s
  | noticeLevel q kind v => exact keepsIn_execNoticeLevel q kind v s
  | noticeGap q v => exact keepsIn_execNoticeGap q v s
  | engage q => exact keepsIn_execEngage q s
  | disengage q => exact keepsIn_execDisengage q s
  | deviceRestart q => exact keepsIn_execDeviceRestart q s
  | cageRestart q c => exact keepsIn_execCageRestart q c s
  | tableEdit q => exact keepsIn_execTableEdit q s
  | tableAppend q key attr => exact keepsIn_execTableAppend q key attr s
  | tableReplace q index key attr => exact keepsIn_execTableReplace q index key attr s
  | tableTruncate q count => exact keepsIn_execTableTruncate q count s
  | tableCommit q checksum => exact keepsIn_execTableCommit q checksum s
  | commitChecksumDone => exact keepsIn_execCommitChecksumDone s
  | tableRead q start number => exact keepsIn_execTableRead q start number s
  | setWrite q set contents => exact keepsIn_execSetWrite q set contents s
  | setRead q set => exact keepsIn_execSetRead q set s
  | moduleRead q cage page offset length => exact keepsIn_execModuleRead q cage page offset length s
  | moduleWrite q cage page offset length data => exact keepsIn_execModuleWrite q cage page offset length data s
  | forceGateOff q c => exact keepsIn_execForceGateOff q c s
  | reArmGate q c => exact keepsIn_execReArmGate q c s
  | extendHold q j extension => exact keepsIn_execExtendHold q j extension s
  | forceAdmit q j => exact keepsIn_execForceAdmit q j s
  | acceptPeer q j => exact keepsIn_execAcceptPeer q j s
  | linkRetry q j => exact keepsIn_execLinkRetry q j s
  | clearPenalty q j => exact keepsIn_execClearPenalty q j s
  | flushPark q j => exact keepsIn_execFlushPark q j s
  | forgetCage q number => exact keepsIn_execForgetCage q number s
  | forgetDigest q digest => exact keepsIn_execForgetDigest q digest s
  | forgetPeer q number => exact keepsIn_execForgetPeer q number s
  | forgetAll q => exact keepsIn_execForgetAll q s
  | readMemoryCageRecords q => exact keepsIn_execReadMemoryCageRecords q s
  | readMemoryCache q => exact keepsIn_execReadMemoryCache q s
  | readMemoryPeerRecords q => exact keepsIn_execReadMemoryPeerRecords q s
  | snapArm q h kind source count mode => exact keepsIn_execSnapArm q h kind source count mode s
  | snapStart q h source => exact keepsIn_execSnapStart q h source s
  | snapDisarm q h => exact keepsIn_execSnapDisarm q h s
  | gapTimerExpiry => exact keepsIn_execGapTimerExpiry  s
  | servicePortFree => exact keepsIn_execServicePortFree  s
  | entryDamage index key attr => exact absurd rfl (undamaged index key attr)
  | codewordDecoded j corrected uncorrectable => exact keepsIn_execCodewordDecoded j corrected uncorrectable s
  | alertDeassertion c => exact keepsIn_execAlertDeassertion c s

/-! ### What a request asks for is no event -/

theorem withOutline_ok {n : Nat} {b : List Byte} {i c : Instr} (h : withOutline n b i = .ok c) : c = i := by
  unfold withOutline at h
  split at h <;> cases h
  rfl

theorem decodeSetConfig_ne_damage (q : Requester) (b : List Byte) (index : Fin 256) (key attr : BitVec 32) :
    decodeSetConfig q b ≠ .ok (.entryDamage index key attr) := by
  intro h
  unfold decodeSetConfig at h
  simp only at h
  split at h <;> first
    | cases withOutline_ok h
    | cases h

theorem Except.of_bind_eq_ok {ε α β : Type} {x : Except ε α} {f : α → Except ε β} {b : β} (h : x >>= f = .ok b) :
    ∃ a, x = .ok a ∧ f a = .ok b := by
  cases x with
  | error e => cases h
  | ok a => exact ⟨a, rfl, h⟩

theorem decodeBody_ne_damage (q : Requester) (code : Byte) (b : List Byte) (index : Fin 256) (key attr : BitVec 32) :
    decodeBody q code b ≠ .ok (.entryDamage index key attr) := by
  intro h
  unfold decodeBody at h
  split at h
  case h_1 | h_27 | h_28 =>
    obtain ⟨-, -, scope⟩ := Except.of_bind_eq_ok h
    split at scope <;> cases scope
  case h_4 =>
    split at h
    · cases h
    · exact decodeSetConfig_ne_damage q b index key attr h
  all_goals first
    | cases withOutline_ok h
    | cases h

theorem requestDue_ne_damage (s : State) (index : Fin 256) (key attr : BitVec 32) :
    s.requestDue ≠ some (.entryDamage index key attr) := by
  intro h
  unfold State.requestDue at h
  split at h
  · cases h
  · split at h
    · cases h
    · split at h
      · next c decoded =>
        cases h
        unfold decodeRequest at decoded
        split at decoded
        · cases decoded
        · split at decoded
          · cases decoded
          · exact decodeBody_ne_damage _ _ _ _ _ _ decoded
      · cases h

/-! ### Every step -/

theorem touches_setPending (l : List Instr) (s : State) : Touches Anywhere [.pending] s { s with pending := l } :=
  .of_parts fun p => by cases p <;> simp [Part.Same, State.cage, State.link]

theorem touches_setNow (m : Moment) (s : State) : Touches Anywhere [.now] s { s with now := m } :=
  .of_parts fun p => by cases p <;> simp [Part.Same, State.cage, State.link]

theorem keepsIn_idle (s : State) : KeepsIn s s.idle := by
  unfold State.idle
  split
  · next c due => exact keepsIn_exec c s fun index key attr e => requestDue_ne_damage s index key attr (e ▸ due)
  · rintro t ⟨⟩
    exact (touches_setNow _ s).keeps.preserves

/-- Every step but damage to an entry keeps every invariant. -/
theorem keepsIn_step (s : State) (undamaged : ∀ index key attr rest, s.pending ≠ .entryDamage index key attr :: rest) :
    KeepsIn s (step s) := by
  unfold step
  split
  · exact keepsIn_idle s
  · next c rest e =>
    intro t ht
    refine (touches_setPending rest s).keeps.preserves.trans (keepsIn_exec c _ (fun index key attr h => ?_) t ht)
    exact undamaged index key attr rest (h ▸ e)

/-- Every step keeps every invariant but the order of the keys. -/
theorem keepsDamaged_step {s t : State} (h : step s = .next t) : KeepsDamaged s t := by
  by_cases damage : ∃ index key attr rest, s.pending = .entryDamage index key attr :: rest
  · obtain ⟨index, key, attr, rest, e⟩ := damage
    unfold step at h
    rw [e] at h
    have popped := (touches_setPending rest s).keeps.preserves.damaged
    have damaged := keepsDamaged_execEntryDamage index key attr _ t h
    exact ⟨damaged.pool ∘ popped.pool, damaged.bounded ∘ popped.bounded, damaged.reported ∘ popped.reported,
      damaged.single ∘ popped.single, damaged.lawful ∘ popped.lawful⟩
  · simp only [not_exists] at damage
    exact (keepsIn_step s damage t h).damaged

/-- Settles O57: a step lemma for every operation on the park store, and of the rest that it touches neither a FIFO nor the
pool. -/
theorem everyStepConservesPool : Obligations.EveryStepConservesPool := fun _ _ pool h => (keepsDamaged_step h).pool pool

/-- Settles O58, through the same step lemmas. -/
theorem everyStepKeepsBounds : Obligations.EveryStepKeepsBounds := fun _ _ bounded reported h =>
  ⟨(keepsDamaged_step h).bounded bounded, (keepsDamaged_step h).reported reported⟩

/-- Settles O59: the changes of cages and links each leave their lines and states fitting, or mend within the same step what
a loss, a departure or a new layout breaks. -/
theorem everyStepKeepsLinesAndServiceLawful : Obligations.EveryStepKeepsLinesAndServiceLawful := fun _ _ lawful h =>
  (keepsDamaged_step h).lawful lawful

/-- Settles O60. -/
theorem everyStepKeepsDigestsAndKeys : Obligations.EveryStepKeepsDigestsAndKeys := fun s t h =>
  ⟨(keepsDamaged_step h).single, fun ordered undamaged => (keepsIn_step s undamaged t h).ordered ordered⟩

/-- Settles O56: a reset leaves a device at rest. -/
theorem resetMeetsInvariants : Obligations.ResetMeetsInvariants :=
  have rest := atReset_atRest 0 0 0
  ⟨rest.poolConserved, atReset_bounded 0 0 0, rest.reported, rest.lawful, resetMemory_single, resetTable_ordered⟩

end Sys2Proof.Machine
end

section
/-! PROOFS. Requests as they are laid out and read back (R159, R163, R168), and the step. -/

set_option Elab.async false

namespace Sys2Proof.Machine

/-! ### The step -/

/-- Settles O1. -/
theorem frontCommandIsExecuted : Obligations.FrontCommandIsExecuted := by
  intro c rest s
  refine ⟨rfl, fun i due => ?_, fun none_due => ?_⟩
  · have here : State.requestDue { s with pending := [] } = some i := due
    simp only [step, State.idle, here]
  · have here : State.requestDue { s with pending := [] } = none := none_due
    simp only [step, State.idle, here]
    rfl

/-! ### A word read where it was laid out (R168) -/

theorem joined16 (w : BitVec 16) : w.extractLsb' 8 8 ++ w.extractLsb' 0 8 = w := by
  rw [BitVec.extractLsb'_append_extractLsb'_eq_extractLsb' (by rfl), BitVec.extractLsb'_eq_self]

theorem field16_cons {a b : Byte} {rest : List Byte} : field16 (a :: b :: rest) 0 = a ++ b := rfl

theorem joined32 (w : BitVec 32) :
    field16 (bytes16 (w.extractLsb' 16 16)) 0 ++ field16 (bytes16 (w.extractLsb' 0 16)) 0 = w := by
  have read (x : BitVec 16) : field16 (bytes16 x) 0 = x := joined16 x
  rw [read, read, BitVec.extractLsb'_append_extractLsb'_eq_extractLsb' (by rfl), BitVec.extractLsb'_eq_self]

theorem joined48 (w : MacAddress) :
    field16 (bytes16 (w.extractLsb' 32 16)) 0 ++ field32 (bytes32 (w.extractLsb' 0 32)) 0 = w := by
  have read16 (x : BitVec 16) : field16 (bytes16 x) 0 = x := joined16 x
  have read32 (x : BitVec 32) : field32 (bytes32 x) 0 = x := joined32 x
  rw [read16, read32, BitVec.extractLsb'_append_extractLsb'_eq_extractLsb' (by rfl), BitVec.extractLsb'_eq_self]

/-! ### Bodies read back -/

/-- A body of `n` bytes at least, the last `k` of them its command's data. -/
theorem withOutline_list {n k : Nat} {front v : List Byte} (make : List Byte → Instr) (long : v.length = k)
    (all : front.length + k = n) : withOutline n (front ++ v) (make (slice (front ++ v) front.length k)) = .ok (make v) := by
  rw [withOutline_of_le _ (by rw [List.length_append, long, all]), slice, List.drop_left, ← long, List.take_length]

/-- A SET-CONFIG body with its item code, its index and a value is no body too short for its item. -/
theorem decodeBody_config (q : Requester) (item index : Byte) (v : List Byte) :
    decodeBody q 0x10 (item :: index :: v) = decodeSetConfig q (item :: index :: v) :=
  rfl

/-- A request's body reads back as its command (R168). -/
theorem decodeBody_of_parts {i : Instr} {q : Requester} {code : Byte} {body : List Byte} (wf : i.WellFormed)
    (parts : requestParts i = some (q, code, body)) : decodeBody q code body = .ok i := by
  cases i
  case powerOnReset | presentAssertion | presentDeassertionInSeating | removal | alertAssertion | seatingTimerExpiry
      | readyTimerExpiry | moduleBusAttemptFailure | busStretchTimeout | moduleBusTransactionEnd | searchEnd
      | guardTimerExpiry | pollTimerExpiry | powerUpTimerExpiry | laneConverged | adaptationTimerExpiry | markerLock
      | fecLock | alignmentTimerExpiry | lossOfLock | lockLossTimerExpiry | windowTimerExpiry | probeIntervalExpiry
      | decayTickExpiry | holdTimerExpiry | pauseRefreshExpiry | frameFromSwitch | frameFromModule | fabricEgressFree
      | tokenTick | moduleEgressTransitEnd | rampTimerExpiry | servicePortFrame | commitChecksumDone | gapTimerExpiry
      | servicePortFree | entryDamage | codewordDecoded | alertDeassertion => cases parts
  case readStateDevice | readStateCage | readStateLink | readCounters | readDiscards | serialLocation
      | pageSelectLocation | fabricLayout | alertEnable | pausable | pauseOnHold | dscpMapEnable | defaultPriority
      | noticeLevel | noticeGap | engage | disengage | deviceRestart | cageRestart | tableEdit | setRead | moduleRead
      | forceGateOff | reArmGate | forceAdmit | acceptPeer | linkRetry | clearPenalty | flushPark | forgetAll
      | readMemoryCageRecords | readMemoryCache | readMemoryPeerRecords | snapArm | snapStart | snapDisarm =>
    cases parts
    rfl
  case seatingTime v | managementReadyTime v | lockLossConfirmTime v | lossIncrement v | removalIncrement v | ceiling v
      | suppressThreshold v | reuseThreshold v | decayFactor v | decayTick v | pauseTime v | classLimit v
      | criticalLevel v | resumeLevel v | linkLimit v | poolLowMark v | managementTypeValue v | tableTruncate v
      | extendHold v =>
    cases parts
    conv_rhs => rw [← joined16 v]
    rfl
  case tableRead start number =>
    cases parts
    conv_rhs => rw [← joined16 start]
    rfl
  case tableCommit w | forgetCage w | forgetDigest w | forgetPeer w =>
    cases parts
    conv_rhs => rw [← joined32 w]
    rfl
  case managementAddress w =>
    cases parts
    conv_rhs => rw [← joined48 w]
    rfl
  case tableAppend key attr =>
    cases parts
    exact decodeBody_tableAppend q key attr
  case tableReplace index key attr =>
    cases parts
    exact decodeBody_tableReplace q index key attr
  case identityReadList v =>
    cases parts
    exact (decodeBody_config ..).trans (withOutline_list (front := [_, _]) (.identityReadList q) (of_decide_eq_true wf) rfl)
  case dscpMap v =>
    cases parts
    exact (decodeBody_config ..).trans (withOutline_list (front := [_, _]) (.dscpMap q) (of_decide_eq_true wf) rfl)
  case classMap v =>
    cases parts
    exact (decodeBody_config ..).trans (withOutline_list (front := [_, _]) (.classMap q) (of_decide_eq_true wf) rfl)
  case setWrite set v =>
    cases parts
    exact withOutline_list (front := [_]) (.setWrite q set) (of_decide_eq_true wf) rfl
  case moduleWrite cage page offset length v =>
    cases parts
    exact withOutline_list (front := [_, _, _, _]) (.moduleWrite q cage page offset length) (of_decide_eq_true wf) rfl

/-- Every well-formed request reads back as it was sent (R159, R168). -/
theorem decodeRequest_requestOf {i : Instr} {q : Requester} {code : Byte} {body : List Byte} (wf : i.WellFormed)
    (parts : requestParts i = some (q, code, body)) : decodeRequest (requestOf q code body) = .ok i := by
  have reads := decodeBody_of_parts wf parts
  simpa [decodeRequest, requestOf, requesterOf] using reads

/-- A command that is laid out as a request has that request's parts. -/
theorem encodeRequest_eq_some {i : Instr} {r : Request} (encodes : encodeRequest i = some r) :
    ∃ q code body, requestParts i = some (q, code, body) ∧ r = requestOf q code body := by
  obtain ⟨⟨q, code, body⟩, parts, rfl⟩ := Option.map_eq_some_iff.mp encodes
  exact ⟨q, code, body, parts, rfl⟩

/-- Settles O2. -/
theorem requestsReadBackAsSent : Obligations.RequestsReadBackAsSent := by
  intro i r wf encodes
  obtain ⟨q, code, body, parts, rfl⟩ := encodeRequest_eq_some encodes
  exact decodeRequest_requestOf wf parts

/-! ### A request on an idle engine (R160, R161) -/

/-- A well-formed request that reaches an idle engine is executed at once, and its step settles. -/
theorem serve_parts {i : Instr} {q : Requester} {code : Byte} {body : List Byte} {s : State} (f : State → State)
    (parts : requestParts i = some (q, code, body)) (idle : s.engineIdle) (wf : i.WellFormed := by rfl) :
    serve i f s = .next (f (s.executing (requestOf q code body))).settle :=
  serve_requestOf i q code body f s idle parts (decodeBody_of_parts wf parts)

end Sys2Proof.Machine
end

section
/-! PROOFS. What a request changes does not look at the management engine (R159 to R161): the same change, whatever waits
there. -/

set_option Elab.async false

namespace Sys2Proof.Machine

/-- The same device with another management engine. -/
def State.withEngine (m : ManagementEngine) (s : State) : State := { s with management := m }

section
variable (m : ManagementEngine) (s : State)

/-! ### What is read -/

@[simp] theorem State.withEngine_now : (s.withEngine m).now = s.now := (rfl)
@[simp] theorem State.withEngine_freeCount : (s.withEngine m).freeCount = s.freeCount := (rfl)
@[simp] theorem State.withEngine_raised : (s.withEngine m).raised = s.raised := (rfl)
@[simp] theorem State.withEngine_settings : (s.withEngine m).settings = s.settings := (rfl)
@[simp] theorem State.withEngine_table : (s.withEngine m).table = s.table := (rfl)
@[simp] theorem State.withEngine_sets : (s.withEngine m).sets = s.sets := (rfl)
@[simp] theorem State.withEngine_search : (s.withEngine m).search = s.search := (rfl)
@[simp] theorem State.withEngine_memory : (s.withEngine m).memory = s.memory := (rfl)
@[simp] theorem State.withEngine_engaged : (s.withEngine m).engaged = s.engaged := (rfl)
@[simp] theorem State.withEngine_poolFree : (s.withEngine m).poolFree = s.poolFree := (rfl)
@[simp] theorem State.withEngine_poolLow : (s.withEngine m).poolLow = s.poolLow := (rfl)
@[simp] theorem State.withEngine_management : (s.withEngine m).management = m := (rfl)
@[simp] theorem State.withEngine_slotA : (s.withEngine m).slotA = s.slotA := (rfl)
@[simp] theorem State.withEngine_slotB : (s.withEngine m).slotB = s.slotB := (rfl)
@[simp] theorem State.withEngine_service : (s.withEngine m).service = s.service := (rfl)
@[simp] theorem State.withEngine_cage (c : CageId) : (s.withEngine m).cage c = s.cage c := (rfl)
@[simp] theorem State.withEngine_link (j : LinkId) : (s.withEngine m).link j = s.link j := (rfl)
@[simp] theorem State.withEngine_controller (k : ControllerId) : (s.withEngine m).controller k = s.controller k := (rfl)
@[simp] theorem State.withEngine_channel (h : ChannelId) : (s.withEngine m).channel h = s.channel h := (rfl)
@[simp] theorem State.withEngine_workingSet (c : CageId) : (s.withEngine m).workingSet c = s.workingSet c := (rfl)
@[simp] theorem State.withEngine_linkSet (j : LinkId) : (s.withEngine m).linkSet j = s.linkSet j := (rfl)
@[simp] theorem State.withEngine_lineRate (j : LinkId) : (s.withEngine m).lineRate j = s.lineRate j := (rfl)
@[simp] theorem State.withEngine_isActive (j : LinkId) : (s.withEngine m).isActive j = s.isActive j := (rfl)
@[simp] theorem State.withEngine_activeLinks (c : CageId) : (s.withEngine m).activeLinks c = s.activeLinks c := (rfl)
@[simp] theorem State.withEngine_fifo (j : LinkId) (k : ClassId) : (s.withEngine m).fifo j k = s.fifo j k := (rfl)
@[simp] theorem State.withEngine_occupancy (j : LinkId) (k : ClassId) :
    (s.withEngine m).occupancy j k = s.occupancy j k := (rfl)
@[simp] theorem State.withEngine_isPaused (j : LinkId) (k : ClassId) :
    (s.withEngine m).isPaused j k = s.isPaused j k := (rfl)
@[simp] theorem State.withEngine_releasesByLevel (j : LinkId) :
    (s.withEngine m).releasesByLevel j = s.releasesByLevel j := (rfl)
@[simp] theorem State.withEngine_candidate (j : LinkId) : (s.withEngine m).candidate j = s.candidate j := (rfl)
@[simp] theorem State.withEngine_isStale (j : LinkId) (f : ParkedFrame) :
    (s.withEngine m).isStale j f = s.isStale j f := (rfl)
@[simp] theorem State.withEngine_ownRecord (c : CageId) : (s.withEngine m).ownRecord c = s.ownRecord c := (rfl)
@[simp] theorem State.withEngine_nextCage (k : ControllerId) : (s.withEngine m).nextCage k = s.nextCage k := (rfl)
@[simp] theorem State.withEngine_inMs (n : Nat) : (s.withEngine m).inMs n = s.inMs n := (rfl)

/-! ### What is changed at once -/

@[simp] theorem State.withEngine_withEngine (x : ManagementEngine) : (s.withEngine x).withEngine m = s.withEngine m := (rfl)
@[simp] theorem State.withEngine_self : s.withEngine s.management = s := (rfl)

@[simp] theorem State.updCage_withEngine (c : CageId) (f : Cage → Cage) :
    (s.withEngine m).updCage c f = (s.updCage c f).withEngine m := (rfl)
@[simp] theorem State.updLink_withEngine (j : LinkId) (f : Link → Link) :
    (s.withEngine m).updLink j f = (s.updLink j f).withEngine m := (rfl)
@[simp] theorem State.updEngine_withEngine (j : LinkId) (f : LinkEngine → LinkEngine) :
    (s.withEngine m).updEngine j f = (s.updEngine j f).withEngine m := (rfl)
@[simp] theorem State.updHold_withEngine (j : LinkId) (f : HoldState → HoldState) :
    (s.withEngine m).updHold j f = (s.updHold j f).withEngine m := (rfl)
@[simp] theorem State.updMeter_withEngine (j : LinkId) (f : Meter → Meter) :
    (s.withEngine m).updMeter j f = (s.updMeter j f).withEngine m := (rfl)
@[simp] theorem State.updCounters_withEngine (j : LinkId) (f : Counters → Counters) :
    (s.withEngine m).updCounters j f = (s.updCounters j f).withEngine m := (rfl)
@[simp] theorem State.updController_withEngine (k : ControllerId) (f : Controller → Controller) :
    (s.withEngine m).updController k f = (s.updController k f).withEngine m := (rfl)
@[simp] theorem State.updChannel_withEngine (h : ChannelId) (f : Channel → Channel) :
    (s.withEngine m).updChannel h f = (s.updChannel h f).withEngine m := (rfl)
@[simp] theorem State.updSettings_withEngine (f : Settings → Settings) :
    (s.withEngine m).updSettings f = (s.updSettings f).withEngine m := (rfl)
@[simp] theorem State.updSearch_withEngine (f : SearchUnit → SearchUnit) :
    (s.withEngine m).updSearch f = (s.updSearch f).withEngine m := (rfl)
@[simp] theorem State.updMemory_withEngine (f : RecoveryMemory → RecoveryMemory) :
    (s.withEngine m).updMemory f = (s.updMemory f).withEngine m := (rfl)
@[simp] theorem State.updNotices_withEngine (f : NoticeUnit → NoticeUnit) :
    (s.withEngine m).updNotices f = (s.updNotices f).withEngine m := (rfl)
@[simp] theorem State.signal_withEngine (x : Signal) : (s.withEngine m).signal x = (s.signal x).withEngine m := (rfl)
@[simp] theorem State.raise_withEngine (k : EventKind) (source detail : Nat) :
    (s.withEngine m).raise k source detail = (s.raise k source detail).withEngine m := (rfl)
@[simp] theorem State.sendPause_withEngine (j : LinkId) (p : PauseFrame) :
    (s.withEngine m).sendPause j p = (s.sendPause j p).withEngine m := (rfl)
@[simp] theorem State.setPaused_withEngine (j : LinkId) (k : ClassId) (t : Timer) :
    (s.withEngine m).setPaused j k t = (s.setPaused j k t).withEngine m := (rfl)
@[simp] theorem State.spend_withEngine : (s.withEngine m).spend = s.spend.withEngine m := (rfl)
@[simp] theorem State.setFifo_withEngine (j : LinkId) (k : ClassId) (f : List ParkedFrame) :
    (s.withEngine m).setFifo j k f = (s.setFifo j k f).withEngine m := (rfl)
@[simp] theorem State.setCritical_withEngine (j : LinkId) (k : ClassId) (b : Bool) :
    (s.withEngine m).setCritical j k b = (s.setCritical j k b).withEngine m := (rfl)
@[simp] theorem State.setService_withEngine (j : LinkId) (v : ServiceState) :
    (s.withEngine m).setService j v = (s.setService j v).withEngine m := (rfl)
@[simp] theorem State.stopMeter_withEngine (j : LinkId) :
    (s.withEngine m).stopMeter j = (s.stopMeter j).withEngine m := (rfl)
@[simp] theorem State.setPeer_withEngine (j : LinkId) (p : Option PeerIdentity) :
    (s.withEngine m).setPeer j p = (s.setPeer j p).withEngine m := (rfl)
@[simp] theorem State.setEntries_withEngine (entries : List ProfileEntry) :
    (s.withEngine m).setEntries entries = (s.setEntries entries).withEngine m := (rfl)
@[simp] theorem State.discard_withEngine (r : DiscardReason) (j : LinkId) (k : Option ClassId) (n : Nat) :
    (s.withEngine m).discard r j k n = (s.discard r j k n).withEngine m := (rfl)
@[simp] theorem State.startMeter_withEngine (j : LinkId) (d : Bool) :
    (s.withEngine m).startMeter j d = (s.startMeter j d).withEngine m := (rfl)
@[simp] theorem State.toDown_withEngine (j : LinkId) : (s.withEngine m).toDown j = (s.toDown j).withEngine m := (rfl)
@[simp] theorem State.enterAdapting_withEngine (j : LinkId) (seeds : Option SeedsInUse) (n : Nat) :
    (s.withEngine m).enterAdapting j seeds n = (s.enterAdapting j seeds n).withEngine m := (rfl)
@[simp] theorem State.slotUsed_withEngine (j : LinkId) :
    (s.withEngine m).slotUsed j = (s.slotUsed j).withEngine m := (rfl)
@[simp] theorem State.makeOff_withEngine (j : LinkId) :
    (s.withEngine m).makeOff j = (s.makeOff j).withEngine m := (rfl)
@[simp] theorem State.startTransaction_withEngine (k : ControllerId) (r : BusRequest) :
    (s.withEngine m).startTransaction k r = (s.startTransaction k r).withEngine m := (rfl)
@[simp] theorem State.startPassThrough_withEngine (k : ControllerId) (r : BusRequest) :
    (s.withEngine m).startPassThrough k r = (s.startPassThrough k r).withEngine m := (rfl)
@[simp] theorem State.startCageRequest_withEngine (k : ControllerId) (p : Fin 4) (r : BusRequest) :
    (s.withEngine m).startCageRequest k p r = (s.startCageRequest k p r).withEngine m := (rfl)
@[simp] theorem State.dropRequests_withEngine (c : CageId) :
    (s.withEngine m).dropRequests c = (s.dropRequests c).withEngine m := (rfl)
@[simp] theorem State.forgetPage_withEngine (c : CageId) :
    (s.withEngine m).forgetPage c = (s.forgetPage c).withEngine m := (rfl)
@[simp] theorem State.forgetLocation_withEngine (c : CageId) :
    (s.withEngine m).forgetLocation c = (s.forgetLocation c).withEngine m := (rfl)
@[simp] theorem State.leaveSearch_withEngine (c : CageId) :
    (s.withEngine m).leaveSearch c = (s.leaveSearch c).withEngine m := (rfl)
@[simp] theorem State.capture_withEngine (h : ChannelId) (k : EventKind) (n : Nat) :
    (s.withEngine m).capture h k n = ((s.capture h k n).1.withEngine m, (s.capture h k n).2) := (rfl)

/-! ### Changes in cases and in turn -/

@[simp] theorem State.ite_withEngine (p : Prop) [Decidable p] (a b : State) :
    (if p then a.withEngine m else b.withEngine m) = (if p then a else b).withEngine m := (apply_ite ..).symm

theorem State.forEach_withEngine {α : Type} {f : α → State → State} {m : ManagementEngine}
    (step : ∀ x s, f x (s.withEngine m) = (f x s).withEngine m) (l : List α) (s : State) :
    (s.withEngine m).forEach f l = (s.forEach f l).withEngine m := by
  induction l generalizing s with
  | nil => rfl
  | cons x rest ih => rw [State.forEach_cons, State.forEach_cons, step, ih]

/-! ### Pauses and the park store -/

@[simp] theorem State.sendClassPause_withEngine (j : LinkId) (k : ClassId) (n : Nat) :
    (s.withEngine m).sendClassPause j k n = (s.sendClassPause j k n).withEngine m := by
  simp [State.sendClassPause]

@[simp] theorem State.pauseClass_withEngine (j : LinkId) (k : ClassId) :
    (s.withEngine m).pauseClass j k = (s.pauseClass j k).withEngine m := by
  simp [State.pauseClass, State.refreshInterval, State.linkLayout]

@[simp] theorem State.pauseIfPausable_withEngine (j : LinkId) (k : ClassId) :
    (s.withEngine m).pauseIfPausable j k = (s.pauseIfPausable j k).withEngine m := by
  simp [State.pauseIfPausable]

@[simp] theorem State.releaseClass_withEngine (j : LinkId) (k : ClassId) :
    (s.withEngine m).releaseClass j k = (s.releaseClass j k).withEngine m := by
  simp [State.releaseClass]

@[simp] theorem State.releaseLink_withEngine (j : LinkId) :
    (s.withEngine m).releaseLink j = (s.releaseLink j).withEngine m :=
  State.forEach_withEngine (fun k s => s.releaseClass_withEngine m j k) _ s

@[simp] theorem State.releaseIfLow_withEngine (j : LinkId) (k : ClassId) :
    (s.withEngine m).releaseIfLow j k = (s.releaseIfLow j k).withEngine m := by
  simp [State.releaseIfLow]

@[simp] theorem State.tellOccupancy_withEngine (j : LinkId) (k : ClassId) :
    (s.withEngine m).tellOccupancy j k = (s.tellOccupancy j k).withEngine m := by
  simp [State.tellOccupancy]

@[simp] theorem State.removeHead_withEngine (j : LinkId) (k : ClassId) :
    (s.withEngine m).removeHead j k = (s.removeHead j k).withEngine m := by
  unfold State.removeHead
  rw [State.withEngine_fifo]
  cases s.fifo j k <;> rfl

@[simp] theorem State.discardHead_withEngine (j : LinkId) (k : ClassId) (f : ParkedFrame) (r : DiscardReason) :
    (s.withEngine m).discardHead j k f r = (s.discardHead j k f r).withEngine m := by
  simp [State.discardHead]

@[simp] theorem State.occupancyFell_withEngine (j : LinkId) (k : ClassId) :
    (s.withEngine m).occupancyFell j k = (s.occupancyFell j k).withEngine m := by
  simp [State.occupancyFell]

@[simp] theorem State.poolRose_withEngine : (s.withEngine m).poolRose = s.poolRose.withEngine m := by
  exact State.ite_withEngine m _ { s with poolLow := false } s

@[simp] theorem State.flushClass_withEngine (r : DiscardReason) (j : LinkId) (k : ClassId) :
    (s.withEngine m).flushClass r j k = (s.flushClass r j k).withEngine m := by
  unfold State.flushClass
  rw [State.withEngine_fifo]
  cases s.fifo j k with
  | nil => rfl
  | cons f rest =>
    show (((({ s.setFifo j k [] with poolFree := s.poolFree + blocksIn (f :: rest) } : State).withEngine m).forEach
      (fun g => State.discard r j (some k) g.length) (f :: rest)).occupancyFell j k).poolRose = _
    rw [State.forEach_withEngine fun g s => s.discard_withEngine m r j (some k) g.length]
    simp

@[simp] theorem State.flushLink_withEngine (r : DiscardReason) (j : LinkId) :
    (s.withEngine m).flushLink r j = (s.flushLink r j).withEngine m :=
  State.forEach_withEngine (fun k s => s.flushClass_withEngine m r j k) _ s

/-! ### The meter -/

@[simp] theorem State.endReplay_withEngine (j : LinkId) :
    (s.withEngine m).endReplay j = (s.endReplay j).withEngine m := by
  simp [State.endReplay]

@[simp] theorem State.startTransit_withEngine (j : LinkId) (k : ClassId) (f : ParkedFrame) :
    (s.withEngine m).startTransit j k f = (s.startTransit j k f).withEngine m := by
  simp [State.startTransit]

@[simp] theorem State.judgeFrom_withEngine (j : LinkId) (fuel : Nat) :
    (s.withEngine m).judgeFrom j fuel = (s.judgeFrom j fuel).withEngine m := by
  induction fuel generalizing s with
  | zero => rfl
  | succ fuel ih =>
    unfold State.judgeFrom
    rw [State.withEngine_candidate]
    split
    · rfl
    · simp only [State.withEngine_isStale, State.withEngine_link, State.discardHead_withEngine,
        State.occupancyFell_withEngine, State.poolRose_withEngine, ih, State.startTransit_withEngine,
        State.updMeter_withEngine, State.ite_withEngine]
      cases (s.link j).meter.mode <;> exact State.ite_withEngine ..

@[simp] theorem State.judge_withEngine (j : LinkId) : (s.withEngine m).judge j = (s.judge j).withEngine m := by
  simp [State.judge]

/-! ### Attempts, losses and admissions -/

@[simp] theorem State.addPenalty_withEngine (j : LinkId) (n : Nat) :
    (s.withEngine m).addPenalty j n = (s.addPenalty j n).withEngine m := by
  simp [State.addPenalty]

@[simp] theorem State.startHold_withEngine (j : LinkId) (n : Nat) :
    (s.withEngine m).startHold j n = (s.startHold j n).withEngine m := by
  simp [State.startHold, State.forEach_withEngine fun k s => State.pauseIfPausable_withEngine m s j k]

@[simp] theorem State.shed_withEngine (j : LinkId) : (s.withEngine m).shed j = (s.shed j).withEngine m := by
  simp [State.shed]

@[simp] theorem State.loseService_withEngine (j : LinkId) :
    (s.withEngine m).loseService j = (s.loseService j).withEngine m := by
  unfold State.loseService
  rw [State.withEngine_link]
  cases (s.link j).hold.service <;> simp

@[simp] theorem State.lossRecovery_withEngine (j : LinkId) (cause : LossCause) :
    (s.withEngine m).lossRecovery j cause = (s.lossRecovery j cause).withEngine m := by
  cases cause <;> rfl

@[simp] theorem State.lossPath_withEngine (cause : LossCause) (j : LinkId) :
    (s.withEngine m).lossPath cause j = (s.lossPath cause j).withEngine m := by
  unfold State.lossPath
  rw [State.withEngine_settings]
  cases s.settings.incrementOf cause <;> simp

@[simp] theorem State.departBy_withEngine (cause : LossCause) (j : LinkId) :
    (s.withEngine m).departBy cause j = (s.departBy cause j).withEngine m := by
  simp [State.departBy]

@[simp] theorem State.departLinks_withEngine (c : CageId) (cause : LossCause) :
    (s.withEngine m).departLinks c cause = (s.departLinks c cause).withEngine m :=
  State.forEach_withEngine (fun j s => s.departBy_withEngine m cause j) _ s

@[simp] theorem State.holdAdmit_withEngine (j : LinkId) (d : Bool) :
    (s.withEngine m).holdAdmit j d = (s.holdAdmit j d).withEngine m := by
  simp [State.holdAdmit, State.forEach_withEngine fun k s => State.releaseIfLow_withEngine m s j k]

@[simp] theorem State.refresh_withEngine (j : LinkId) :
    (s.withEngine m).refresh j = (s.refresh j).withEngine m := by
  unfold State.refresh
  rw [State.withEngine_ownRecord]
  cases s.ownRecord (cageOf j) <;> rfl

@[simp] theorem State.admitLink_withEngine (j : LinkId) (g : Grade) (announced : Bool) :
    (s.withEngine m).admitLink j g announced = (s.admitLink j g announced).withEngine m := by
  simp [State.admitLink]

@[simp] theorem State.proceed_withEngine (j : LinkId) :
    (s.withEngine m).proceed j = (s.proceed j).withEngine m := by
  simp [State.proceed]

@[simp] theorem State.slotUnused_withEngine (j : LinkId) :
    (s.withEngine m).slotUnused j = (s.slotUnused j).withEngine m := by
  simp [State.slotUnused]

@[simp] theorem State.relayout_withEngine (old new : Layout) (j : LinkId) :
    (s.withEngine m).relayout old new j = (s.relayout old new j).withEngine m := by
  unfold State.relayout
  cases old.uses (slotOf j) <;> cases new.uses (slotOf j) <;> simp

@[simp] theorem State.setLayout_withEngine (c : CageId) (l : Layout) :
    (s.withEngine m).setLayout c l = (s.setLayout c l).withEngine m := by
  simp [State.setLayout, State.forEach_withEngine fun j s => State.relayout_withEngine m s _ l j]

/-! ### Module buses, searches and cages -/

@[simp] theorem State.chooseBus_withEngine (k : ControllerId) :
    (s.withEngine m).chooseBus k = (s.chooseBus k).withEngine m := by
  unfold State.chooseBus
  simp only [State.withEngine_controller, State.withEngine_nextCage]
  cases (s.controller k).slot <;> cases s.nextCage k <;> simp

@[simp] theorem State.placeRead_withEngine (c : CageId) (p : Purpose) (page offset : Byte) (n : Nat) :
    (s.withEngine m).placeRead c p page offset n = (s.placeRead c p page offset n).withEngine m := by
  simp [State.placeRead]

@[simp] theorem State.placePassThrough_withEngine (r : BusRequest) :
    (s.withEngine m).placePassThrough r = (s.placePassThrough r).withEngine m := by
  simp [State.placePassThrough]

@[simp] theorem State.forgetAtReset_withEngine (c : CageId) :
    (s.withEngine m).forgetAtReset c = (s.forgetAtReset c).withEngine m := by
  simp [State.forgetAtReset]

theorem State.enterEdit_withEngine : s.enterEdit.withEngine m = (s.withEngine m).enterEdit := by
  unfold State.enterEdit
  rw [State.forEach_withEngine]
  · rfl
  · intro c t
    simp

@[simp] theorem State.readIdentity_withEngine (c : CageId) :
    (s.withEngine m).readIdentity c = (s.readIdentity c).withEngine m := by
  simp [State.readIdentity]

@[simp] theorem State.enterIdentifying_withEngine (c : CageId) :
    (s.withEngine m).enterIdentifying c = (s.enterIdentifying c).withEngine m := by
  simp [State.enterIdentifying]

@[simp] theorem State.enterWaking_withEngine (c : CageId) :
    (s.withEngine m).enterWaking c = (s.enterWaking c).withEngine m := by
  simp [State.enterWaking]

@[simp] theorem State.closeGate_withEngine (c : CageId) (mode : CageMode) (event : Option EventKind) :
    (s.withEngine m).closeGate c mode event = (s.closeGate c mode event).withEngine m := by
  cases event <;> simp [State.closeGate]

@[simp] theorem State.readFlags_withEngine (c : CageId) :
    (s.withEngine m).readFlags c = (s.readFlags c).withEngine m := by
  simp [State.readFlags]

@[simp] theorem State.alerted_withEngine (c : CageId) :
    (s.withEngine m).alerted c = (s.alerted c).withEngine m := by
  simp [State.alerted, State.trip]

@[simp] theorem State.pollReady_withEngine (c : CageId) :
    (s.withEngine m).pollReady c = (s.pollReady c).withEngine m := by
  simp [State.pollReady]

@[simp] theorem State.guardEnded_withEngine (c : CageId) :
    (s.withEngine m).guardEnded c = (s.guardEnded c).withEngine m := by
  simp [State.guardEnded]

@[simp] theorem State.enterPowering_withEngine (c : CageId) :
    (s.withEngine m).enterPowering c = (s.enterPowering c).withEngine m := by
  simp [State.enterPowering]

@[simp] theorem State.seatAgain_withEngine (c : CageId) :
    (s.withEngine m).seatAgain c = (s.seatAgain c).withEngine m := by
  simp [State.seatAgain]

@[simp] theorem State.restartCage_withEngine (c : CageId) :
    (s.withEngine m).restartCage c = (s.restartCage c).withEngine m := by
  have flushed (t : State) : (t.withEngine m).forEach (State.flushLink .flushed) (linksOf c)
      = (t.forEach (State.flushLink .flushed) (linksOf c)).withEngine m :=
    State.forEach_withEngine (fun j s => s.flushLink_withEngine m .flushed j) _ t
  unfold State.restartCage
  rw [State.withEngine_cage]
  cases (s.cage c).mode <;> simp [flushed]

@[simp] theorem State.disengageCage_withEngine (c : CageId) :
    (s.withEngine m).disengageCage c = (s.disengageCage c).withEngine m := by
  have down (t : State) (l : List LinkId) :
      (t.withEngine m).forEach (fun j t => if (t.link j).engine.recovery.isWorking then t.toDown j else t) l
        = (t.forEach (fun j t => if (t.link j).engine.recovery.isWorking then t.toDown j else t) l).withEngine m :=
    State.forEach_withEngine (fun j s => by simp) l t
  unfold State.disengageCage
  rw [State.withEngine_cage]
  cases (s.cage c).mode <;> simp [down]

/-! ### Engagement, snapshots and settings -/

@[simp] theorem State.engage_withEngine : (s.withEngine m).engage = s.engage.withEngine m := by
  unfold State.engage
  refine Eq.trans (congrArg (State.forEach _ _) (?_ : _ = State.withEngine m _)) (State.forEach_withEngine ?_ _ _)
  · exact State.forEach_withEngine (fun j s => by simp) _ { s with engaged := true }
  · intro c t
    simp

@[simp] theorem State.disengage_withEngine : (s.withEngine m).disengage = s.disengage.withEngine m := by
  have closed (t : State) :
      ({ t.withEngine m with engaged := false } : State) = ({ t with engaged := false } : State).withEngine m := rfl
  unfold State.disengage
  dsimp only
  rw [State.forEach_withEngine fun j s => s.releaseLink_withEngine m j,
    State.forEach_withEngine fun j s => s.makeOff_withEngine m j,
    State.forEach_withEngine fun j s => s.flushLink_withEngine m .flushed j, closed,
    State.forEach_withEngine fun c s => s.disengageCage_withEngine m c]

@[simp] theorem State.claim_withEngine (h : ChannelId) (k : EventKind) (n : Nat) :
    (s.withEngine m).claim h k n = ((s.claim h k n).1.withEngine m, (s.claim h k n).2) := by
  unfold State.claim
  rw [State.withEngine_channel]
  cases (s.channel h).mode with
  | single => rfl
  | series =>
    simp only
    split <;> rfl

@[simp] theorem State.startChannel_withEngine (h : ChannelId) (k : EventKind) (n : Nat) :
    (s.withEngine m).startChannel h k n = (s.startChannel h k n).withEngine m := by
  unfold State.startChannel
  rw [State.claim_withEngine]
  rcases s.claim h k n with ⟨t, _ | done⟩ <;> rfl

@[simp] theorem State.silence_withEngine (k : EventKind) :
    (s.withEngine m).silence k = (s.silence k).withEngine m := by
  unfold State.silence
  dsimp only
  rw [State.updNotices_withEngine, State.forEach_withEngine fun j s => s.updLink_withEngine m j _, State.ite_withEngine]

@[simp] theorem State.lowerPenalties_withEngine (n : Nat) :
    (s.withEngine m).lowerPenalties n = (s.lowerPenalties n).withEngine m :=
  State.forEach_withEngine (fun j s => s.updLink_withEngine m j _) _ s

@[simp] theorem State.releaseHeld_withEngine (j : LinkId) :
    (s.withEngine m).releaseHeld j = (s.releaseHeld j).withEngine m := by
  simp [State.releaseHeld, State.forEach_withEngine fun k s => State.releaseIfLow_withEngine m s j k]

end

end Sys2Proof.Machine
end

section
/-! PROOFS. Requests on an idle engine answered after one change (R160, R161), and the configuration items (sections 10.4
and 11.1). -/

set_option Elab.async false

namespace Sys2Proof.Machine

/-! ### A request that changes and answers -/

/-- A change that does not look at the management engine leaves it as it was. -/
theorem management_of_blind {change : State → State}
    (blind : ∀ m s, change (State.withEngine m s) = (change s).withEngine m) (s : State) :
    (change s).management = s.management := by
  have same : change s = (change s).withEngine s.management := by
    rw [← blind, State.withEngine_self]
  rw [same, State.withEngine_management]

/-- A request that an idle engine executes by one change and its reply: the step is the change, then the reply. -/
theorem serve_answered {i : Instr} {q : Requester} {code : Byte} {body : List Byte} {s : State} {f : State → State}
    (change : State → State) (o : RequestOutcome) (fields : List Nat) (data : List Byte)
    (parts : requestParts i = some (q, code, body)) (idle : s.engineIdle)
    (blind : ∀ m s, change (State.withEngine m s) = (change s).withEngine m)
    (does : ∀ m, f (s.withEngine m) = (change (s.withEngine m)).respond o fields data)
    (wf : i.WellFormed := by rfl) :
    serve i f s = .next ((change s).answered q code o fields data) := by
  have kept := management_of_blind blind s
  rw [serve_parts f parts idle wf]
  show Host.Outcome.next (f (s.withEngine _)).settle = _
  rw [does]
  refine congrArg (fun t => Host.Outcome.next (State.settle t))
    (respond_idle change _ o fields data s idle ?_ kept)
  refine (blind _ s).trans ?_
  simp only [State.updManagement, kept]
  rfl

/-- A request that changes nothing but to be answered. -/
theorem serve_refused {i : Instr} {q : Requester} {code : Byte} {body : List Byte} {s : State} {f : State → State}
    (o : RequestOutcome) (fields : List Nat) (data : List Byte)
    (parts : requestParts i = some (q, code, body)) (idle : s.engineIdle)
    (does : ∀ m, f (s.withEngine m) = (s.withEngine m).respond o fields data)
    (wf : i.WellFormed := by rfl) :
    serve i f s = .next (s.answered q code o fields data) :=
  serve_answered id o fields data parts idle (fun _ _ => rfl) does wf

/-! ### How a value is taken (0.7, R163) -/

theorem inRange_iff {low high n : Nat} : inRange low high n = true ↔ low ≤ n ∧ n ≤ high := by
  simp [inRange]

/-- A value that a range clamps is answered ADJUSTED, naming it, where it was clamped, and DONE where it was not. -/
theorem State.respondTaken_inRange (low high n : Nat) (s : State) :
    s.respondTaken (!inRange low high n) valueOffset = s.respond (clampOutcome low high n) (clampFields low high n) := by
  unfold State.respondTaken clampOutcome clampFields
  by_cases within : low ≤ n ∧ n ≤ high
  · simp [inRange_iff.mpr within, within]
  · have outside : inRange low high n = false := by simpa [inRange] using within
    simp [outside, within, valueOffset]

section
variable {i : Instr} {q : Requester} {code : Byte} {body : List Byte} {s : State}

/-- An item that is clamped to its range. -/
theorem serve_takeClamped (low high n : Nat) (f : Nat → Settings → Settings)
    (parts : requestParts i = some (q, code, body)) (idle : s.engineIdle) (wf : i.WellFormed := by rfl) :
    serve i (State.takeClamped low high n f) s
      = .next ((s.updSettings (f (clamp low high n))).answered q code (clampOutcome low high n) (clampFields low high n) []) :=
  serve_answered (State.updSettings (f (clamp low high n))) _ _ _ parts idle (fun _ _ => rfl)
    (fun m => State.respondTaken_inRange low high n _) wf

/-- An item that is taken whole. -/
theorem serve_takeItem (f : Settings → Settings)
    (parts : requestParts i = some (q, code, body)) (idle : s.engineIdle) (wf : i.WellFormed := by rfl) :
    serve i (State.takeItem f) s = .next ((s.updSettings f).answered q code .done [] []) :=
  serve_answered (State.updSettings f) .done [] [] parts idle (fun _ _ => rfl) (fun _ => rfl) wf

/-- An item with a check, refused where it fails. -/
theorem serve_checked {p : State → Prop} [∀ t, Decidable (p t)] {f : State → State} {o : RequestOutcome}
    {fields : List Nat} (change : Settings → Settings)
    (parts : requestParts i = some (q, code, body)) (idle : s.engineIdle)
    (same : ∀ m, p (s.withEngine m) ↔ p s)
    (does : ∀ m, f (s.withEngine m) = ((s.withEngine m).updSettings change).respond o fields)
    (wf : i.WellFormed := by rfl) :
    serve i (fun t => if p t then t.refuse else f t) s
      = .next (if p s then s.answered q code .badArgument [] [] else (s.updSettings change).answered q code o fields []) := by
  split
  case isTrue fails =>
    exact serve_refused .badArgument [] [] parts idle (fun m => if_pos ((same m).mpr fails)) wf
  case isFalse passes =>
    refine serve_answered (State.updSettings change) o fields [] parts idle (fun _ _ => rfl) (fun m => ?_) wf
    rw [if_neg fun h => passes ((same m).mp h), does]

end

end Sys2Proof.Machine
end

section
/-! PROOFS. What an operation touches, as an equation: the state with the touched parts alone replaced. -/

set_option Elab.async false

namespace Sys2Proof.Machine

/-- Whether a part stands in a list of parts. -/
def Part.among (ps : List Part) (p : Part) : Bool := ps.contains p

/-- The blocks of a link. -/
def Part.ofLink : List Part :=
  [.engine, .penalty, .suppressed, .hold, .fifos, .critical, .meter, .counters, .discardMark, .fabricSide, .moduleSide,
    .probeSent]

/-- A link with the named parts of another. -/
def Link.taking (l : Link) (ps : List Part) (m : Link) : Link where
  engine := bif Part.among ps .engine then m.engine else l.engine
  penalty := bif Part.among ps .penalty then m.penalty else l.penalty
  suppressed := bif Part.among ps .suppressed then m.suppressed else l.suppressed
  hold := bif Part.among ps .hold then m.hold else l.hold
  park :=
    { fifos := bif Part.among ps .fifos then m.park.fifos else l.park.fifos
      critical := bif Part.among ps .critical then m.park.critical else l.park.critical }
  meter := bif Part.among ps .meter then m.meter else l.meter
  counters := bif Part.among ps .counters then m.counters else l.counters
  discardMark := bif Part.among ps .discardMark then m.discardMark else l.discardMark
  fabricSide := bif Part.among ps .fabricSide then m.fabricSide else l.fabricSide
  moduleSide := bif Part.among ps .moduleSide then m.moduleSide else l.moduleSide
  probeSent := bif Part.among ps .probeSent then m.probeSent else l.probeSent

/-- A state with the named parts of another; of the links all, where a block of a link is named. -/
def State.taking (s : State) (ps : List Part) (t : State) : State where
  pending := bif Part.among ps .pending then t.pending else s.pending
  now := bif Part.among ps .now then t.now else s.now
  freeCount := bif Part.among ps .freeCount then t.freeCount else s.freeCount
  raised := bif Part.among ps .raised then t.raised else s.raised
  settings := bif Part.among ps .settings then t.settings else s.settings
  cages := bif Part.among ps .cages then t.cages else s.cages
  controllers := bif Part.among ps .controllers then t.controllers else s.controllers
  table := bif Part.among ps .table then t.table else s.table
  sets := bif Part.among ps .sets then t.sets else s.sets
  search := bif Part.among ps .search then t.search else s.search
  memory := bif Part.among ps .memory then t.memory else s.memory
  links := bif ps.any (Part.among Part.ofLink) then t.links else s.links
  tickTimer := bif Part.among ps .tickTimer then t.tickTimer else s.tickTimer
  engaged := bif Part.among ps .engaged then t.engaged else s.engaged
  poolFree := bif Part.among ps .poolFree then t.poolFree else s.poolFree
  poolLow := bif Part.among ps .poolLow then t.poolLow else s.poolLow
  management := bif Part.among ps .management then t.management else s.management
  slotA := bif Part.among ps .slotA then t.slotA else s.slotA
  slotB := bif Part.among ps .slotB then t.slotB else s.slotB
  notices := bif Part.among ps .notices then t.notices else s.notices
  channels := bif Part.among ps .channels then t.channels else s.channels
  service := bif Part.among ps .service then t.service else s.service

section
variable {W : LinkId → Prop} {ps : List Part} {s t : State}

/-- A part that may be touched is the new one, and one that may not is the old one, which is the same. -/
theorem eq_taken {α : Type} {p : Part} {x y : α} (same : p ∉ ps → x = y) : x = bif Part.among ps p then x else y := by
  by_cases h : p ∈ ps
  · simp [Part.among, h]
  · simp [Part.among, h, same h]

/-- A link after a change is the link before it with the touched parts. -/
theorem Touches.link_eq (h : Touches W ps s t) (j : LinkId) : t.link j = (s.link j).taking ps (t.link j) := by
  have engine := eq_taken fun n => h.engine j n
  have penalty := eq_taken fun n => h.penalty j n
  have suppressed := eq_taken fun n => h.suppressed j n
  have hold := eq_taken fun n => h.hold j n
  have fifos := eq_taken fun n => h.fifos j n
  have critical := eq_taken fun n => h.critical j n
  have meter := eq_taken fun n => h.meter j n
  have counters := eq_taken fun n => h.counters j n
  have discardMark := eq_taken fun n => h.discardMark j n
  have fabricSide := eq_taken fun n => h.fabricSide j n
  have moduleSide := eq_taken fun n => h.moduleSide j n
  have probeSent := eq_taken fun n => h.probeSent j n
  unfold Link.taking
  rw [← engine, ← penalty, ← suppressed, ← hold, ← fifos, ← critical, ← meter, ← counters, ← discardMark, ← fabricSide,
    ← moduleSide, ← probeSent]

/-- The links of a change that touches no block of a link are the same. -/
theorem Touches.links_eq (h : Touches W ps s t) (none : ps.any (Part.among Part.ofLink) = false) : t.links = s.links := by
  refine Bank.eq_of_get _ _ fun j => (h.link_eq j).trans ?_
  have out (p : Part) (hp : p ∈ Part.ofLink) : Part.among ps p = false := by
    have away := List.any_eq_false.mp none p
    by_contra inside
    exact away (by simpa [Part.among] using inside) (by simpa [Part.among] using hp)
  unfold Link.taking
  simp only [out .engine (by decide), out .penalty (by decide), out .suppressed (by decide), out .hold (by decide),
    out .fifos (by decide), out .critical (by decide), out .meter (by decide), out .counters (by decide),
    out .discardMark (by decide), out .fabricSide (by decide), out .moduleSide (by decide), out .probeSent (by decide),
    cond_false]
  rfl

/-- The state after a change is the state before it with the touched parts. -/
theorem Touches.eq (h : Touches W ps s t) : t = s.taking ps t := by
  have pending := eq_taken fun n => h.pending n
  have now := eq_taken fun n => h.now n
  have freeCount := eq_taken fun n => h.freeCount n
  have raised := eq_taken fun n => h.raised n
  have settings := eq_taken fun n => h.settings n
  have cages := eq_taken fun n => h.cages n
  have controllers := eq_taken fun n => h.controllers n
  have table := eq_taken fun n => h.table n
  have sets := eq_taken fun n => h.sets n
  have search := eq_taken fun n => h.search n
  have memory := eq_taken fun n => h.memory n
  have tickTimer := eq_taken fun n => h.tickTimer n
  have engaged := eq_taken fun n => h.engaged n
  have poolFree := eq_taken fun n => h.poolFree n
  have poolLow := eq_taken fun n => h.poolLow n
  have management := eq_taken fun n => h.management n
  have slotA := eq_taken fun n => h.slotA n
  have slotB := eq_taken fun n => h.slotB n
  have notices := eq_taken fun n => h.notices n
  have channels := eq_taken fun n => h.channels n
  have service := eq_taken fun n => h.service n
  have links : t.links = bif ps.any (Part.among Part.ofLink) then t.links else s.links := by
    cases some : ps.any (Part.among Part.ofLink) with
    | true => rfl
    | false => exact h.links_eq some
  unfold State.taking
  rw [← pending, ← now, ← freeCount, ← raised, ← settings, ← cages, ← controllers, ← table, ← sets, ← search, ← memory,
    ← links, ← tickTimer, ← engaged, ← poolFree, ← poolLow, ← management, ← slotA, ← slotB, ← notices, ← channels,
    ← service]

end

end Sys2Proof.Machine
end

section
/-! PROOFS. The configuration items that are clamped, taken whole or checked (R6, R44, R76, R106, R123, R131, R135, R164). -/

set_option Elab.async false

namespace Sys2Proof.Machine

/-- A checked index of a bank is itself. -/
theorem indexOf_val {k n : Nat} (h : 0 < k) (i : Fin k) (e : i.val = n) : indexOf k n h = i :=
  Fin.ext (by simp only [indexOf]; rw [← e, Nat.mod_eq_of_lt i.isLt])

section
variable {q : Requester} {s : State}

/-- An alert enable is taken in every cage state (R44). -/
theorem exec_alertEnable (cage value : Byte) (idle : s.engineIdle) :
    exec (.alertEnable q cage value) s = .next
      (if 15 < cage.toNat then s.answered q 0x10 .badArgument [] []
       else (s.updCage (indexOf 16 cage.toNat) fun m => { m with alertEnable := value.getLsbD 0 }).answered q 0x10 .done
        [] []) := by
  show execAlertEnable q cage value s = _
  unfold execAlertEnable
  split
  · exact serve_refused .badArgument [] [] rfl idle fun _ => rfl
  · exact serve_answered _ .done [] [] rfl idle (fun m t => t.updCage_withEngine m _ _) fun _ => rfl

/-- Settles O5. -/
theorem plainItemsAreTaken : Obligations.PlainItemsAreTaken := by
  refine ⟨fun q v s idle => ?_, fun q v b list map dscp s idle hlist hmap hdscp => ?_, fun q cage value s idle => ?_⟩
  · exact ⟨serve_takeClamped 50 2000 _ _ rfl idle, serve_takeClamped 0 2000 _ _ rfl idle,
      serve_takeClamped 0 10000 _ _ rfl idle, serve_takeClamped 10 10000 _ _ rfl idle,
      serve_takeClamped 1 65535 _ _ rfl idle, serve_takeClamped 1 8192 _ _ rfl idle,
      serve_takeClamped 1 8192 _ _ rfl idle, serve_takeClamped 0 8192 _ _ rfl idle⟩
  · exact ⟨serve_takeItem _ rfl idle, serve_takeItem _ rfl idle, serve_takeItem _ rfl idle, serve_takeItem _ rfl idle,
      serve_takeItem _ rfl idle, serve_takeItem _ rfl idle, serve_takeItem _ rfl idle (decide_eq_true hlist),
      serve_takeItem _ rfl idle (decide_eq_true hmap), serve_takeItem _ rfl idle (decide_eq_true hdscp)⟩
  · refine ⟨fun beyond => ?_, fun c hc => ?_⟩
    · rw [exec_alertEnable cage value idle, if_pos beyond]
    · rw [exec_alertEnable cage value idle, if_neg (by have := c.isLt; omega), indexOf_val _ c hc]
      rfl

/-- Settles O6. -/
theorem checkedItemsAreRefusedOrTaken : Obligations.CheckedItemsAreRefusedOrTaken := by
  intro q v page offset a s idle
  refine ⟨?_, ?_, ?_, ?_, ?_, ?_, ?_⟩
  · exact serve_checked (p := fun _ => 240 < offset.toNat) (fun g => { g with serialLocation := (page, offset) }) rfl idle
      (fun _ => .rfl) fun _ => rfl
  · refine (serve_checked (p := fun t => (v.toNat = 0 || v.toNat ≤ t.settings.reuseThreshold) = true)
      (fun g => { g with suppressThreshold := v.toNat }) rfl idle (fun _ => .rfl) fun _ => rfl).trans ?_
    simp only [Bool.or_eq_true, decide_eq_true_eq]
    rfl
  · refine (serve_checked (p := fun t => (v.toNat = 0 || t.settings.suppressThreshold ≤ v.toNat) = true)
      (fun g => { g with reuseThreshold := v.toNat }) rfl idle (fun _ => .rfl) fun _ => rfl).trans ?_
    simp only [Bool.or_eq_true, decide_eq_true_eq]
    rfl
  · exact serve_checked (p := fun t => clamp 1 8192 v.toNat ≤ t.settings.resumeLevel)
      (fun g => { g with criticalLevel := clamp 1 8192 v.toNat }) rfl idle (fun _ => .rfl)
      fun _ => State.respondTaken_inRange 1 8192 v.toNat _
  · exact serve_checked (p := fun t => t.settings.criticalLevel ≤ clamp 0 8191 v.toNat)
      (fun g => { g with resumeLevel := clamp 0 8191 v.toNat }) rfl idle (fun _ => .rfl)
      fun _ => State.respondTaken_inRange 0 8191 v.toNat _
  · exact serve_checked (p := fun _ => a.getLsbD 40 = true) (fun g => { g with managementAddress := a }) rfl idle
      (fun _ => .rfl) fun _ => rfl
  · refine (serve_checked (p := fun _ => typeRefused v = true) (fun g => { g with managementType := v }) rfl idle
      (fun _ => .rfl) fun _ => rfl).trans ?_
    simp only [typeRefused, Bool.or_eq_true, decide_eq_true_eq, or_assoc]
    rfl

end

end Sys2Proof.Machine
end

section
/-! PROOFS. What goes toward the switch as classes are paused and released (R113, R124 to R126). -/

set_option Elab.async false

namespace Sys2Proof.Machine

/-- A bank set to what it holds is the same bank. -/
theorem Bank.set_get_self {n : Nat} {α : Type} (b : Bank n α) (i : Fin n) (x : α) (e : b.get i = x) : b.set i x = b := by
  refine Bank.eq_of_get _ _ fun k => ?_
  rw [Bank.get_set]
  split
  · next h => rw [← h, e]
  · rfl

/-! ### The fabric-side egress -/

/-- A pause frame that begins to be sent leaves as it stands: it releases, or carries the pause time in force. -/
abbrev PauseFrame.Current (g : Settings) (p : PauseFrame) : Prop := p.sentUnder g = p

/-- An egress that begins its next frame holds every pause frame that it held. -/
theorem FabricEgress.holdsPause_begin {g : Settings} {up : Bool} {e : FabricEgress} {p : PauseFrame}
    (current : p.Current g) (h : e.holdsPause p) : (e.begin g up).holdsPause p := by
  obtain ⟨sending, urgent, replies, forwards⟩ := e
  have sent : (FabricFrame.pause p).sentUnder g = .pause p := congrArg FabricFrame.pause current
  cases sending with
  | some f => exact h
  | none =>
    have waits : .pause p ∈ urgent := h.resolve_left (by simp)
    cases urgent with
    | nil => cases waits
    | cons f rest =>
      rcases List.mem_cons.mp waits with rfl | later
      · exact .inl (congrArg some sent)
      · exact .inr later

/-- The replies that wait still do, and what is being sent still is. -/
structure FabricEgress.Kept (e f : FabricEgress) : Prop where
  replies : f.replies = e.replies
  sending : e.sending ≠ none → f.sending = e.sending

theorem FabricEgress.Kept.refl (e : FabricEgress) : e.Kept e := ⟨rfl, fun _ => rfl⟩

theorem FabricEgress.Kept.trans {e f g : FabricEgress} (h : e.Kept f) (k : f.Kept g) : e.Kept g :=
  ⟨k.replies.trans h.replies, fun some => (k.sending (h.sending some ▸ some)).trans (h.sending some)⟩

theorem FabricEgress.Kept.holdsReply {e f : FabricEgress} {m : ManagementFrame} (h : e.Kept f) (holds : e.holdsReply m) :
    f.holdsReply m :=
  holds.imp (fun sent => (h.sending (by simp [sent])).trans sent) fun waits => h.replies ▸ waits

/-- A frame that goes first leaves the replies. -/
theorem FabricEgress.kept_urgent {g : Settings} {up : Bool} {f : FabricFrame} (e : FabricEgress) :
    e.Kept (({ e with urgent := e.urgent ++ [f] } : FabricEgress).begin g up) := by
  obtain ⟨sending, urgent, replies, forwards⟩ := e
  cases sending with
  | some f => exact ⟨rfl, fun _ => rfl⟩
  | none => cases urgent <;> exact ⟨rfl, fun h => absurd rfl h⟩

/-! ### One link's pauses -/

/-- From a link to its later self classes are released alone: each that is released and that some priority maps to has its
frame, nothing else goes toward the switch, and the pause frames that were due still are. -/
structure Link.Released (g : Settings) (l m : Link) : Prop where
  falls : ∀ k, m.hold.paused.get k = l.hold.paused.get k ∨ m.hold.paused.get k = none
  told : ∀ k, (l.hold.paused.get k).isSome → m.hold.paused.get k = none → prioritiesOf g k ≠ 0 →
    m.fabricSide.holdsPause ⟨prioritiesOf g k, 0⟩
  silent : (∀ k, prioritiesOf g k = 0 ∨ m.hold.paused.get k = l.hold.paused.get k) → m.fabricSide = l.fabricSide
  held : ∀ p : PauseFrame, p.Current g → l.fabricSide.holdsPause p → m.fabricSide.holdsPause p
  kept : l.fabricSide.Kept m.fabricSide

namespace Link.Released

variable {g : Settings} {l m n : Link}

/-- A change that leaves the pauses and the egress. -/
theorem of_same (paused : m.hold.paused = l.hold.paused) (fabric : m.fabricSide = l.fabricSide) : l.Released g m where
  falls k := .inl (by rw [paused])
  told k some none _ := by rw [paused] at none; simp [none] at some
  silent _ := fabric
  held _ _ h := fabric ▸ h
  kept := fabric ▸ .refl _

theorem refl (g : Settings) (l : Link) : l.Released g l := of_same rfl rfl

theorem trans (h : l.Released g m) (k : m.Released g n) : l.Released g n where
  falls c := by
    rcases k.falls c with same | gone
    · rw [same]
      exact h.falls c
    · exact .inr gone
  told c before after mapped := by
    by_cases between : m.hold.paused.get c = none
    · exact k.held _ rfl (h.told c before between mapped)
    · exact k.told c (Option.isSome_iff_ne_none.mpr between) after mapped
  silent same := by
    have first c : prioritiesOf g c = 0 ∨ m.hold.paused.get c = l.hold.paused.get c := by
      refine (same c).imp_right fun e => (h.falls c).elim id fun gone => ?_
      rcases k.falls c with later | later
      · rw [← later, e]
      · rw [gone, ← e, later]
    have second c : prioritiesOf g c = 0 ∨ n.hold.paused.get c = m.hold.paused.get c := by
      rcases first c with zero | e
      · exact .inl zero
      · exact (same c).imp_right fun e' => e'.trans e.symm
    exact (k.silent second).trans (h.silent first)
  held p current waits := k.held p current (h.held p current waits)
  kept := h.kept.trans k.kept

end Link.Released

/-! ### One class released (R126) -/

section
variable (j : LinkId) (k : ClassId) (s : State)

/-- A class's pause frame is due, where some priority maps to the class. -/
theorem State.sendClassPause_holds (n : Nat) (current : PauseFrame.Current s.settings ⟨prioritiesOf s.settings k, n⟩)
    (mapped : prioritiesOf s.settings k ≠ 0) :
    ((s.sendClassPause j k n).link j).fabricSide.holdsPause ⟨prioritiesOf s.settings k, n⟩ := by
  rw [State.sendClassPause, if_neg mapped, State.sendPause, State.toFabric, State.link_updLink_self]
  exact FabricEgress.holdsPause_begin current (.inr (by simp))

/-- A pause frame for one class leaves those that are due. -/
theorem State.sendClassPause_held (n : Nat) {p : PauseFrame} (current : p.Current s.settings)
    (h : (s.link j).fabricSide.holdsPause p) : ((s.sendClassPause j k n).link j).fabricSide.holdsPause p := by
  rw [State.sendClassPause]
  split
  · exact h
  · rw [State.sendPause, State.toFabric, State.link_updLink_self]
    exact FabricEgress.holdsPause_begin current (h.imp_right fun waits => List.mem_append.mpr (.inl waits))

theorem State.sendClassPause_kept (n : Nat) :
    (s.link j).fabricSide.Kept ((s.sendClassPause j k n).link j).fabricSide := by
  rw [State.sendClassPause]
  split
  · exact .refl _
  · rw [State.sendPause, State.toFabric, State.link_updLink_self]
    exact FabricEgress.kept_urgent _

/-- A class that no priority maps to is paused and released without a frame. -/
theorem State.sendClassPause_unmapped (n : Nat) (unmapped : prioritiesOf s.settings k = 0) :
    s.sendClassPause j k n = s := if_pos unmapped

/-- A pause frame goes into the egress alone. -/
theorem State.sendClassPause_link (n : Nat) : (s.sendClassPause j k n).link j
    = { s.link j with fabricSide := ((s.sendClassPause j k n).link j).fabricSide } := by
  unfold State.sendClassPause
  split
  · rfl
  · rw [State.sendPause, State.toFabric, State.link_updLink_self]

/-- A released class stays as it is. -/
theorem State.releaseClass_of_free (free : (s.link j).hold.paused.get k = none) : s.releaseClass j k = s := by
  simp [State.releaseClass, State.isPaused, free]

/-- A class paused is released with its frame. -/
theorem State.releaseClass_of_paused (paused : ((s.link j).hold.paused.get k).isSome) :
    (s.releaseClass j k).link j = { (s.sendClassPause j k 0).link j with
      hold := { (s.link j).hold with paused := (s.link j).hold.paused.set k none } } := by
  rw [State.releaseClass, if_pos (show s.isPaused j k = true from paused), State.setPaused, State.link_updHold_self, s.sendClassPause_link j k 0]

/-- A class is released: it is not paused, and only the egress shows it. -/
theorem State.releaseClass_link : (s.releaseClass j k).link j = { s.link j with
    hold := { (s.link j).hold with paused := (s.link j).hold.paused.set k none }
    fabricSide := ((s.releaseClass j k).link j).fabricSide } := by
  by_cases free : (s.link j).hold.paused.get k = none
  · rw [s.releaseClass_of_free j k free, Bank.set_get_self _ _ _ free]
  · rw [s.releaseClass_of_paused j k (Option.isSome_iff_ne_none.mpr free), s.sendClassPause_link j k 0]

theorem State.releaseClass_released : (s.link j).Released s.settings ((s.releaseClass j k).link j) := by
  by_cases free : (s.link j).hold.paused.get k = none
  · rw [s.releaseClass_of_free j k free]
    exact .refl ..
  have result := s.releaseClass_of_paused j k (Option.isSome_iff_ne_none.mpr free)
  refine ⟨fun c => ?_, fun c before after mapped => ?_, fun same => ?_, fun p current waits => ?_, ?_⟩
  · rw [result]
    by_cases e : k = c
    · exact .inr (e ▸ Bank.get_set_self ..)
    · exact .inl (Bank.get_set_ne _ _ _ _ e)
  · rw [result] at after ⊢
    have e : k = c := by
      by_contra e
      rw [Bank.get_set_ne _ _ _ _ e] at after
      simp [after] at before
    subst e
    exact s.sendClassPause_holds j k 0 rfl mapped
  · have unmapped : prioritiesOf s.settings k = 0 := by
      refine (same k).resolve_right fun e => free ?_
      rw [← e, result]
      exact Bank.get_set_self ..
    rw [result, s.sendClassPause_unmapped j k 0 unmapped]
  · rw [result]
    exact s.sendClassPause_held j k 0 current waits
  · rw [result]
    exact s.sendClassPause_kept j k 0

end

/-! ### Releases one after another -/

section
variable {j : LinkId} {s : State}

/-- Releases of a link one after another, while the settings stay. -/
theorem Link.Released.forEach {α : Type} {f : α → State → State} {l : List α}
    (step : ∀ x ∈ l, ∀ t : State, (t.link j).Released t.settings ((f x t).link j))
    (settings : ∀ x t, (f x t).settings = t.settings) : (s.link j).Released s.settings ((s.forEach f l).link j) := by
  induction l generalizing s with
  | nil => exact .refl ..
  | cons x rest ih =>
    have later := ih (s := f x s) fun y hy => step y (by simp [hy])
    rw [settings] at later
    exact (step x (by simp) s).trans later

theorem State.releaseIfLow_released (k : ClassId) : (s.link j).Released s.settings ((s.releaseIfLow j k).link j) := by
  unfold State.releaseIfLow
  split
  · exact s.releaseClass_released j k
  · exact .refl ..

theorem State.releaseLink_released : (s.link j).Released s.settings ((s.releaseLink j).link j) :=
  .forEach (fun k _ t => t.releaseClass_released j k) fun k t => (touches_releaseClass (only_self j) k t).settings

theorem State.tellOccupancy_released (k : ClassId) : (s.link j).Released s.settings ((s.tellOccupancy j k).link j) := by
  unfold State.tellOccupancy
  split
  · exact s.releaseIfLow_released k
  · exact .refl ..

theorem State.releaseIfLow_paused (k : ClassId) : ((s.releaseIfLow j k).link j).hold.paused
    = if s.occupancy j k ≤ s.settings.resumeLevel then (s.link j).hold.paused.set k none else (s.link j).hold.paused := by
  unfold State.releaseIfLow
  split
  · rw [s.releaseClass_link j k]
  · rfl

/-- Classes released one after another, by what stays as they are: those named and due are not paused. -/
theorem State.forEach_paused {f : ClassId → State → State} {stays : State → Prop} {due : ClassId → Prop}
    [DecidablePred due] (keeps : ∀ k t, stays t → stays (f k t))
    (step : ∀ k t, stays t → ((f k t).link j).hold.paused
      = if due k then (t.link j).hold.paused.set k none else (t.link j).hold.paused)
    (l : List ClassId) (start : stays s) (n : ClassId) : ((s.forEach f l).link j).hold.paused.get n
      = if n ∈ l ∧ due n then none else (s.link j).hold.paused.get n := by
  induction l generalizing s with
  | nil => simp
  | cons k rest ih =>
    rw [State.forEach_cons, ih (keeps k s start), step k s start]
    by_cases hd : due k
    · rw [if_pos hd, Bank.get_set]
      by_cases e : k = n
      · subst e
        simp [hd]
      · simp [e, Ne.symm e]
    · rw [if_neg hd]
      by_cases e : n = k
      · subst e
        simp [hd]
      · simp [e]

theorem State.occupancy_of_fifos {t : State} (same : (t.link j).park.fifos = (s.link j).park.fifos) (k : ClassId) :
    t.occupancy j k = s.occupancy j k := by
  rw [State.occupancy, State.occupancy, same]

theorem mem_allClasses (k : ClassId) : k ∈ allClasses := by
  revert k
  decide

/-- The classes at or below the resume level are released, and no other. -/
theorem State.releaseAllLow_paused (n : ClassId) : ((s.forEach (State.releaseIfLow j) allClasses).link j).hold.paused.get n
    = if s.occupancy j n ≤ s.settings.resumeLevel then none else (s.link j).hold.paused.get n := by
  rw [State.forEach_paused (stays := fun t => Touches (Only j) [.hold, .fabricSide] s t)
    (due := fun k => s.occupancy j k ≤ s.settings.resumeLevel)
    (fun k t h => h.trans (touches_releaseIfLow (only_self j) k t)) (fun k t h => ?_) allClasses (.refl ..) n]
  · simp [mem_allClasses]
  · rw [State.releaseIfLow_paused, State.occupancy_of_fifos (h.fifos j), h.settings]

theorem State.releaseAllLow_released :
    (s.link j).Released s.settings ((s.forEach (State.releaseIfLow j) allClasses).link j) :=
  .forEach (fun k _ t => t.releaseIfLow_released k) fun k t => (touches_releaseIfLow (only_self j) k t).settings

/-- Every class of a link is released. -/
theorem State.releaseLink_paused : ((s.releaseLink j).link j).hold.paused = Bank.fill 4 none := by
  refine Bank.eq_of_get _ _ fun n => ?_
  rw [State.releaseLink, State.forEach_paused (stays := fun _ => True) (due := fun _ => True) (fun _ _ _ => trivial)
    (fun k t _ => by rw [t.releaseClass_link j k, if_pos trivial]) allClasses trivial n]
  simp [mem_allClasses]

end

end Sys2Proof.Machine
end

section
/-! PROOFS. The configuration items that reach links, cages or the pending set (R6, R10, R106, R123, R126, R174). -/

set_option Elab.async false

namespace Sys2Proof.Machine

/-- A change that touches a link's pauses at most leaves the rest of its hold state. -/
theorem Touches.hold_eq {W : LinkId → Prop} {ps : List Part} {s t : State} (h : Touches W ps s t) (j : LinkId)
    (n : .serving ∉ ps := by decide) : (t.link j).hold = { (s.link j).hold with paused := (t.link j).hold.paused } := by
  obtain ⟨service, timer, lastLoss⟩ := h.same .serving n j
  generalize (t.link j).hold = after at *
  cases after
  simp_all

theorem mem_allLinks (j : LinkId) : j ∈ allLinks := List.mem_finRange j

theorem mem_allCages (c : CageId) : c ∈ allCages := List.mem_finRange c

theorem allCages_nodup : allCages.Nodup := List.nodup_finRange 16

theorem allLinks_nodup : allLinks.Nodup := List.nodup_finRange 64

/-- Of an operation made for every link, a link shows its own turn, made where all but the other links is as before. -/
theorem State.forEach_allLinks {f : LinkId → State → State} {ps : List Part}
    (each : ∀ i t, Touches (Only i) ps t (f i t)) (s : State) (j : LinkId) :
    ∃ t, Touches (· ≠ j) ps s t ∧ (s.forEach f allLinks).link j = (f j t).link j :=
  State.forEach_at each allLinks_nodup (mem_allLinks j) s

/-- Every link changed by itself. -/
theorem State.forEach_updLink (f : Link → Link) (s : State) (j : LinkId) :
    (s.forEach (fun i => State.updLink i f) allLinks).link j = f (s.link j) := by
  obtain ⟨t, touched, result⟩ := State.forEach_allLinks (ps := Part.ofLink ++ [.attempt, .serving])
    (fun i t => touches_updLink t (only_self i) fun l p => by cases p <;> simp [Part.SameLink, Part.ofLink]) s j
  rw [result, State.link_updLink_self, touched.elsewhere j (by simp)]

section
variable {q : Requester} {s : State}

/-! ### Pausing turned off (R123, R126) -/

/-- The change of whether a class is pausable. -/
def State.setPausable (k : ClassId) (on : Bool) (s : State) : State :=
  (if on then s else s.forEach (fun j => State.releaseClass j k) allLinks).updSettings fun g =>
    { g with pausable := g.pausable.set k on }

theorem State.setPausable_withEngine (k : ClassId) (on : Bool) (m : ManagementEngine) (s : State) :
    (s.withEngine m).setPausable k on = (s.setPausable k on).withEngine m := by
  unfold State.setPausable
  rw [State.forEach_withEngine fun j s => s.releaseClass_withEngine m j k]
  simp

/-- The change of pause-on-hold. -/
def State.setPauseOnHold (on : Bool) (s : State) : State :=
  (if s.settings.pauseOnHold && !on then s.forEach State.releaseHeld allLinks else s).updSettings fun g =>
    { g with pauseOnHold := on }

theorem State.setPauseOnHold_withEngine (on : Bool) (m : ManagementEngine) (s : State) :
    (s.withEngine m).setPauseOnHold on = (s.setPauseOnHold on).withEngine m := by
  unfold State.setPauseOnHold
  rw [State.forEach_withEngine fun j s => s.releaseHeld_withEngine m j]
  simp

theorem exec_pausable (cls value : Byte) (idle : s.engineIdle) :
    exec (.pausable q cls value) s = .next
      (if 3 < cls.toNat then s.answered q 0x10 .badArgument [] []
       else (s.setPausable (indexOf 4 cls.toNat) (value.getLsbD 0)).answered q 0x10 .done [] []) := by
  show execPausable q cls value s = _
  unfold execPausable
  split
  · exact serve_refused .badArgument [] [] rfl idle fun _ => rfl
  · exact serve_answered _ .done [] [] rfl idle (State.setPausable_withEngine _ _) fun _ => rfl

theorem exec_pauseOnHold (value : Byte) (idle : s.engineIdle) : exec (.pauseOnHold q value) s = .next
    ((s.setPauseOnHold (value.getLsbD 0)).answered q 0x10 .done [] []) := by
  show execPauseOnHold q value s = _
  unfold execPauseOnHold
  exact serve_answered _ .done [] [] rfl idle (State.setPauseOnHold_withEngine _) fun _ => rfl

theorem touches_releaseHeld (j : LinkId) (s : State) : Touches (Only j) [.hold, .fabricSide] s (s.releaseHeld j) :=
  .ite (fun _ => .forEach fun k _ t => touches_releaseIfLow (only_self j) k t) fun _ => .refl ..

theorem State.link_updSettings (f : Settings → Settings) (s : State) (j : LinkId) :
    (s.updSettings f).link j = s.link j := rfl

theorem State.setPausable_on (k : ClassId) (s : State) :
    s.setPausable k true = s.updSettings fun g => { g with pausable := g.pausable.set k true } := by
  rw [State.setPausable, if_pos rfl]

theorem State.setPausable_off (k : ClassId) (s : State) : s.setPausable k false
    = (s.forEach (fun j => State.releaseClass j k) allLinks).updSettings fun g =>
      { g with pausable := g.pausable.set k false } := by
  rw [State.setPausable, if_neg Bool.false_ne_true]

theorem State.setPauseOnHold_off {s : State} (on : s.settings.pauseOnHold = true) : s.setPauseOnHold false
    = (s.forEach State.releaseHeld allLinks).updSettings fun g => { g with pauseOnHold := false } := by
  rw [State.setPauseOnHold, if_pos (by simp [on])]

theorem State.setPauseOnHold_kept {s : State} {on : Bool} (kept : ¬ (s.settings.pauseOnHold = true ∧ on = false)) :
    s.setPauseOnHold on = s.updSettings fun g => { g with pauseOnHold := on } := by
  rw [State.setPauseOnHold, if_neg (by simpa using kept)]

theorem setPausable_eq (k : ClassId) (on : Bool) :
    let u := s.setPausable k on
    u = { s with settings := { s.settings with pausable := s.settings.pausable.set k on }, links := u.links } := by
  intro u
  cases on with
  | true => rw [show u = _ from s.setPausable_on k]; rfl
  | false =>
    have touched : Touches Anywhere [.hold, .fabricSide] s (s.forEach (fun j => State.releaseClass j k) allLinks) :=
      .forEach fun i _ t => touches_releaseClass trivial k t
    rw [show u = _ from s.setPausable_off k]
    generalize s.forEach (fun j => State.releaseClass j k) allLinks = t at touched
    rw [State.updSettings, touched.settings]
    exact congrArg (State.updSettings fun _ => { s.settings with pausable := s.settings.pausable.set k false }) touched.eq

theorem setPauseOnHold_eq (on : Bool) :
    let u := s.setPauseOnHold on
    u = { s with settings := { s.settings with pauseOnHold := on }, links := u.links } := by
  intro u
  by_cases off : s.settings.pauseOnHold = true ∧ on = false
  · have touched : Touches Anywhere [.hold, .fabricSide] s (s.forEach State.releaseHeld allLinks) :=
      .forEach fun i _ t => (touches_releaseHeld i t).widen fun _ _ => trivial
    rw [show u = s.setPauseOnHold on from rfl, off.2, State.setPauseOnHold_off off.1]
    generalize s.forEach State.releaseHeld allLinks = t at touched
    rw [State.updSettings, touched.settings]
    exact congrArg (State.updSettings fun _ => { s.settings with pauseOnHold := false }) touched.eq
  · rw [show u = _ from State.setPauseOnHold_kept off]; rfl

/-- A class that is no longer pausable is released on every link. -/
theorem setPausable_off (k : ClassId) (j : LinkId) :
    let u := s.setPausable k false
    u.link j = { s.link j with
      hold := { (s.link j).hold with paused := (s.link j).hold.paused.set k none }
      fabricSide := (u.link j).fabricSide }
    ∧ (((s.link j).hold.paused.get k).isSome → prioritiesOf s.settings k ≠ 0 →
      (u.link j).fabricSide.holdsPause ⟨prioritiesOf s.settings k, 0⟩)
    ∧ ((s.link j).hold.paused.get k = none ∨ prioritiesOf s.settings k = 0 →
      (u.link j).fabricSide = (s.link j).fabricSide) := by
  intro u
  obtain ⟨t, touched, result⟩ := State.forEach_allLinks (fun i t => touches_releaseClass (only_self i) k t) s j
  have same : t.link j = s.link j := touched.elsewhere j (by simp)
  have settings : t.settings = s.settings := touched.settings
  have at_j : u.link j = (t.releaseClass j k).link j := by
    rw [show u = _ from s.setPausable_off k, State.link_updSettings, result]
  have link := t.releaseClass_link j k
  have released := t.releaseClass_released j k
  rw [← at_j, same] at link
  rw [← at_j, same, settings] at released
  have none : (u.link j).hold.paused.get k = none := by
    rw [link]
    exact Bank.get_set_self ..
  refine ⟨link, fun before => released.told k before none, fun still => released.silent fun n => ?_⟩
  by_cases e : k = n
  · subst e
    exact still.elim (fun free => .inr (none.trans free.symm)) .inl
  · refine .inr ?_
    rw [link]
    exact Bank.get_set_ne _ _ _ _ e

theorem releaseHeld_released (j : LinkId) (s : State) : (s.link j).Released s.settings ((s.releaseHeld j).link j) := by
  unfold State.releaseHeld
  split
  · exact State.releaseAllLow_released
  · exact .refl ..

theorem releaseHeld_paused (j : LinkId) (s : State) (n : ClassId) : ((s.releaseHeld j).link j).hold.paused.get n
    = if (s.link j).hold.service = .hold ∧ s.occupancy j n ≤ s.settings.resumeLevel then none
      else (s.link j).hold.paused.get n := by
  unfold State.releaseHeld
  split
  · next h => simp [State.releaseAllLow_paused, h]
  · next h => simp [h]

/-- As pause-on-hold is turned off, a link in HOLD releases the classes at or below the resume level. -/
theorem setPauseOnHold_link (on : Bool) (j : LinkId) :
    let u := s.setPauseOnHold on
    u.link j = { s.link j with
      hold := { (s.link j).hold with paused := (u.link j).hold.paused }, fabricSide := (u.link j).fabricSide }
    ∧ (∀ n, (u.link j).hold.paused.get n
      = if s.settings.pauseOnHold ∧ on = false ∧ (s.link j).hold.service = .hold
          ∧ s.occupancy j n ≤ s.settings.resumeLevel
        then none else (s.link j).hold.paused.get n)
    ∧ (s.link j).Released s.settings (u.link j) := by
  intro u
  by_cases off : s.settings.pauseOnHold = true ∧ on = false
  · obtain ⟨t, touched, result⟩ := State.forEach_allLinks touches_releaseHeld s j
    have same : t.link j = s.link j := touched.elsewhere j (by simp)
    have at_j : u.link j = (t.releaseHeld j).link j := by
      rw [show u = s.setPauseOnHold on from rfl, off.2, State.setPauseOnHold_off off.1, State.link_updSettings, result]
    have levels n : t.occupancy j n = s.occupancy j n := State.occupancy_of_fifos (by rw [same]) n
    have link := (touches_releaseHeld j t).link_eq j
    rw [← at_j, same] at link
    refine ⟨?_, fun n => ?_, ?_⟩
    · have held := (touches_releaseHeld j t).hold_eq j
      rw [← at_j, same] at held
      rw [link, Link.taking, held]
      rfl
    · rw [at_j, releaseHeld_paused, levels, same, touched.settings]
      simp [off]
    · rw [at_j, ← same, ← touched.settings]
      exact releaseHeld_released j t
  · have kept : u.link j = s.link j := by
      rw [show u = _ from State.setPauseOnHold_kept off, State.link_updSettings]
    refine ⟨?_, fun n => ?_, ?_⟩
    · rw [kept]
    · rw [kept, if_neg fun h => off ⟨h.1, h.2.1⟩]
    · rw [kept]
      exact .refl ..

/-- Settles O9. -/
theorem pauseItemsReleaseClasses : Obligations.PauseItemsReleaseClasses := by
  intro q cls value s idle
  refine ⟨fun beyond => ?_, fun k hk => ?_, s.setPauseOnHold (value.getLsbD 0), exec_pauseOnHold value idle, ?_, fun j => ?_⟩
  · rw [exec_pausable cls value idle, if_pos beyond]
  · refine ⟨s.setPausable k (value.getLsbD 0), ?_, ?_, fun on => ?_, fun off j => ?_⟩
    · rw [exec_pausable cls value idle, if_neg (by have := k.isLt; omega), indexOf_val _ k hk]
    · exact setPausable_eq k _
    · rw [on, State.setPausable_on]
      rfl
    · rw [off]
      exact setPausable_off k j
  · exact setPauseOnHold_eq _
  · obtain ⟨link, paused, released⟩ := setPauseOnHold_link (s := s) (value.getLsbD 0) j
    exact ⟨link, paused, released.told, released.silent⟩

/-! ### A new ceiling (R106) -/

/-- The change of the ceiling. -/
def State.setCeiling (n : Nat) (s : State) : State := (s.lowerPenalties n).updSettings fun g => { g with ceiling := n }

theorem exec_ceiling (v : BitVec 16) (idle : s.engineIdle) :
    exec (.ceiling q v) s = .next ((s.setCeiling v.toNat).answered q 0x10 .done [] []) := by
  show execCeiling q v s = _
  unfold execCeiling
  exact serve_answered (State.setCeiling v.toNat) .done [] [] rfl idle
    (fun m t => by rw [State.setCeiling, State.lowerPenalties_withEngine]; rfl) fun _ => rfl

theorem touches_lowerPenalties (n : Nat) (s : State) : Touches Anywhere [.penalty] s (s.lowerPenalties n) :=
  .forEach fun _ _ t => touches_setPenalty trivial _ t

theorem setCeiling_eq (n : Nat) :
    let u := s.setCeiling n
    u = { s with settings := { s.settings with ceiling := n }, links := u.links }
      ∧ ∀ j, u.link j = { s.link j with penalty := min n (s.link j).penalty } := by
  intro u
  have touched := touches_lowerPenalties n s
  have link j : (s.lowerPenalties n).link j = { s.link j with penalty := min n (s.link j).penalty } :=
    State.forEach_updLink (fun l => { l with penalty := min n l.penalty }) s j
  simp only [u, State.setCeiling]
  generalize s.lowerPenalties n = t at touched link
  refine ⟨?_, link⟩
  rw [State.updSettings, touched.settings]
  exact congrArg (State.updSettings fun _ => { s.settings with ceiling := n }) touched.eq

/-! ### A new page select location (R6, R10) -/

/-- A transaction for one of the cages that a controller serves, after those cages' page records became unknown as a new
location was taken. -/
def Transaction.relocated (k : ControllerId) (cages : List CageId) (later : Bool) (t : Transaction) : Transaction :=
  if t.request.cage ∈ cages ∧ controllerOf t.request.cage = k then
    { t with forgotten := true, wiped := t.wiped || !(t.selecting && later) }
  else t

/-- One cage's page record becomes unknown: only its controller's transaction for it shows it. -/
theorem State.forgetLocation_controller (c : CageId) (k : ControllerId) (s : State) : ∃ later,
    (s.forgetLocation c).controller k = { s.controller k with
      inFlight := (s.controller k).inFlight.map (Transaction.relocated k [c] later) } := by
  refine ⟨Config.selectsLater s.freeCount, ?_⟩
  by_cases e : controllerOf c = k
  · subst e
    rw [State.forgetLocation, State.controller_updController_self, State.forgetPage]
    show Controller.markFor c _ ((State.updController _ _ _).controller _) = _
    rw [State.controller_updController_self]
    show Controller.markFor c _ (Controller.markFor c _ (s.controller (controllerOf c))) = _
    simp only [Controller.markFor, Option.map_map]
    congr 2
    funext t
    by_cases at_c : t.request.cage = c <;> simp [Transaction.relocated, Transaction.wipe, at_c]
  · have other (t : Transaction) (later : Bool) : t.relocated k [c] later = t := by
      refine if_neg fun h => e ?_
      rw [← List.mem_singleton.mp h.1, h.2]
    rw [State.forgetLocation, State.controller_updController_ne _ _ _ _ e]
    show (State.updController _ _ _).controller k = _
    rw [State.controller_updController_ne _ _ _ _ e]
    rw [show Transaction.relocated k [c] (Config.selectsLater s.freeCount) = id from funext (other · _), Option.map_id]
    rfl

theorem Transaction.relocated_relocated {k : ControllerId} {c : CageId} {rest : List CageId} (fresh : c ∉ rest)
    (first later : Bool) (t : Transaction) : ∃ some, (t.relocated k [c] first).relocated k rest later
      = t.relocated k (c :: rest) some := by
  by_cases at_c : t.request.cage = c
  · refine ⟨first, ?_⟩
    by_cases e : controllerOf c = k <;> simp [Transaction.relocated, at_c, e, fresh]
  · refine ⟨later, ?_⟩
    simp [Transaction.relocated, at_c]

theorem State.forgetLocations_controller (k : ControllerId) {l : List CageId} (nodup : l.Nodup) (s : State) :
    ∃ later, (s.forEach State.forgetLocation l).controller k = { s.controller k with
      inFlight := (s.controller k).inFlight.map (Transaction.relocated k l later) } := by
  induction l generalizing s with
  | nil =>
    refine ⟨true, ?_⟩
    have same : Transaction.relocated k [] true = id := by
      funext t
      simp [Transaction.relocated]
    rw [same, Option.map_id]
    rfl
  | cons c rest ih =>
    obtain ⟨fresh, nodup⟩ := List.nodup_cons.mp nodup
    obtain ⟨first, one⟩ := s.forgetLocation_controller c k
    obtain ⟨later, others⟩ := ih nodup (s.forgetLocation c)
    cases flying : (s.controller k).inFlight with
    | none =>
      refine ⟨later, ?_⟩
      rw [State.forEach_cons, others, one, flying]
      rfl
    | some t =>
      obtain ⟨both, e⟩ := t.relocated_relocated (k := k) fresh first later
      refine ⟨both, ?_⟩
      rw [State.forEach_cons, others, one, flying]
      simp only [Option.map_some, e]

theorem State.forgetLocation_cage (c d : CageId) (s : State) : (s.forgetLocation c).cage d
    = if c = d then { s.cage d with lastPage := none } else s.cage d := by
  show (s.updCage c fun m => { m with lastPage := none }).cage d = _
  split
  · next e => rw [← e, State.cage_updCage_self]
  · next e => rw [State.cage_updCage_ne _ _ _ _ e]

theorem State.forgetLocations_cage (d : CageId) (l : List CageId) (s : State) :
    (s.forEach State.forgetLocation l).cage d = if d ∈ l then { s.cage d with lastPage := none } else s.cage d := by
  induction l generalizing s with
  | nil => simp
  | cons c rest ih =>
    rw [State.forEach_cons, ih, State.forgetLocation_cage]
    by_cases e : c = d
    · subst e
      simp
    · simp [e, Ne.symm e]

theorem State.forgetLocations_freeCount (l : List CageId) (s : State) :
    (s.forEach State.forgetLocation l).freeCount = s.freeCount + l.length := by
  induction l generalizing s with
  | nil => rfl
  | cons c rest ih =>
    rw [State.forEach_cons, ih, List.length_cons, show (s.forgetLocation c).freeCount = s.freeCount + 1 from rfl]
    omega

/-- The change of the page select location. -/
def State.setPageSelect (v : Byte) (s : State) : State :=
  (s.forEach State.forgetLocation allCages).updSettings fun g => { g with pageSelectLocation := v }

theorem exec_pageSelectLocation (v : Byte) (idle : s.engineIdle) :
    exec (.pageSelectLocation q v) s = .next ((s.setPageSelect v).answered q 0x10 .done [] []) := by
  show execPageSelectLocation q v s = _
  unfold execPageSelectLocation
  exact serve_answered (State.setPageSelect v) .done [] [] rfl idle
    (fun m t => by
      rw [State.setPageSelect, State.forEach_withEngine fun c s => s.forgetLocation_withEngine m c]
      rfl)
    fun _ => rfl

/-- Settles O7. -/
theorem pageSelectAndCeilingReachFurther : Obligations.PageSelectAndCeilingReachFurther := by
  refine ⟨fun q v s idle => ⟨s.setPageSelect v, exec_pageSelectLocation v idle, ?_⟩,
    fun q v s idle => ⟨_, exec_ceiling v idle, setCeiling_eq v.toNat⟩⟩
  have touched : Touches Anywhere [.cages, .controllers, .freeCount] s (s.forEach State.forgetLocation allCages) :=
    .forEach fun c _ t => touches_forgetLocation c t
  have count := s.forgetLocations_freeCount allCages
  have cage c := s.forgetLocations_cage c allCages
  have controller k := s.forgetLocations_controller k allCages_nodup
  have sixteen : allCages.length = 16 := List.length_finRange
  unfold State.setPageSelect
  generalize s.forEach State.forgetLocation allCages = t at touched count cage controller
  refine ⟨?_, fun c => (cage c).trans (if_pos (mem_allCages c)), fun k => ?_⟩
  · rw [State.updSettings, touched.settings]
    rw [sixteen] at count
    rw [← count]
    exact congrArg (State.updSettings fun _ => { s.settings with pageSelectLocation := v }) touched.eq
  · obtain ⟨later, result⟩ := controller k
    refine ⟨later, ?_⟩
    show t.controller k = _
    have every : Transaction.relocated k allCages later = fun x =>
        if controllerOf x.request.cage = k then
          { x with forgotten := true, wiped := x.wiped || !(x.selecting && later) }
        else x := by
      funext x
      simp [Transaction.relocated, mem_allCages]
    rw [result, every]

/-! ### A notice level (R169, R174) -/

/-- The change of a kind's level. -/
def State.setLevel (k : EventKind) (n : Nat) (s : State) : State :=
  let u := s.updNotices fun u => { u with levels := u.levels.set k.place n }
  if n = 0 then u.silence k else u

theorem exec_noticeLevel (kind value : Byte) (idle : s.engineIdle) : exec (.noticeLevel q kind value) s = .next
    (match eventKindOfCode kind.toNat with
     | none => s.answered q 0x10 .badArgument [] []
     | some k => (s.setLevel k (clamp 0 6 value.toNat)).answered q 0x10
        (clampOutcome 0 6 value.toNat) (clampFields 0 6 value.toNat) []) := by
  show execNoticeLevel q kind value s = _
  unfold execNoticeLevel
  cases eventKindOfCode kind.toNat with
  | none => exact serve_refused .badArgument [] [] rfl idle fun _ => rfl
  | some k =>
    exact serve_answered (State.setLevel k (clamp 0 6 value.toNat)) _ _ _ rfl idle
      (fun m t => by simp [State.setLevel]) fun m => State.respondTaken_inRange 0 6 value.toNat _

theorem eventKindOfCode_code (k : EventKind) : eventKindOfCode k.code = some k := by
  cases k <;> rfl

theorem eventKindOfCode_isSome (n : Nat) : (eventKindOfCode n).isSome ↔ 1 ≤ n ∧ n ≤ 23 := by
  constructor
  · intro some
    obtain ⟨k, found⟩ := Option.isSome_iff_exists.mp some
    have code : k.code = n := by simpa using List.find?_some found
    rw [← code]
    cases k <;> decide
  · rintro ⟨low, high⟩
    interval_cases n <;> rfl

theorem touches_clearMark {W : LinkId → Prop} {j : LinkId} (hj : W j) (s : State) :
    Touches W [.discardMark] s (s.updLink j fun l => { l with discardMark := false }) :=
  touches_updLink s hj fun l p => by cases p <;> simp [Part.SameLink]

theorem setLevel_eq (k : EventKind) (n : Nat) :
    let u := s.setLevel k n
    u = { s with
        notices := { s.notices with
          levels := s.notices.levels.set k.place n
          entries := if n = 0 then s.notices.entries.filter fun e => e.kind ≠ k else s.notices.entries }
        links := u.links }
      ∧ ∀ j, u.link j = { s.link j with
        discardMark := if n = 0 ∧ k = .discard then false else (s.link j).discardMark } := by
  intro u
  by_cases zero : n = 0
  · subst zero
    by_cases marks : k = .discard
    · subst marks
      have result : u = (State.updNotices (fun x => { x with entries := x.entries.filter fun e => e.kind ≠ .discard })
          (s.updNotices fun x => { x with levels := x.levels.set EventKind.discard.place 0 })).forEach
            (fun j => State.updLink j fun l => { l with discardMark := false }) allLinks := by
        simp only [u, State.setLevel, State.silence, if_true]
      rw [result]
      have touched (b : State) : Touches Anywhere [.discardMark] b
          (b.forEach (fun j => State.updLink j fun l => { l with discardMark := false }) allLinks) :=
        .forEach fun i _ t => touches_clearMark trivial t
      refine ⟨?_, fun j => ?_⟩
      · rw [if_pos rfl]
        exact (touched _).eq
      · rw [if_pos ⟨rfl, rfl⟩]
        exact State.forEach_updLink (fun l => { l with discardMark := false }) _ j
    · have result : u = (s.updNotices fun x => { x with levels := x.levels.set k.place 0 }).updNotices fun x =>
          { x with entries := x.entries.filter fun e => e.kind ≠ k } := by
        simp only [u, State.setLevel, State.silence, if_true, if_neg marks]
      rw [result]
      refine ⟨?_, fun j => ?_⟩
      · rw [if_pos rfl]
        rfl
      · rw [if_neg fun h => marks h.2]
        rfl
  · have result : u = s.updNotices fun x => { x with levels := x.levels.set k.place n } := by
      simp only [u, State.setLevel, if_neg zero]
    rw [result]
    refine ⟨?_, fun j => ?_⟩
    · rw [if_neg zero]
      rfl
    · rw [if_neg fun h => zero h.1]
      rfl

/-- Settles O10. -/
theorem noticeLevelSilencesKind : Obligations.NoticeLevelSilencesKind := by
  intro q kind value s idle
  refine ⟨fun unknown => ?_, fun n => (eventKindOfCode_isSome n).symm, fun k hk => ?_⟩
  · rw [exec_noticeLevel kind value idle, unknown]
  · refine ⟨s.setLevel k (clamp 0 6 value.toNat), ?_, ?_⟩
    · rw [exec_noticeLevel kind value idle, ← hk, eventKindOfCode_code]
    · have level : clamp 0 6 value.toNat = min 6 value.toNat := by simp [clamp]
      have zero : min 6 value.toNat = 0 ↔ value = 0 := by
        rw [← BitVec.toNat_inj, show (0 : Byte).toNat = 0 from rfl]
        omega
      have result := setLevel_eq (s := s) k (min 6 value.toNat)
      simp only [zero] at result
      rw [level]
      exact result

end

end Sys2Proof.Machine
end

section
/-! PROOFS. Parameter sets as they are written (R37, section 2.5), and damage to the table's entries (R21, R34). -/

set_option Elab.async false

namespace Sys2Proof.Machine

/-- Settles O17. -/
theorem damageMarksEntry : Obligations.DamageMarksEntry := by
  intro index key attr s
  refine ⟨Config.damageSeen s.freeCount, ?_⟩
  simp only [← widthOf_eq]
  show execEntryDamage index key attr s = _
  unfold execEntryDamage SearchUnit.sees ManagementEngine.sees
  cases Config.damageSeen s.freeCount <;> rfl

/-! ### Numbers in a record (R168) -/

/-- The number of one byte of a record. -/
def byteNumber (b : List Byte) (i : Nat) : Nat := (b.getD i 0).toNat

/-- The number of two bytes of a record. -/
def wordNumber (b : List Byte) (i : Nat) : Nat := byteNumber b i * 256 + byteNumber b (i + 1)

theorem slice_succ {b : List Byte} {i k : Nat} (h : i < b.length) : slice b i (k + 1) = b.getD i 0 :: slice b (i + 1) k := by
  rw [slice, List.drop_eq_getElem_cons h, List.take_succ_cons, List.getD_eq_getElem _ _ h, slice]

theorem slice_zero (b : List Byte) (i : Nat) : slice b i 0 = [] := List.take_zero ..

theorem numberOf_slice_two {b : List Byte} {i : Nat} (h : i + 2 ≤ b.length) : numberOf (slice b i 2) = wordNumber b i := by
  rw [slice_succ (by omega), slice_succ (by omega), slice_zero, numberOf_cons, numberOf_cons]
  simp [wordNumber, byteNumber]

theorem numberOf_slice_four {b : List Byte} {i : Nat} (h : i + 4 ≤ b.length) :
    numberOf (slice b i 4) = wordNumber b i * 65536 + wordNumber b (i + 2) := by
  rw [slice_succ (by omega), slice_succ (by omega), slice_succ (by omega), slice_succ (by omega), slice_zero]
  simp only [numberOf_cons, numberOf_nil, wordNumber, byteNumber, List.length_cons, List.length_nil, Nat.add_assoc,
    Nat.reduceAdd]
  omega

/-! ### Lane maps (R37) -/

/-- Eight numbers that hold each of 0 to 7 once are those numbers in some order. -/
theorem perm_range_of_counts {ns : List Nat} (long : ns.length = 8) (once : ∀ n ∈ List.range 8, ns.count n = 1) :
    ns.Perm (List.range 8) := by
  have inside : List.range 8 ⊆ ns := fun n hn => List.count_pos_iff.mp (by rw [once n hn]; exact Nat.one_pos)
  have sub := List.subperm_of_subset List.nodup_range inside
  exact (sub.perm_of_length_le (by simp [long])).symm

theorem laneMapOf_isSome_iff (l : List Byte) : (laneMapOf (l.map BitVec.toNat)).isSome
    ↔ (List.range 8).all (fun n => l.count (BitVec.ofNat 8 n) = 1) = true := by
  have counted (n : Nat) (hn : n ∈ List.range 8) : (l.map BitVec.toNat).count n = l.count (BitVec.ofNat 8 n) := by
    have small : n < 8 := List.mem_range.mp hn
    have back : (BitVec.ofNat 8 n).toNat = n := by
      rw [BitVec.toNat_ofNat, Nat.mod_eq_of_lt (by omega)]
    have moved := List.count_map_of_injective l BitVec.toNat (fun _ _ => BitVec.eq_of_toNat_eq) (BitVec.ofNat 8 n)
    rwa [back] at moved
  have same : ((List.range 8).all fun n => (l.map BitVec.toNat).count n = 1)
      = (List.range 8).all fun n => l.count (BitVec.ofNat 8 n) = 1 := by
    rw [Bool.eq_iff_iff, List.all_eq_true, List.all_eq_true]
    exact forall₂_congr fun n hn => by rw [counted n hn]
  rw [laneMapOf, same]
  split <;> simp_all

theorem laneMapOf_get {ns : List Nat} (long : ns.length = 8) {p : LaneMap} (h : laneMapOf ns = some p) (n : LaneId) :
    (p.get n).val = ns.getD n.val 0 := by
  unfold laneMapOf at h
  split at h
  · next once =>
    cases h
    have perm := perm_range_of_counts long (by simpa using once)
    have within : n.val < ns.length := by
      rw [long]
      exact n.isLt
    have small : ns.getD n.val 0 < 8 := by
      rw [List.getD_eq_getElem _ _ within]
      exact List.mem_range.mp (perm.mem_iff.mp (List.getElem_mem within))
    rw [Bank.get_tabulate]
    exact Nat.mod_eq_of_lt small
  · cases h

/-! ### SET-WRITE (R37) -/

/-- A set number's parameter set replaced. -/
def State.putSet (n : SetId) (p : ParameterSet) (s : State) : State := { s with sets := s.sets.set n p }

theorem exec_setWrite (q : Requester) (set : Byte) {b : List Byte} {s : State} (idle : s.engineIdle) (long : b.length = 56) :
    exec (.setWrite q set b) s = .next
      (if setFaults set (rawSetOf b) = [] then
        (s.putSet (indexOf 32 set.toNat) (rawSetOf b).toSet).answered q 0x28
          (if setClamps (rawSetOf b).rest = [] then .done else .adjusted) (setClamps (rawSetOf b).rest) []
      else s.answered q 0x28 .badArgument (setFaults set (rawSetOf b)) []) := by
  have wf : (Instr.setWrite q set b).WellFormed := decide_eq_true long
  show execSetWrite q set b s = _
  unfold execSetWrite
  cases faulty : setFaults set (rawSetOf b) with
  | nil =>
    rw [if_pos rfl]
    exact serve_answered (State.putSet (indexOf 32 set.toNat) (rawSetOf b).toSet)
      (if setClamps (rawSetOf b).rest = [] then .done else .adjusted) (setClamps (rawSetOf b).rest) [] rfl idle
      (fun _ _ => rfl) (fun m => by simp only [faulty, List.isEmpty_iff]; rfl) wf
  | cons f rest =>
    rw [if_neg (List.cons_ne_nil f rest)]
    exact serve_refused .badArgument (f :: rest) [] rfl idle (fun m => by simp only [faulty]; rfl) wf

theorem layoutOfCode_isNone_iff (n : Nat) : (layoutOfCode n).isNone = true ↔ ¬ (n = 1 ∨ n = 2 ∨ n = 4) := by
  unfold layoutOfCode
  split_ifs <;> simp_all

theorem layoutOfCode_code {n : Nat} {l : Layout} (h : layoutOfCode n = some l) : l.code = n := by
  unfold layoutOfCode at h
  split_ifs at h <;> cases h <;> simp_all [Layout.code, Layout.slots]

theorem peerModeOfCode_isNone_iff (n : Nat) : (peerModeOfCode n).isNone = true ↔ ¬ n ≤ 2 := by
  unfold peerModeOfCode
  split_ifs <;> simp_all
  omega

theorem peerModeOfCode_code {n : Nat} {m : PeerMode} (h : peerModeOfCode n = some m) : m.code = n := by
  unfold peerModeOfCode at h
  split_ifs at h <;> cases h <;> simp_all [PeerMode.code]

section
variable {b : List Byte} (long : b.length = 56)
include long

/-- The fields of a record that the checks and the clamps read. -/
theorem rawSetOf_words : (rawSetOf b).rest = { (rawSetOf b).rest with
    powerUpLimit := wordNumber b 24, guardInterval := wordNumber b 26, coldLimit := wordNumber b 28
    warmLimit := wordNumber b 30, alignmentLimit := wordNumber b 32, windowLength := wordNumber b 36
    allowance := wordNumber b 40, degradedAllowance := wordNumber b 42, holdOff := wordNumber b 44
    initialRate := wordNumber b 46, rampStep := wordNumber b 48
    burstSize := wordNumber b 50 * 65536 + wordNumber b 52, ageLimit := wordNumber b 54 } := by
  have two (i : Nat) (h : i ≤ 54) : numberOf (slice b i 2) = wordNumber b i := numberOf_slice_two (by omega)
  have four : numberOf (slice b 50 4) = _ := numberOf_slice_four (by omega)
  simp only [rawSetOf, two 24 (by omega), two 26 (by omega), two 28 (by omega), two 30 (by omega), two 32 (by omega),
    two 36 (by omega), two 40 (by omega), two 42 (by omega), two 44 (by omega), two 46 (by omega), two 48 (by omega),
    two 54 (by omega), four]

theorem setFaults_eq (set : Byte) : setFaults set (rawSetOf b) = (if 31 < set.toNat then [0] else [])
      ++ (if byteNumber b 0 = 1 ∨ byteNumber b 0 = 2 ∨ byteNumber b 0 = 4 then [] else [1])
      ++ (if (List.range 8).all (fun n => ((b.drop 4).take 8).count (BitVec.ofNat 8 n) = 1) then [] else [5])
      ++ (if 256 < byteNumber b 19 + min 4 (byteNumber b 3) then [19] else [])
      ++ (if wordNumber b 42 < wordNumber b 40 then [41] else [])
      ++ (if byteNumber b 1 ≤ 2 then [] else [2]) := by
  have words := rawSetOf_words long
  have layout : (layoutOfCode (rawSetOf b).layout).isNone = true
      ↔ ¬ (byteNumber b 0 = 1 ∨ byteNumber b 0 = 2 ∨ byteNumber b 0 = 4) := layoutOfCode_isNone_iff _
  have map : (laneMapOf (rawSetOf b).laneMap).isNone = true
      ↔ ¬ (List.range 8).all (fun n => ((b.drop 4).take 8).count (BitVec.ofNat 8 n) = 1) = true := by
    rw [← laneMapOf_isSome_iff, Option.not_isSome_iff_eq_none, Option.isNone_iff_eq_none]
    rfl
  have mode : (peerModeOfCode (rawSetOf b).peerMode).isNone = true ↔ ¬ byteNumber b 1 ≤ 2 :=
    peerModeOfCode_isNone_iff _
  have allowance : (rawSetOf b).rest.allowance = wordNumber b 40 := congrArg ParameterSet.allowance words
  have degraded : (rawSetOf b).rest.degradedAllowance = wordNumber b 42 := congrArg ParameterSet.degradedAllowance words
  have flags : (rawSetOf b).rest.flagOffset.toNat + (rawSetOf b).rest.clamped.flagLength
      = byteNumber b 19 + min 4 (byteNumber b 3) := by
    show byteNumber b 19 + clamp 0 4 (byteNumber b 3) = _
    simp [clamp]
  simp only [setFaults, RawSet.faults, layout, map, mode, allowance, degraded, flags, List.map_append, ite_not,
    List.append_assoc]
  congr 1
  simp only [apply_ite (List.map (· + 1)), List.map_nil, List.map_cons, Nat.reduceAdd]

/-- The ranges of a record's fields, each with its offset in the record (section 2.5). -/
def fieldRanges (b : List Byte) : List (Nat × Nat × Nat × Nat) :=
  [(3, 0, 4, byteNumber b 3), (24, 10, 10000, wordNumber b 24), (26, 1, 1000, wordNumber b 26),
    (28, 10, 10000, wordNumber b 28), (30, 10, 10000, wordNumber b 30), (32, 1, 1000, wordNumber b 32),
    (34, 0, 63, byteNumber b 34), (35, 0, 7, byteNumber b 35), (36, 10, 1000, wordNumber b 36),
    (38, 1, 15, byteNumber b 38), (39, 1, 15, byteNumber b 39), (44, 0, 2000, wordNumber b 44),
    (46, 1, 50000, wordNumber b 46), (48, 1, 1000, wordNumber b 48),
    (50, 2048, 262144, wordNumber b 50 * 65536 + wordNumber b 52), (54, 1, 2000, wordNumber b 54)]

theorem setClamps_eq : setClamps (rawSetOf b).rest
    = ((fieldRanges b).filter fun x => decide (x.2.2.2 < x.2.1 ∨ x.2.2.1 < x.2.2.2)).map fun x => x.1 + 1 := by
  have fields : (rawSetOf b).rest.clampedFields
      = (fieldRanges b).map fun x => (x.1, inRange x.2.1 x.2.2.1 x.2.2.2) := by
    rw [rawSetOf_words long]
    rfl
  have outside (low high n : Nat) : (!inRange low high n) = decide (n < low ∨ high < n) := by
    rw [Bool.eq_iff_iff]
    simp only [inRange, Bool.not_eq_true', Bool.and_eq_false_iff, decide_eq_false_iff_not, Nat.not_le,
      decide_eq_true_eq]
  rw [setClamps, fields, List.filter_map, List.map_map]
  simp only [Function.comp_def, outside]

end

theorem slice_getD {b : List Byte} {i k n : Nat} (within : n < k) (inside : i + n < b.length) :
    (slice b i k).getD n 0 = b.getD (i + n) 0 := by
  have short : n < (slice b i k).length := by
    rw [slice, List.length_take, List.length_drop]
    omega
  rw [List.getD_eq_getElem _ _ short, List.getD_eq_getElem _ _ inside]
  simp only [slice, List.getElem_take, List.getElem_drop]

/-- A record without faults has a layout, a lane map and a peer mode. -/
theorem coded_of_no_faults {b : List Byte} {set : Byte} (none : setFaults set (rawSetOf b) = []) :
    set.toNat ≤ 31 ∧ (∃ l, layoutOfCode (rawSetOf b).layout = some l) ∧ (∃ p, laneMapOf (rawSetOf b).laneMap = some p)
      ∧ ∃ m, peerModeOfCode (rawSetOf b).peerMode = some m := by
  simp only [setFaults, RawSet.faults, List.append_eq_nil_iff, List.map_eq_nil_iff, ite_eq_right_iff, List.cons_ne_nil,
    imp_false, Bool.not_eq_true, Option.isNone_eq_false_iff, Nat.not_lt, Option.isSome_iff_exists] at none
  obtain ⟨number, ⟨⟨⟨layout, map⟩, -⟩, -⟩, mode⟩ := none
  exact ⟨number, layout, map, mode⟩

/-- Settles O18. -/
theorem setWriteClampsThenChecks : Obligations.SetWriteClampsThenChecks := by
  intro q set b s idle long byte word faults ranges clamps
  have faulty : faults = setFaults set (rawSetOf b) := (setFaults_eq long set).symm
  have clamped : clamps = setClamps (rawSetOf b).rest := (setClamps_eq long).symm
  have words := rawSetOf_words long
  rw [faulty, clamped]
  refine ⟨fun some => ?_, fun none n hn => ⟨(rawSetOf b).toSet, ?_, ?_⟩⟩
  · rw [exec_setWrite q set idle long, if_neg some]
  · rw [exec_setWrite q set idle long, if_pos none, indexOf_val _ n hn]
    rfl
  · obtain ⟨-, ⟨l, layout⟩, ⟨p, map⟩, ⟨m, mode⟩⟩ := coded_of_no_faults none
    have lanes (i : LaneId) : ((rawSetOf b).toSet.laneMap.get i).val = byte (4 + i.val) := by
      have eight : ((slice b 4 8).map BitVec.toNat).length = 8 := by
        rw [List.length_map, slice, List.length_take, List.length_drop, long]
        rfl
      show (((laneMapOf (rawSetOf b).laneMap).getD identityLaneMap).get i).val = _
      rw [map, Option.getD_some, laneMapOf_get eight map, show (0 : Nat) = (0 : Byte).toNat from rfl, List.getD_map,
        slice_getD i.isLt (by have := i.isLt; omega)]
    refine ⟨?_, ?_, rfl, rfl, lanes, rfl, rfl, rfl, rfl, rfl, rfl, rfl, rfl, fun i => Bank.get_tabulate _ i, ?_⟩
    · rw [RawSet.toSet, layout]
      exact layoutOfCode_code layout
    · rw [RawSet.toSet, mode]
      exact peerModeOfCode_code mode
    · simp only [RawSet.toSet]
      rw [words]
      exact ⟨rfl, rfl, rfl, rfl, rfl, rfl, rfl, rfl, rfl, rfl, rfl, rfl, rfl, rfl, rfl, rfl, rfl⟩

end Sys2Proof.Machine
end

section
/-! PROOFS. Layouts: bytes as a run of fields, and the fields they spell at their offsets (R168). -/

set_option Elab.async false

namespace Sys2Proof.Machine

/-! ### Bytes as a run of fields -/

/-- The bytes of a run of fields, each a width and a number. -/
def rendered (fields : List (Nat × Nat)) : List Byte := fields.flatMap fun f => bytesOf f.1 f.2

/-- The field that begins `o` bytes into a run. -/
def fieldIn : List (Nat × Nat) → Nat → Option (Nat × Nat)
  | [], _ => none
  | f :: _, 0 => some f
  | f :: rest, o + 1 => bif f.1.ble (o + 1) then fieldIn rest (o + 1 - f.1) else none

theorem rendered_cons (f : Nat × Nat) (rest : List (Nat × Nat)) :
    rendered (f :: rest) = bytesOf f.1 f.2 ++ rendered rest := rfl

theorem rendered_append (x y : List (Nat × Nat)) : rendered (x ++ y) = rendered x ++ rendered y := List.flatMap_append

theorem rendered_length (fields : List (Nat × Nat)) : (rendered fields).length = (fields.map Prod.fst).sum := by
  simp [rendered, List.length_flatMap]

/-- The field that begins `o` bytes into a run is spelt there. -/
theorem spells_fieldIn {fields : List (Nat × Nat)} {o : Nat} {f : Nat × Nat} (found : fieldIn fields o = some f) :
    Spells (rendered fields) [(o, f.1, f.2)] := by
  induction fields generalizing o with
  | nil => cases found
  | cons g rest ih =>
    rw [rendered_cons]
    cases o with
    | zero =>
      obtain rfl : g = f := Option.some.inj found
      have whole := Spells.whole (bytesOf g.1 g.2) g.2 (by rw [numberOf_bytesOf, bytesOf_length])
      rw [bytesOf_length] at whole
      exact whole.append_left _ (by simp)
    | succ o =>
      rw [fieldIn] at found
      cases inside : g.1.ble (o + 1) with
      | false => simp [inside] at found
      | true =>
        rw [inside, cond_true] at found
        have later := (ih found).append_right (bytesOf g.1 g.2)
        rw [bytesOf_length, List.map_cons, List.map_nil, Nat.sub_add_cancel (Nat.le_of_ble_eq_true inside)] at later
        exact later

/-- Bytes that are a run of fields spell every field that stands in the run at its offset. -/
theorem Spells.of_rendered {b : List Byte} {fields : List (Nat × Nat)} {named : List (Nat × Nat × Nat)}
    (run : b = rendered fields) (stand : named.map (fun f => fieldIn fields f.1) = named.map fun f => some f.2) :
    Spells b named := by
  intro f hf
  have found : fieldIn fields f.1 = some f.2 := List.map_inj_left.mp stand f hf
  rw [run]
  exact spells_fieldIn found f (List.mem_singleton_self _)

/-- Whether the fields of a run take `n` bytes. -/
def spans : List (Nat × Nat) → Nat → Bool
  | [], n => n == 0
  | _ :: _, 0 => false
  | f :: rest, n + 1 => f.1.ble (n + 1) && spans rest (n + 1 - f.1)

theorem length_of_rendered {b : List Byte} {fields : List (Nat × Nat)} {n : Nat} (run : b = rendered fields)
    (sum : spans fields n = true) : b.length = n := by
  subst run
  induction fields generalizing n with
  | nil => exact (beq_iff_eq.mp sum).symm
  | cons f rest ih =>
    cases n with
    | zero => cases sum
    | succ n =>
      obtain ⟨within, tail⟩ := Bool.and_eq_true_iff.mp sum
      have := Nat.le_of_ble_eq_true within
      rw [rendered_cons, List.length_append, bytesOf_length, ih tail]
      omega

/-! ### Fields of each kind -/

theorem bytesOf_one (n : Nat) : bytesOf 1 n = [byteOf n] := by
  simp [bytesOf]

theorem byteOf_toNat (x : Byte) : byteOf x.toNat = x := BitVec.ofNat_toNat ..

theorem markByte_eq (b : Bool) : markByte b = byteOf b.toNat := by
  cases b <;> rfl

theorem numberOf_lt (b : List Byte) : numberOf b < 256 ^ b.length := by
  induction b with
  | nil => simp
  | cons x rest ih =>
    have := x.isLt
    rw [numberOf_cons, List.length_cons, Nat.pow_succ]
    nlinarith

/-- What stands above the room of `k` bytes does not show in them. -/
theorem bytesOf_above (k a m : Nat) : bytesOf k (a * 256 ^ k + m) = bytesOf k m := by
  induction k generalizing a with
  | zero => rfl
  | succ k ih =>
    have shifted : a * 256 ^ (k + 1) + m = a * 256 * 256 ^ k + m := by rw [Nat.pow_succ]; ring
    rw [shifted, bytesOf, bytesOf, ih]
    congr 1
    rw [Nat.add_comm, Nat.add_mul_div_right _ _ (Nat.pow_pos (by decide))]
    apply BitVec.eq_of_toNat_eq
    simp only [byteOf, BitVec.toNat_ofNat]
    omega

/-- Bytes are the number they spell, written in their room. -/
theorem bytesOf_numberOf (b : List Byte) : bytesOf b.length (numberOf b) = b := by
  induction b with
  | nil => rfl
  | cons x rest ih =>
    have small := numberOf_lt rest
    rw [numberOf_cons, List.length_cons, bytesOf, bytesOf_above, ih]
    congr 1
    rw [Nat.add_comm, Nat.add_mul_div_right _ _ (Nat.pow_pos (by decide)), Nat.div_eq_of_lt small, Nat.zero_add]
    exact byteOf_toNat x

theorem bytesOf_eq_of_number {k n : Nat} {b : List Byte} (long : b.length = k) (number : numberOf b = n) :
    bytesOf k n = b := by
  rw [← long, ← number, bytesOf_numberOf]

theorem bytes16_eq (w : BitVec 16) : bytes16 w = bytesOf 2 w.toNat := (bytesOf_eq_of_number rfl (numberOf_bytes16 w)).symm
theorem bytes32_eq (w : BitVec 32) : bytes32 w = bytesOf 4 w.toNat := (bytesOf_eq_of_number rfl (numberOf_bytes32 w)).symm
theorem bytes48_eq (w : MacAddress) : bytes48 w = bytesOf 6 w.toNat :=
  (bytesOf_eq_of_number rfl (numberOf_bytes48 w)).symm

theorem Bank.items_eq {n : Nat} {α : Type} (b : Bank n α) : b.items = (List.finRange n).map b.get := by
  refine List.ext_getElem (by simp [b.size]) fun i h1 h2 => ?_
  simp [Bank.get]

theorem replicate_zero (n : Nat) : List.replicate n (0 : Byte) = rendered (List.replicate n (1, 0)) := by
  induction n with
  | zero => rfl
  | succ n ih => rw [List.replicate_succ, List.replicate_succ, rendered_cons, ih, bytesOf_one]; rfl

/-! ### Small layouts -/

theorem State.deviceBytes_eq (s : State) : s.deviceBytes = rendered
    [(1, s.engaged.toNat), (1, s.table.mode.code), (2, s.table.entries.length),
      (1, s.table.fault.isSome.toNat), (1, (s.table.fault.map (·.1)).getD 0), (1, (s.table.fault.map (·.2.val)).getD 0),
      (2, s.poolFree), (1, s.poolLow.toNat), (1, s.management.queue.length), (6, s.settings.managementAddress.toNat),
      (2, s.settings.managementType.toNat)] := by
  have fault : faultBytes s.table.fault = [byteOf s.table.fault.isSome.toNat,
      byteOf ((s.table.fault.map (·.1)).getD 0), byteOf ((s.table.fault.map (·.2.val)).getD 0)] := by
    cases s.table.fault <;> rfl
  simp only [State.deviceBytes, fault, markByte_eq, bytes48_eq, bytes16_eq, rendered_cons, bytesOf_one, List.append_assoc,
    List.cons_append, List.nil_append]
  simp [rendered]

theorem faultBytes_eq (f : Option (Nat × CageId)) : faultBytes f
    = rendered [(1, f.isSome.toNat), (1, (f.map (·.1)).getD 0), (1, (f.map (·.2.val)).getD 0)] := by
  cases f <;> simp [faultBytes, rendered, bytesOf_one] <;> rfl

theorem Counters.bytes_eq (c : Counters) : c.bytes = rendered
    ([(4, c.parked), (4, c.replayed), (4, c.losses)] ++ (List.finRange 9).map fun n => (4, c.discards.get n)) := by
  rw [Counters.bytes, Bank.items_eq]
  simp [rendered, List.flatMap_map]

theorem discardBytes_eq (d : Option DiscardRecord) : discardBytes d = rendered
    [(1, d.isSome.toNat), (1, (d.map (·.reason.code)).getD 0), (1, (d.map (·.link.val)).getD 0),
      (1, (d.map fun x => (x.cls.map Fin.val).getD 0xFF).getD 0), (2, (d.map (·.length)).getD 0),
      (4, (d.map (·.stamp.toNat)).getD 0)] := by
  cases d with
  | none => rfl
  | some d =>
    have cls : (d.cls.map fun k => byteOf k.val).getD 0xFF = byteOf ((d.cls.map Fin.val).getD 0xFF) := by
      cases d.cls <;> rfl
    simp only [discardBytes, cls, bytes32_eq]
    simp [rendered, bytesOf_one]
    rfl

/-- The numbers of a peer identity in its record (R168). -/
def peerNumbers (p : Option PeerIdentity) : List (Nat × Nat) :=
  [(1, p.isSome.toNat), (6, (p.map (·.address.toNat)).getD 0), (1, (p.map (·.cage.val)).getD 0),
    (1, (p.map (·.slot.val)).getD 0)]

theorem peerBytes_eq (p : Option PeerIdentity) : peerBytes p = rendered (peerNumbers p) := by
  cases p with
  | none => rfl
  | some p =>
    simp only [peerBytes, Option.map_some, Option.getD_some, PeerIdentity.bytes, bytes48_eq, markByte_eq, peerNumbers]
    simp [rendered, bytesOf_one]

theorem heardBytes_eq (h : Option HeardPeer) : heardBytes h
    = rendered (peerNumbers (h.map HeardPeer.identity) ++ [(2, (h.map (·.epoch.toNat)).getD 0)]) := by
  rw [rendered_append, ← peerBytes_eq]
  cases h with
  | none => rfl
  | some h =>
    simp only [heardBytes, peerBytes, Option.map_some, Option.getD_some, bytes16_eq]
    simp [rendered]
    rfl

theorem bytesOf_mod (k n : Nat) : bytesOf k (n % 256 ^ k) = bytesOf k n := by
  conv_rhs => rw [← Nat.div_add_mod' n (256 ^ k), bytesOf_above]

theorem ProfileEntry.bytes_eq (e : ProfileEntry) : e.bytes = rendered
    [(4, e.key.toNat), (4, e.width * 2 ^ 21 + e.setIndex.val * 2 ^ 16 + e.cageSet.toNat), (1, (!e.intact).toNat)] := by
  have attr : bytes32 e.attr = bytesOf 4 (e.width * 2 ^ 21 + e.setIndex.val * 2 ^ 16 + e.cageSet.toNat) := by
    rw [bytes32_eq, ProfileEntry.attr, BitVec.toNat_ofNat]
    exact bytesOf_mod 4 _
  rw [ProfileEntry.bytes, attr, bytes32_eq, markByte_eq]
  simp [rendered, bytesOf_one]

/-! ### Bits (R168) -/

theorem foldl_bits (f : Nat → Bool) (l : List Nat) (a : Nat) :
    l.foldl (fun n i => if f i then n + 2 ^ i else n) a = a + (l.map fun i => if f i then 2 ^ i else 0).sum := by
  induction l generalizing a with
  | nil => simp
  | cons i rest ih =>
    rw [List.foldl_cons, ih, List.map_cons, List.sum_cons]
    split <;> omega

/-- One bit for each thing of a bank. -/
theorem bitsByte_eq {k : Nat} (h : 0 < k) (f : Fin k → Bool) : bitsByte k (fun n => f (indexOf k n h)) = byteOf (bitsOf f) := by
  have index (i : Fin k) : indexOf k i.val h = i := indexOf_val h i rfl
  rw [bitsByte, foldl_bits, ← List.map_coe_finRange_eq_range, List.map_map, Nat.zero_add, bitsOf]
  simp only [Function.comp_def, index]

theorem recordBits_eq (r : CageRecord) :
    bitsByte 8 (fun n => if n = 0 then r.valid else 4 ≤ n && r.seeded.get (indexOf 4 (n - 4)))
      = byteOf (r.valid.toNat + 16 * bitsOf r.seeded.get) := by
  have every (v a b c d : Bool) : bitsByte 8 (fun n => if n = 0 then v else
        4 ≤ n && (if n = 4 then a else if n = 5 then b else if n = 6 then c else d))
      = byteOf (v.toNat + 16 * ((if a then 1 else 0) + ((if b then 2 else 0) + ((if c then 4 else 0)
        + ((if d then 8 else 0) + 0))))) := by
    revert v a b c d
    decide
  exact every r.valid (r.seeded.get 0) (r.seeded.get 1) (r.seeded.get 2) (r.seeded.get 3)

/-- A list filled up to `k` things. -/
theorem append_replicate_eq {α : Type} (l : List α) (k : Nat) (d : α) (short : l.length ≤ k) :
    l ++ List.replicate (k - l.length) d = (List.range k).map fun n => l[n]?.getD d := by
  refine List.ext_getElem (by simp; omega) fun i h1 h2 => ?_
  simp only [List.length_map, List.length_range] at h2
  by_cases inside : i < l.length
  · simp [List.getElem_append_left inside, inside]
  · simp [List.getElem_append_right (Nat.le_of_not_lt inside), inside]

theorem rendered_single {α : Type} (f : α → Nat) (l : List α) :
    rendered (l.map fun x => (1, f x)) = l.map fun x => byteOf (f x) := by
  simp only [rendered, List.flatMap_map, bytesOf_one]
  exact List.map_eq_flatMap.symm

theorem laneMapInUseBytes_eq (m : Option (List LaneConnection)) (short : (m.getD []).length ≤ 8) :
    laneMapInUseBytes m = rendered ((1, m.isSome.toNat) :: (List.range 8).map fun n => (1, ((m.getD [])[n]?.map fun x =>
      x.lane.val + 16 * x.receiveInverted.toNat + 32 * x.transmitInverted.toNat).getD 0)) := by
  unfold laneMapInUseBytes
  generalize m.getD [] = ls at short
  have lanes := append_replicate_eq (ls.map fun l =>
    byteOf (l.lane.val + 16 * l.receiveInverted.toNat + 32 * l.transmitInverted.toNat)) 8 0 (by simpa using short)
  rw [List.length_map] at lanes
  simp only [List.cons_append, lanes, markByte_eq, rendered_cons, bytesOf_one, rendered_single, List.nil_append]
  refine congrArg _ (List.map_congr_left fun n _ => ?_)
  rw [List.getElem?_map]
  cases ls[n]? <;> rfl

theorem windowBytes_eq (w : Option Window) : windowBytes w = rendered
    [(1, w.isSome.toNat), (1, (w.map (·.verdict.code)).getD 0), (1, (w.map (·.reason.code)).getD 0),
      (4, (w.map (·.codewords)).getD 0), (4, (w.map (·.corrected)).getD 0), (4, (w.map (·.uncorrectable)).getD 0)] := by
  cases w with
  | none => rfl
  | some w => simp [windowBytes, rendered, bytesOf_one]; rfl

theorem State.remainingMs_getD (s : State) (t : Timer) : (s.remainingMs t).getD 0xFFFF = s.msLeft t := by
  cases t with
  | none => rfl
  | some m =>
    rw [State.remainingMs, Option.map_some, Option.getD_some, State.msLeft]
    have unit : millisecond = 3125000 := rfl
    have part : millisecond - 1 = 3124999 := rfl
    rw [part, unit]

theorem State.timerBytes_eq (s : State) (t : Timer) : s.timerBytes t = bytesOf 2 (s.msLeft t) := by
  rw [State.timerBytes, State.remainingMs_getD]

/-! ### The composite layouts (R162, R168) -/

theorem ParameterSet.bytes_eq (p : ParameterSet) : p.bytes = rendered
    ([(1, p.layout.code), (1, p.peerMode.code), (1, p.degradedAdmission.toNat), (1, p.flagLength)]
      ++ (List.finRange 8).map (fun n => (1, (p.laneMap.get n).val))
      ++ [(1, p.receiveInversion.toNat), (1, p.transmitInversion.toNat), (1, p.readyPage.toNat), (1, p.readyOffset.toNat),
        (1, p.readyMask.toNat), (1, p.readyValue.toNat), (1, p.flagPage.toNat), (1, p.flagOffset.toNat)]
      ++ (List.finRange 4).map (fun n => (1, (p.tripMask.get n).toNat))
      ++ [(2, p.powerUpLimit), (2, p.guardInterval), (2, p.coldLimit), (2, p.warmLimit), (2, p.alignmentLimit),
        (1, p.maxSkew), (1, p.retries), (2, p.windowLength), (1, p.passRunNeeded), (1, p.failRunLimit), (2, p.allowance),
        (2, p.degradedAllowance), (2, p.holdOff), (2, p.initialRate), (2, p.rampStep), (4, p.burstSize),
        (2, p.ageLimit)]) := by
  have lanes : p.laneMap.items.map (fun n => byteOf n.val) = (List.finRange 8).map fun n => byteOf (p.laneMap.get n).val := by
    rw [Bank.items_eq, List.map_map]
    rfl
  have masks : p.tripMask.items = (List.finRange 4).map fun n => byteOf (p.tripMask.get n).toNat := by
    rw [Bank.items_eq]
    simp only [byteOf_toNat]
  rw [ParameterSet.bytes, lanes, masks]
  simp only [rendered_append, rendered_single, rendered_cons, bytesOf_one, byteOf_toNat, markByte_eq, List.append_assoc,
    List.cons_append, List.nil_append]
  simp [rendered]

/-- A setting as a signed byte. -/
theorem signExtend_eq {w : Nat} (x : BitVec w) : x.signExtend 8 = byteOf (x.toInt % 256).toNat := by
  apply BitVec.eq_of_toNat_eq
  rw [BitVec.signExtend, BitVec.toNat_ofInt, byteOf, BitVec.toNat_ofNat]
  have : (x.toInt % 256).toNat < 256 := by omega
  rw [Nat.mod_eq_of_lt this]
  rfl

theorem rendered_flatMap {α : Type} (f : α → List (Nat × Nat)) (l : List α) :
    rendered (l.flatMap f) = l.flatMap fun x => rendered (f x) := List.flatMap_assoc

theorem CageRecord.bytes_eq (r : CageRecord) : r.bytes = rendered
    ([(4, r.key.toNat), (4, r.digest.toNat), (1, r.home.val), (1, r.valid.toNat + 16 * bitsOf r.seeded.get),
        (1, r.layout.code)]
      ++ (List.finRange 8).map (fun n => (1, (r.laneMap.get n).val))
      ++ ((List.finRange 8).flatMap fun n => (List.finRange 5).map fun i =>
        (1, (((r.seeds.get n).get i).toInt % 256).toNat))
      ++ (List.finRange 4).map fun k => (1, r.skews.get k)) := by
  have lanes : r.laneMap.items.map (fun n => byteOf n.val) = (List.finRange 8).map fun n => byteOf (r.laneMap.get n).val := by
    rw [Bank.items_eq, List.map_map]
    rfl
  have seeds : r.seeds.items.flatMap (fun lane => lane.items.map (BitVec.signExtend 8))
      = (List.finRange 8).flatMap fun n => (List.finRange 5).map fun i =>
        byteOf (((r.seeds.get n).get i).toInt % 256).toNat := by
    simp only [Bank.items_eq, List.flatMap_map, List.map_map, Function.comp_def, signExtend_eq]
  have skews : r.skews.items.map byteOf = (List.finRange 4).map fun k => byteOf (r.skews.get k) := by
    rw [Bank.items_eq, List.map_map]
    rfl
  rw [CageRecord.bytes, lanes, seeds, skews, recordBits_eq]
  simp only [rendered_append, rendered_single, rendered_cons, rendered_flatMap, bytesOf_one, bytes32_eq, List.append_assoc,
    List.cons_append, List.nil_append]

/-- The fields of a link engine's state, in order (R91, R112). -/
def engineNumbers (e : LinkEngine) : List (Nat × Nat) :=
  let w := e.lastWindow
  [(1, e.recovery.code), (1, e.warm.toNat), (1, e.retryCount), (2, e.epoch.toNat), (1, e.lastFailure.code),
    (2, e.measuredSkew.getD 0xFFFF), (1, e.laneMap.isSome.toNat)]
  ++ (List.range 8).map (fun n => (1, ((e.laneMap.getD [])[n]?.map fun x =>
      x.lane.val + 16 * x.receiveInverted.toNat + 32 * x.transmitInverted.toNat).getD 0))
  ++ [(1, bitsOf e.converged.get), (1, bitsOf e.markerLock.get), (1, e.fecLock.toNat + 2 * e.lockLossTimer.isSome.toNat),
    (1, w.isSome.toNat), (1, (w.map (·.verdict.code)).getD 0), (1, (w.map (·.reason.code)).getD 0),
    (4, (w.map (·.codewords)).getD 0), (4, (w.map (·.corrected)).getD 0), (4, (w.map (·.uncorrectable)).getD 0),
    (1, e.windowTimer.isSome.toNat), (4, e.codewords), (4, e.corrected), (4, e.uncorrectable), (1, e.passRun),
    (1, e.failRun), (1, e.cleanRun), (1, e.marginal.toNat), (1, e.grade.code), (1, e.degraded.toNat)]
  ++ peerNumbers (e.heardPeer.map HeardPeer.identity) ++ [(2, (e.heardPeer.map (·.epoch.toNat)).getD 0)]

theorem State.engineBytes_eq (s : State) (j : LinkId) (short : ((s.link j).engine.laneMap.getD []).length ≤ 8) :
    s.engineBytes j = rendered (engineNumbers (s.link j).engine) := by
  unfold State.engineBytes engineNumbers
  generalize (s.link j).engine = e at short
  simp only [laneMapInUseBytes_eq _ short, windowBytes_eq, heardBytes_eq, bitsByte_eq, rendered_append, rendered_cons,
    bytesOf_one, bytes16_eq, markByte_eq, List.append_assoc, List.cons_append, List.nil_append]
  simp [rendered]

/-- The fields of a link's peer record, damping and hold unit, in order (R112, R127). -/
def holdNumbers (s : State) (j : LinkId) : List (Nat × Nat) :=
  let l := s.link j
  peerNumbers (s.memory.peers.get j) ++ [(2, l.penalty), (1, l.suppressed.toNat), (1, l.hold.service.code),
    (2, s.msLeft l.hold.holdTimer), (1, l.hold.lastLoss.code), (1, bitsOf fun k => (l.hold.paused.get k).isSome)]

theorem State.holdBytes_eq (s : State) (j : LinkId) : s.holdBytes j = rendered (holdNumbers s j) := by
  have bits := bitsByte_eq (k := 4) (by decide) fun k => ((s.link j).hold.paused.get k).isSome
  simp only [State.holdBytes, holdNumbers, peerBytes_eq, State.timerBytes_eq, bits, rendered_append, rendered_cons,
    bytesOf_one, markByte_eq, List.append_assoc, List.cons_append, List.nil_append]
  simp [rendered]

/-- The fields of a link's park store and meter, in order (R145, R157). -/
def storeNumbers (s : State) (j : LinkId) : List (Nat × Nat) :=
  let l := s.link j
  (List.finRange 4).map (fun k => (2, blocksIn (l.park.fifos.get k)))
    ++ (List.finRange 4).map (fun k => (2, (l.park.fifos.get k).length))
    ++ [(1, bitsOf l.park.critical.get), (1, bitsOf fun k => !(l.park.fifos.get k).isEmpty)]
    ++ (List.finRange 4).map (fun k => (4, ((l.park.fifos.get k).head?.map (·.stamp.toNat)).getD 0))
    ++ [(1, l.meter.mode.code), (2, l.meter.rate), (4, l.meter.tokens), (4, l.meter.burst), (2, l.meter.rateCeiling),
      (1, l.meter.degraded.toNat), (2, s.msLeft l.meter.rampTimer)]

theorem rendered_map {α : Type} (w : Nat) (f : α → Nat) (l : List α) :
    rendered (l.map fun x => (w, f x)) = l.flatMap fun x => bytesOf w (f x) := by
  simp [rendered, List.flatMap_map]

theorem State.storeBytes_eq (s : State) (j : LinkId) : s.storeBytes j = rendered (storeNumbers s j) := by
  have empty := bitsByte_eq (k := 4) (by decide) fun k => !((s.link j).park.fifos.get k).isEmpty
  have stamp (f : List ParkedFrame) : bytes32 ((f.head?.map ParkedFrame.stamp).getD 0)
      = bytesOf 4 ((f.head?.map (·.stamp.toNat)).getD 0) := by
    rw [bytes32_eq]
    cases f <;> rfl
  simp only [State.storeBytes, storeNumbers, Bank.items_eq, List.flatMap_map, stamp, empty, bitsByte_eq,
    State.timerBytes_eq, rendered_append, rendered_map, rendered_cons, bytesOf_one, markByte_eq, List.append_assoc,
    List.cons_append, List.nil_append]
  simp [rendered]

theorem State.linkBytes_eq (s : State) (j : LinkId) (short : ((s.link j).engine.laneMap.getD []).length ≤ 8) :
    s.linkBytes j = rendered (engineNumbers (s.link j).engine ++ holdNumbers s j ++ storeNumbers s j) := by
  rw [State.linkBytes, s.engineBytes_eq j short, State.holdBytes_eq, State.storeBytes_eq, rendered_append, rendered_append]

end Sys2Proof.Machine
end

section
/-! PROOFS. The requests that read (R33, R38, R73, R162, R166, R167). -/

set_option Elab.async false

namespace Sys2Proof.Machine

/-! ### What each layout spells (R168) -/

theorem State.deviceBytes_spells (s : State) : s.deviceBytes.length = 19 ∧ Spells s.deviceBytes s.deviceFields :=
  ⟨length_of_rendered s.deviceBytes_eq rfl, .of_rendered s.deviceBytes_eq rfl⟩

theorem ParameterSet.bytes_spells (p : ParameterSet) : p.bytes.length = 56 ∧ Spells p.bytes p.fields :=
  ⟨length_of_rendered p.bytes_eq rfl, .of_rendered p.bytes_eq rfl⟩

theorem CageRecord.bytes_spells (r : CageRecord) : r.bytes.length = 63 ∧ Spells r.bytes r.fields :=
  ⟨length_of_rendered r.bytes_eq rfl, .of_rendered r.bytes_eq rfl⟩

theorem Counters.bytes_spells (c : Counters) : c.bytes.length = 48 ∧ Spells c.bytes c.fields :=
  ⟨length_of_rendered c.bytes_eq rfl, .of_rendered c.bytes_eq rfl⟩

theorem discardBytes_spells (d : Option DiscardRecord) : (discardBytes d).length = 10
    ∧ Spells (discardBytes d) (discardFields d) :=
  ⟨length_of_rendered (discardBytes_eq d) rfl, .of_rendered (discardBytes_eq d) rfl⟩

theorem peerBytes_spells (p : Option PeerIdentity) : (peerBytes p).length = 9
    ∧ Spells (peerBytes p) (peerFields 0 p) :=
  ⟨length_of_rendered (peerBytes_eq p) rfl, .of_rendered (peerBytes_eq p) rfl⟩

theorem ProfileEntry.bytes_spells (e : ProfileEntry) : e.bytes.length = 9 ∧ Spells e.bytes e.fields :=
  ⟨length_of_rendered e.bytes_eq rfl, .of_rendered e.bytes_eq rfl⟩

theorem faultBytes_spells (f : Option (Nat × CageId)) : (faultBytes f).length = 3 ∧ Spells (faultBytes f)
    [(0, 1, f.isSome.toNat), (1, 1, (f.map (·.1)).getD 0), (2, 1, (f.map (·.2.val)).getD 0)] :=
  ⟨length_of_rendered (faultBytes_eq f) rfl, .of_rendered (faultBytes_eq f) rfl⟩

theorem State.linkBytes_spells (s : State) (j : LinkId) (short : ((s.link j).engine.laneMap.getD []).length ≤ 8) :
    (s.linkBytes j).length = 132 ∧ Spells (s.linkBytes j) (s.linkFields j) :=
  ⟨length_of_rendered (s.linkBytes_eq j short) rfl, .of_rendered (s.linkBytes_eq j short) rfl⟩

theorem positionBytes_spells (held : Bool) (r : Option CageRecord) : (positionBytes held r).length = 65
    ∧ Spells (positionBytes held r) [(0, 1, held.toNat), (1, 1, r.isSome.toNat)]
    ∧ (positionBytes held r).drop 2 = (r.map CageRecord.bytes).getD (List.replicate 63 0) := by
  have front : Spells [markByte held, markByte r.isSome] [(0, 1, held.toNat), (1, 1, r.isSome.toNat)] := by
    have run : [markByte held, markByte r.isSome] = rendered [(1, held.toNat), (1, r.isSome.toNat)] := by
      simp [rendered, bytesOf_one, markByte_eq]
    exact .of_rendered run rfl
  refine ⟨?_, front.append_left _ (by simp), rfl⟩
  cases r with
  | none => rfl
  | some r => simpa [positionBytes] using r.bytes_spells.1

/-- The front of a cage's bytes, before its working copy (R162, R168). -/
def State.cageNumbers (s : State) (c : CageId) : List (Nat × Nat) :=
  let m := s.cage c
  [(1, m.mode.code), (1, m.failedCause.code), (1, m.resetLine.toNat + 2 * m.lowPower.toNat), (2, m.visit.toNat),
    (1, m.identityKey.isSome.toNat), (4, (m.identityKey.getD 0).toNat), (4, (m.serialDigest.getD 0).toNat),
    (1, (s.memory.held.get c).toNat), (1, m.fabricLayout.code), (1, m.alertEnable.toNat),
    (1, m.workingCopy.isSome.toNat), (1, (m.workingCopy.map (·.1.val)).getD 0)]

/-- The working copy of a cage as bytes: 0 where it has none (R168). -/
def copyBytes : Option (SetId × ParameterSet) → List Byte
  | none => List.replicate 56 0
  | some (_, p) => p.bytes

theorem State.cageBytes_eq (s : State) (c : CageId) :
    s.cageBytes c = rendered (s.cageNumbers c) ++ copyBytes (s.cage c).workingCopy := by
  unfold State.cageBytes State.cageNumbers
  dsimp only
  simp only [rendered_cons, bytesOf_one, bytes16_eq, bytes32_eq, markByte_eq, List.append_assoc, List.cons_append,
    List.nil_append]
  generalize (s.cage c).workingCopy = copy
  cases copy with
  | none =>
    rw [List.replicate_succ]
    simp only [copyBytes, rendered, List.flatMap_nil, List.nil_append, Option.map_none, Option.getD_none]
    rfl
  | some p =>
    simp only [copyBytes, rendered, List.flatMap_nil, List.nil_append, Option.map_some, Option.getD_some]

theorem State.cageBytes_spells (s : State) (c : CageId) : (s.cageBytes c).length = 75
    ∧ Spells (s.cageBytes c) (s.cageFields c) ∧ (s.cageBytes c).drop 19 = copyBytes (s.cage c).workingCopy := by
  have front : (rendered (s.cageNumbers c)).length = 19 := by rw [rendered_length]; rfl
  have copy : (copyBytes (s.cage c).workingCopy).length = 56 := by
    cases (s.cage c).workingCopy with
    | none => rfl
    | some p => exact p.2.bytes_spells.1
  rw [s.cageBytes_eq c]
  refine ⟨by rw [List.length_append, front, copy], ?_, List.drop_left' front⟩
  have spelt : Spells (rendered (s.cageNumbers c)) (s.cageFields c) := .of_rendered rfl rfl
  refine spelt.append_left _ fun f hf => ?_
  rw [front]
  fin_cases hf <;> simp

end Sys2Proof.Machine
end

section
/-! PROOFS. The requests that read, answered (R33, R38, R73, R162, R166, R167). -/

set_option Elab.async false

namespace Sys2Proof.Machine

/-! ### The reading requests -/

section
variable {q : Requester} {s : State}

/-- A request that names a thing by its number: refused beyond the range, and answered with the thing's bytes within. -/
theorem serve_named {i : Instr} {code : Byte} {body : List Byte} {n top : Nat} (h : 0 < top + 1)
    (bytes : State → Fin (top + 1) → List Byte)
    (parts : requestParts i = some (q, code, body)) (idle : s.engineIdle)
    (same : ∀ m t, bytes (State.withEngine m t) = bytes t) (wf : i.WellFormed := by rfl) :
    (top < n → serve i (fun t => if top < n then t.respond .badArgument
        else t.respond .done [] (bytes t (indexOf (top + 1) n h))) s = .next (s.answered q code .badArgument [] []))
    ∧ ∀ x : Fin (top + 1), x.val = n → serve i (fun t => if top < n then t.respond .badArgument
        else t.respond .done [] (bytes t (indexOf (top + 1) n h))) s = .next (s.answered q code .done [] (bytes s x)) := by
  constructor
  · intro beyond
    exact serve_refused .badArgument [] [] parts idle (fun m => if_pos beyond) wf
  · intro x named
    refine serve_refused .done [] _ parts idle (fun m => ?_) wf
    rw [if_neg (by omega), same, indexOf_val h x named]

theorem exec_readStateDevice (idle : s.engineIdle) :
    exec (.readStateDevice q) s = .next (s.answered q 0x01 .done [] s.deviceBytes) := by
  have waiting (r : Request) : (s.executing r).deviceBytes = s.deviceBytes := by
    obtain ⟨_, queue⟩ := idle
    simp only [State.deviceBytes, State.executing, State.updManagement, queue]
  refine (serve_parts (fun t => t.respond .done [] t.deviceBytes) (i := .readStateDevice q) rfl idle).trans ?_
  refine congrArg (fun t => Host.Outcome.next (State.settle t)) ?_
  rw [waiting]
  exact respond_idle id _ .done [] s.deviceBytes s idle rfl rfl

theorem State.forEach_updCounters (s : State) (l : List LinkId) :
    Touches Anywhere [.counters] s (s.forEach (fun j => State.updCounters j fun _ => zeroCounters) l) :=
  .forEach (l := l) fun _ _ t => touches_updCounters trivial _ t

theorem State.counterBytes_singleton (s : State) (j : LinkId) : s.counterBytes [j] = byteOf j.val :: (s.link j).counters.bytes :=
  List.append_nil _

/-- READ-COUNTERS, by the links it names (R166). -/
theorem exec_readCounters {x : Byte} {js : List LinkId} (idle : s.engineIdle) (named : linksNamed x = some js) :
    exec (.readCounters q x) s = .next
      ((s.forEach (fun j => State.updCounters j fun _ => zeroCounters) js).answered q 0x02 .done [] (s.counterBytes js)) := by
  show execReadCounters q x s = _
  unfold execReadCounters
  refine serve_answered (State.forEach (fun j => State.updCounters j fun _ => zeroCounters) js) .done [] _ rfl idle
    (fun m t => State.forEach_withEngine (f := fun j => State.updCounters j fun _ => zeroCounters) (fun _ _ => rfl) js t) (fun m => ?_)
  rw [named]
  rfl

/-- The front of a TABLE-READ's data and what follows it (R33, R168). -/
theorem exec_tableRead (start : BitVec 16) (x : Byte) (idle : s.engineIdle) :
    exec (.tableRead q start x) s = .next
      (if s.table.entries.length < start.toNat then s.answered q 0x25 .badArgument [] []
       else if 64 < x.toNat ∨ s.table.entries.length < start.toNat + x.toNat then
         s.answered q 0x25 .adjusted [2] (s.table.readBytes start.toNat (min 64 (s.table.entries.length - start.toNat)))
       else s.answered q 0x25 .done [] (s.table.readBytes start.toNat x.toNat)) := by
  have asked : (decide (readLimit < x.toNat) || decide (s.table.entries.length < start.toNat + x.toNat)) = true
      ↔ 64 < x.toNat ∨ s.table.entries.length < start.toNat + x.toNat :=
    Bool.or_eq_true_iff.trans (or_congr decide_eq_true_iff decide_eq_true_iff)
  show execTableRead q start x s = _
  unfold execTableRead
  split
  case isTrue beyond => exact serve_refused .badArgument [] [] rfl idle fun m => if_pos beyond
  case isFalse within =>
    split
    case isTrue much =>
      exact serve_refused .adjusted [2] _ rfl idle fun m => (if_neg within).trans (if_pos (asked.mpr much))
    case isFalse fits =>
      exact serve_refused .done [] _ rfl idle fun m => (if_neg within).trans (if_neg (mt asked.mp fits))

theorem State.updCounters_at (s : State) (j : LinkId) (f : Counters → Counters) :
    s.updCounters j f = { s with links := s.links.set j { s.link j with counters := f (s.link j).counters } } := rfl

theorem linksNamed_all : linksNamed 0xFF = some allLinks := rfl

theorem linksNamed_one {x : Byte} {j : LinkId} (named : j.val = x.toNat) : linksNamed x = some [j] := by
  have small := j.isLt
  have other : x ≠ 0xFF := by
    rintro rfl
    exact absurd named (by simp; omega)
  rw [linksNamed, if_neg other, if_pos (by omega), indexOf_val (by decide) j named]

theorem linksNamed_none {x : Byte} (beyond : 63 < x.toNat) (other : x ≠ 0xFF) : linksNamed x = none := by
  rw [linksNamed, if_neg other, if_neg (by omega)]

end

/-- Settles O11: each reply holds the bytes of what it reads, as its request's rule has them, and each layout is a run of
fields, so that it spells every field at its offset. -/
theorem readsAnswerWithTheState : Obligations.ReadsAnswerWithTheState := by
  refine ⟨fun q x start s idle => ?_, fun q x s idle => ?_, ?_⟩
  · have cage := serve_named (i := .readStateCage q x) (q := q) (s := s) (n := x.toNat) (top := 15) (by decide)
      State.cageBytes rfl idle fun _ _ => rfl
    have link := serve_named (i := .readStateLink q x) (q := q) (s := s) (n := x.toNat) (top := 63) (by decide)
      State.linkBytes rfl idle fun _ _ => rfl
    have set := serve_named (i := .setRead q x) (q := q) (s := s) (n := x.toNat) (top := 31) (by decide)
      (fun t n => (t.sets.get n).bytes) rfl idle fun _ _ => rfl
    have peers : s.memory.peersBytes = allLinks.flatMap fun j => peerBytes (s.memory.peers.get j) := by
      rw [RecoveryMemory.peersBytes, Bank.items_eq, List.flatMap_map]
      rfl
    refine ⟨exec_readStateDevice idle, cage.1, cage.2, link.1, link.2, set.1, set.2, ?_, ?_, ?_, exec_tableRead start x idle⟩
    · show execReadMemoryCageRecords q s = _
      exact serve_refused .done [] s.memory.positionsBytes rfl idle fun _ => rfl
    · show execReadMemoryCache q s = _
      exact serve_refused .done [] s.memory.cacheBytes rfl idle fun _ => rfl
    · rw [← peers]
      show execReadMemoryPeerRecords q s = _
      exact serve_refused .done [] s.memory.peersBytes rfl idle fun _ => rfl
  · refine ⟨fun beyond other => ?_, fun j named => ?_, ⟨_, exec_readCounters idle linksNamed_all, ?_, ?_⟩, ?_⟩
    · show execReadCounters q x s = _
      refine serve_refused .badArgument [] [] rfl idle fun m => ?_
      rw [linksNamed_none beyond other]
    · rw [exec_readCounters idle (linksNamed_one named), State.counterBytes_singleton, State.forEach_cons, State.forEach_nil,
        State.updCounters_at]
      refine congrArg (fun b => Host.Outcome.next (State.answered q 0x02 .done [] (b :: _) _)) ?_
      rw [byteOf, named, BitVec.ofNat_toNat]
      rfl
    · exact (s.forEach_updCounters allLinks).eq
    · exact State.forEach_updLink (fun l => { l with counters := zeroCounters }) s
    · show execReadDiscards q s = _
      exact serve_answered (fun t => { t with slotA := none, slotB := none }) .done []
        (discardBytes s.slotA ++ discardBytes s.slotB) rfl idle (fun _ _ => rfl) fun _ => rfl
  · refine ⟨State.deviceBytes_spells, fun s c => ?_, State.linkBytes_spells, ParameterSet.bytes_spells,
      positionBytes_spells, CageRecord.bytes_spells, Counters.bytes_spells, discardBytes_spells, peerBytes_spells,
      ProfileEntry.bytes_spells, faultBytes_spells, rfl, rfl, rfl, rfl, rfl, rfl, rfl, rfl, rfl, rfl, rfl, rfl, rfl, rfl⟩
    exact s.cageBytes_spells c

end Sys2Proof.Machine
end

section
/-! PROOFS. Snapshot channels and the pending set: how an event is offered (R170, R171, R176 to R178). -/

set_option Elab.async false

namespace Sys2Proof.Machine

/-! ### A capture (R177, R178) -/

theorem Channel.captured_more {c : Channel} (more : 1 < c.remaining) (r : SnapshotRecord) : c.captured r = { c with
    sequence := c.sequence + 1
    slot := some r
    superseded := if c.slot = none then c.superseded else min 255 (c.superseded + 1)
    remaining := c.remaining - 1 } := by
  rw [Channel.captured, if_neg (Nat.not_le_of_lt more)]
  cases c.slot <;> rfl

theorem Channel.captured_last {c : Channel} (last : c.remaining ≤ 1) (r : SnapshotRecord) : c.captured r = { c with
    sequence := c.sequence + 1
    slot := some r
    superseded := if c.slot = none then c.superseded else min 255 (c.superseded + 1)
    remaining := c.remaining - 1
    armed := false, trigger := none, seriesLink := none, mode := .single } := by
  rw [Channel.captured, if_pos last]
  cases c.slot <;> rfl

section
variable {s : State} {h : ChannelId}

theorem State.capture_more (armed : (s.channel h).armed = true) (more : 1 < (s.channel h).remaining) (k : EventKind)
    (n : Nat) : s.capture h k n = (s.updChannel h fun c => c.captured (s.captureRecord h k n), none) := by
  refine Prod.ext rfl (if_pos ?_)
  rw [State.channel_updChannel_self, Channel.captured_more more]
  exact armed

theorem State.capture_last (last : (s.channel h).remaining ≤ 1) (k : EventKind) (n : Nat) : s.capture h k n
    = (s.updChannel h fun c => c.captured (s.captureRecord h k n), some ⟨.snapshotDone, h.val, 0⟩) := by
  refine Prod.ext rfl (if_neg ?_)
  rw [State.channel_updChannel_self, Channel.captured_last last]
  exact Bool.false_ne_true

theorem State.updChannel_captured_more (more : 1 < (s.channel h).remaining) (r : SnapshotRecord) :
    s.updChannel h (fun c => c.captured r) = { s with channels := s.channels.set h { s.channel h with
      sequence := (s.channel h).sequence + 1
      slot := some r
      superseded := if (s.channel h).slot = none then (s.channel h).superseded else min 255 ((s.channel h).superseded + 1)
      remaining := (s.channel h).remaining - 1 } } := by
  rw [← Channel.captured_more more r]
  rfl

theorem State.updChannel_captured_last (last : (s.channel h).remaining ≤ 1) (r : SnapshotRecord) :
    s.updChannel h (fun c => c.captured r) = { s with channels := s.channels.set h { s.channel h with
      sequence := (s.channel h).sequence + 1
      slot := some r
      superseded := if (s.channel h).slot = none then (s.channel h).superseded else min 255 ((s.channel h).superseded + 1)
      remaining := (s.channel h).remaining - 1
      armed := false, trigger := none, seriesLink := none, mode := .single } } := by
  rw [← Channel.captured_last last r]
  rfl

/-- A claim that raises SNAPSHOT-DONE has disarmed its channel. -/
theorem State.claim_done {t : State} {k : EventKind} {n : Nat} {done : Event} (claim : s.claim h k n = (t, some done)) :
    (t.channel h).armed = false ∧ ∀ i, h ≠ i → t.channel i = s.channel i := by
  unfold State.claim State.capture at claim
  split at claim
  · obtain ⟨rfl, raised⟩ := Prod.mk.inj claim
    refine ⟨?_, fun i n => State.channel_updChannel_ne h i _ s n⟩
    split at raised
    · cases raised
    · next disarmed => exact Bool.eq_false_iff.mpr disarmed
  · split at claim <;> cases (Prod.mk.inj claim).2

/-! ### Who claims (R176) -/

/-- The number of armed channels. -/
def State.armedChannels (s : State) : Nat := (Finset.univ.filter fun h => (s.channel h).armed = true).card

theorem State.armedChannels_le (s : State) : s.armedChannels ≤ 4 := (Finset.card_filter_le _ _).trans_eq (by decide)

theorem State.armedChannels_lt {t : State} (armed : (s.channel h).armed = true) (disarmed : (t.channel h).armed = false)
    (others : ∀ i, h ≠ i → t.channel i = s.channel i) : t.armedChannels < s.armedChannels := by
  refine Finset.card_lt_card ⟨fun i inT => ?_, fun back => ?_⟩
  · have armedT : (t.channel i).armed = true := (Finset.mem_filter.mp inT).2
    have other : h ≠ i := by
      rintro rfl
      exact nomatch disarmed.symm.trans armedT
    exact Finset.mem_filter.mpr ⟨Finset.mem_univ i, others i other ▸ armedT⟩
  · have inT := back (Finset.mem_filter.mpr ⟨Finset.mem_univ h, armed⟩)
    exact nomatch disarmed.symm.trans (Finset.mem_filter.mp inT).2

theorem find_finRange_eq_some {n : Nat} {p : Fin n → Bool} {h : Fin n} (here : p h = true)
    (before : ∀ i, i < h → p i = false) : (List.finRange n).find? p = some h := by
  refine List.find?_eq_some_iff_getElem.mpr ⟨here, h.val, by simp, by simp, fun i before_h => ?_⟩
  simp only [List.getElem_finRange, Bool.not_eq_true', Fin.cast_mk]
  exact before _ before_h

theorem Channel.isFor_iff (c : Channel) (k : EventKind) (n : Nat) : c.isFor k n = true
    ↔ c.armed = true ∧ ∃ t, c.trigger = some t ∧ t.kind = k ∧ (t.source = none ∨ t.source = some n) := by
  unfold Channel.isFor
  cases c.trigger <;> simp

theorem State.claimant_eq_some {k : EventKind} {n : Nat} (here : (s.channel h).isFor k n = true)
    (before : ∀ i, i < h → ¬ (s.channel i).isFor k n = true) : s.claimant k n = some h :=
  find_finRange_eq_some here fun i hi => Bool.eq_false_iff.mpr (before i hi)

theorem State.claimant_eq_none {k : EventKind} {n : Nat} (nobody : ∀ h, ¬ (s.channel h).isFor k n = true) :
    s.claimant k n = none :=
  List.find?_eq_none.mpr fun h _ => nobody h

theorem State.claimant_isFor {k : EventKind} {n : Nat} (claims : s.claimant k n = some h) :
    (s.channel h).isFor k n = true :=
  List.find?_some (p := fun h => (s.channel h).isFor k n) claims

/-! ### An event, offered (R170, R176, R178) -/

theorem State.offer_zero (e : Event) (s : State) : s.offer 0 e = s.noticeEvent e := rfl

theorem State.offer_unclaimed {e : Event} (n : Nat) (nobody : s.claimant e.kind e.source = none) :
    s.offer n e = s.noticeEvent e := by
  cases n with
  | zero => rfl
  | succ n => rw [State.offer, nobody]

theorem State.offer_claimed {t : State} {e : Event} (n : Nat) (claims : s.claimant e.kind e.source = some h)
    (quiet : s.claim h e.kind e.source = (t, none)) : s.offer (n + 1) e = t := by
  rw [State.offer, claims]
  simp only [quiet]

theorem State.offer_done {t : State} {e done : Event} (n : Nat) (claims : s.claimant e.kind e.source = some h)
    (disarms : s.claim h e.kind e.source = (t, some done)) : s.offer (n + 1) e = t.offer n done := by
  rw [State.offer, claims]
  simp only [disarms]

/-- As many turns as channels are armed are enough for an event. -/
theorem State.offer_more {n : Nat} (e : Event) {s : State} (enough : s.armedChannels ≤ n) :
    s.offer (n + 1) e = s.offer n e := by
  induction n generalizing e s with
  | zero =>
    refine s.offer_unclaimed 1 (s.claimant_eq_none fun h claims => ?_)
    have armed := ((Channel.isFor_iff _ _ _).mp claims).1
    have none_armed := Finset.card_eq_zero.mp (Nat.le_zero.mp enough)
    exact Finset.notMem_empty h (none_armed ▸ Finset.mem_filter.mpr ⟨Finset.mem_univ h, armed⟩)
  | succ n ih =>
    cases claims : s.claimant e.kind e.source with
    | none => rw [s.offer_unclaimed _ claims, s.offer_unclaimed _ claims]
    | some h =>
      rcases claim : s.claim h e.kind e.source with ⟨t, _ | done⟩
      · rw [s.offer_claimed _ claims claim, s.offer_claimed _ claims claim]
      · obtain ⟨disarmed, others⟩ := State.claim_done claim
        have fewer := State.armedChannels_lt ((Channel.isFor_iff _ _ _).mp (State.claimant_isFor claims)).1 disarmed others
        rw [s.offer_done _ claims claim, s.offer_done _ claims claim, ih done (by omega)]

theorem State.offerEvent_unclaimed {e : Event} (nobody : s.claimant e.kind e.source = none) :
    s.offerEvent e = s.noticeEvent e := s.offer_unclaimed 4 nobody

theorem State.offerEvent_claimed {t : State} {e : Event} (claims : s.claimant e.kind e.source = some h)
    (quiet : s.claim h e.kind e.source = (t, none)) : s.offerEvent e = t := s.offer_claimed 3 claims quiet

/-- A SNAPSHOT-DONE that a claim raises is offered at once (log 7). -/
theorem State.offerEvent_done {t : State} {e done : Event} (claims : s.claimant e.kind e.source = some h)
    (disarms : s.claim h e.kind e.source = (t, some done)) : s.offerEvent e = t.offerEvent done := by
  obtain ⟨disarmed, others⟩ := State.claim_done disarms
  have fewer := State.armedChannels_lt ((Channel.isFor_iff _ _ _).mp (State.claimant_isFor claims)).1 disarmed others
  have most := s.armedChannels_le
  exact (s.offer_done 3 claims disarms).trans (State.offer_more done (by omega)).symm

end

/-! ### The pending set (R170, R171) -/

/-- The entry of a kind and source, with an event counted in it. -/
def Event.countedIn (e : Event) (x : PendingEntry) : PendingEntry :=
  if x.kind = e.kind ∧ x.source = e.source then { x with detail := e.detail, count := min 255 (x.count + 1) } else x

section
variable {e : Event} {s : State}

theorem State.noticeEvent_silent (level : s.notices.levels.get e.kind.place = 0) : s.noticeEvent e = s := if_pos level

theorem State.noticeEvent_counted (level : s.notices.levels.get e.kind.place ≠ 0)
    (twin : ∃ x ∈ s.notices.entries, x.kind = e.kind ∧ x.source = e.source) : s.noticeEvent e
      = { s with notices := { s.notices with entries := s.notices.entries.map e.countedIn } } := by
  rw [State.noticeEvent, if_neg level, if_pos (by simpa using twin)]
  simp only [State.updNotices, Bool.and_eq_true, decide_eq_true_eq]
  rfl

theorem State.noticeEvent_new (level : s.notices.levels.get e.kind.place ≠ 0)
    (fresh : ∀ x ∈ s.notices.entries, ¬ (x.kind = e.kind ∧ x.source = e.source)) : s.noticeEvent e = { s with
      notices := { s.notices with entries := s.notices.entries ++ [⟨e.kind, e.source, e.detail, 1⟩] }
      links := if e.kind = .discard then
          s.links.set (indexOf 64 e.source) { s.link (indexOf 64 e.source) with discardMark := true }
        else s.links } := by
  rw [State.noticeEvent, if_neg level, if_neg (by simpa using fresh)]
  simp only
  split <;> rfl

end

/-- Settles O53: a channel claims by `claim`, whose SNAPSHOT-DONE meets at most the other channels; what none claims the
notice unit takes by its level. -/
theorem pendingSetTakesEvents : Obligations.PendingSetTakesEvents := by
  intro e s matching level twin counted
  have isFor (h : ChannelId) : (s.channel h).isFor e.kind e.source = true ↔ matching h := Channel.isFor_iff _ _ _
  refine ⟨fun nobody => ?_, fun h claims before => ?_⟩
  · have unclaimed := State.offerEvent_unclaimed (State.claimant_eq_none fun h => mt (isFor h).mp (nobody h))
    rw [unclaimed]
    exact ⟨State.noticeEvent_silent, State.noticeEvent_counted, State.noticeEvent_new⟩
  · have claimant := State.claimant_eq_some ((isFor h).mpr claims) fun i hi => mt (isFor i).mp (before i hi)
    refine ⟨fun single more => ?_, fun single last => ?_, fun series free => ?_, fun series taken => ?_⟩
    · have claim := State.capture_more claims.1 more e.kind e.source
      rw [State.offerEvent_claimed claimant (by rw [State.claim, single]; exact claim),
        State.updChannel_captured_more more]
      rfl
    · have claim := State.capture_last last e.kind e.source
      rw [State.offerEvent_done claimant (by rw [State.claim, single]; exact claim),
        State.updChannel_captured_last last]
      rfl
    · rw [State.offerEvent_claimed claimant (by rw [State.claim, series]; exact if_neg (by simp [free]))]
      rfl
    · exact State.offerEvent_claimed claimant (by rw [State.claim, series]; exact if_pos (Option.isSome_iff_ne_none.mpr taken))

end Sys2Proof.Machine
end

section
/-! PROOFS. The end of a step (R170 to R172, R176 to R179; log 7). -/

set_option Elab.async false

namespace Sys2Proof.Machine

/-- What is offered touches the notice unit but for its levels, the channels and the DISCARD marks. -/
structure Offers (s t : State) : Prop where
  touched : Touches Anywhere [.notices, .pendingSet, .channels, .discardMark] s t
  levels : t.notices.levels = s.notices.levels

namespace Offers
variable {s t u : State}

theorem refl (s : State) : Offers s s := ⟨.refl _ _ s, rfl⟩

theorem trans (h : Offers s t) (g : Offers t u) : Offers s u :=
  ⟨h.touched.trans g.touched, g.levels.trans h.levels⟩

theorem ite {p : Prop} [Decidable p] (h : p → Offers s t) (g : ¬ p → Offers s u) :
    Offers s (if p then t else u) := by
  split
  case isTrue yes => exact h yes
  case isFalse no => exact g no

theorem forEach {α : Type} {f : α → State → State} (each : ∀ x t, Offers t (f x t)) (l : List α) (s : State) :
    Offers s (s.forEach f l) := by
  induction l generalizing s with
  | nil => exact .refl s
  | cons x rest ih => exact (each x s).trans (ih _)

end Offers

/-- What is offered and then sent touches the service port besides. -/
structure Reports (s t : State) : Prop where
  touched : Touches Anywhere [.notices, .pendingSet, .channels, .service, .discardMark] s t
  levels : t.notices.levels = s.notices.levels

theorem Reports.trans {s t u : State} (h : Reports s t) (g : Reports t u) : Reports s u :=
  ⟨h.touched.trans g.touched, g.levels.trans h.levels⟩

theorem Offers.reports {s t : State} (h : Offers s t) : Reports s t := ⟨h.touched.mono (by decide), h.levels⟩

theorem offers_updChannel (h : ChannelId) (f : Channel → Channel) (s : State) : Offers s (s.updChannel h f) :=
  ⟨(touches_updChannel h f s).mono (by decide), rfl⟩

theorem offers_setDiscardMark (j : LinkId) (b : Bool) (s : State) :
    Offers s (s.updLink j fun l => { l with discardMark := b }) :=
  ⟨(touches_updLink (ps := [.discardMark]) s trivial fun l p => by cases p <;> simp [Part.SameLink]).mono (by decide), rfl⟩

theorem offers_setEntries (entries : List PendingEntry) (s : State) :
    Offers s (s.updNotices fun n => { n with entries := entries }) :=
  ⟨.of_parts fun p => by cases p <;> simp [Part.Same, State.cage, State.link], rfl⟩

theorem offers_noticeEvent (e : Event) (s : State) : Offers s (s.noticeEvent e) := by
  unfold State.noticeEvent
  refine .ite (fun _ => .refl s) fun _ => .ite (fun _ => ?_) fun _ => .ite (fun _ => ?_) fun _ => ?_
  · exact offers_setEntries _ s
  · exact (offers_setEntries _ s).trans (offers_setDiscardMark ..)
  · exact offers_setEntries _ s

theorem offers_capture (h : ChannelId) (k : EventKind) (n : Nat) (s : State) : Offers s (s.capture h k n).1 :=
  offers_updChannel h (fun c => c.captured (s.captureRecord h k n)) s

theorem offers_claim (h : ChannelId) (k : EventKind) (n : Nat) (s : State) : Offers s (s.claim h k n).1 := by
  unfold State.claim
  split
  · exact offers_capture ..
  · split
    · exact .refl s
    · exact offers_updChannel h (fun c => { c with seriesLink := some (indexOf 64 n) }) s

theorem offers_offer (fuel : Nat) (e : Event) (s : State) : Offers s (s.offer fuel e) := by
  induction fuel generalizing e s with
  | zero => exact offers_noticeEvent e s
  | succ fuel ih =>
    cases claims : s.claimant e.kind e.source with
    | none => exact s.offer_unclaimed _ claims ▸ offers_noticeEvent e s
    | some h =>
      have claimed := offers_claim h e.kind e.source s
      rcases claim : s.claim h e.kind e.source with ⟨t, _ | done⟩
      · rw [s.offer_claimed fuel claims claim]
        rwa [claim] at claimed
      · rw [s.offer_done fuel claims claim]
        rw [claim] at claimed
        exact claimed.trans (ih done t)

theorem offers_seriesCapture (j : LinkId) (h : ChannelId) (s : State) : Offers s (s.seriesCapture j h) := by
  unfold State.seriesCapture
  split
  · next t _ _ =>
    refine .ite (fun _ => ?_) fun _ => .refl s
    have captured := offers_capture h t.kind j.val s
    split
    · next u e =>
      rwa [e] at captured
    · next u done e =>
      rw [e] at captured
      exact captured.trans (offers_offer 4 done u)
  · exact .refl s

theorem offers_offerSignal (x : Signal) (s : State) : Offers s (s.offerSignal x) := by
  cases x with
  | event e => exact offers_offer 4 e s
  | discard j => exact .ite (fun _ => .refl s) fun _ => offers_offer 4 _ s
  | windowEnd j => exact .forEach (fun h t => offers_seriesCapture j h t) _ s

/-- The port begins a frame: a reply, and otherwise a snapshot or a notice. -/
theorem State.serveOut_begins (s : State) : s.serveOut = s ∧ (s.service.sending = none → s.service.replies = [])
    ∨ ∃ t m, (Reports s t) ∧ s.serveOut = t.beginService m := by
  unfold State.serveOut
  split
  · next sends => exact .inl ⟨rfl, fun free => by simp [free] at sends⟩
  · split
    · next m rest _ =>
      have taken : Reports s { s with service := { s.service with replies := rest } } :=
        ⟨(touches_setService _ s).mono (by decide), rfl⟩
      exact .inr ⟨_, m.sentUnder s.settings, taken, rfl⟩
    · next none_waits =>
      split
      · exact .inl ⟨rfl, fun _ => none_waits⟩
      · split
        · exact .inr ⟨_, _, (offers_updChannel ..).reports, rfl⟩
        · split
          · next e _ =>
            have left := offers_setEntries (s.notices.entries.filter fun x => !(x.kind = e.kind && x.source = e.source)) s
            exact .inr ⟨_, _, (Offers.ite (fun _ => left.trans (offers_setDiscardMark ..)) fun _ => left).reports, rfl⟩
          · exact .inl ⟨rfl, fun _ => none_waits⟩

theorem reports_beginService (m : ManagementFrame) (s : State) : Reports s (s.beginService m) :=
  ⟨.of_parts fun p => by cases p <;> simp [Part.Same, State.cage, State.link, State.beginService], rfl⟩

theorem reports_serveOut (s : State) : Reports s s.serveOut := by
  obtain ⟨same, _⟩ | ⟨t, m, before, begins⟩ := s.serveOut_begins
  · rw [same]
    exact ⟨.refl _ _ s, rfl⟩
  · exact begins ▸ before.trans (reports_beginService m t)

/-- Only a port that sends nothing and that no reply waits for can be free after it. -/
theorem State.serveOut_free {s : State} (free : s.serveOut.service.sending = none) :
    s.service.sending = none ∧ s.serveOut.service.replies = [] := by
  obtain ⟨same, empty⟩ | ⟨t, m, before, begins⟩ := s.serveOut_begins
  · rw [same] at free ⊢
    exact ⟨free, empty free⟩
  · rw [begins] at free
    cases free

/-- What a step raised, offered, and what the service port then begins. -/
theorem reports_settle (s : State) : Reports { s with raised := [] } s.settle :=
  (Offers.forEach (fun x t => offers_offerSignal x t) s.raised _).reports.trans (reports_serveOut _)

theorem State.forEach_eq_foldl {α : Type} (f : α → State → State) (l : List α) (s : State) :
    s.forEach f l = l.foldl (fun t x => f x t) s := by
  induction l generalizing s with
  | nil => rfl
  | cons x rest ih => exact ih _

/-- A link but for its DISCARD mark. -/
theorem Touches.discardMark_eq {s t : State}
    (h : Touches Anywhere [.notices, .pendingSet, .channels, .service, .discardMark] s t) (j : LinkId) :
    t.link j = { s.link j with discardMark := (t.link j).discardMark } := h.link_eq j

/-! ### A window end (R176, R178) -/

section
variable {s : State} {j : LinkId} {h : ChannelId}

theorem State.seriesCapture_idle (idle : (s.channel h).seriesLink ≠ some j ∨ (s.channel h).trigger = none) :
    s.seriesCapture j h = s := by
  unfold State.seriesCapture
  split
  · next i t series trigger =>
    refine if_neg ?_
    rintro rfl
    exact idle.elim (· series) fun none => nomatch trigger.symm.trans none
  · rfl

variable {t : Trigger} (series : (s.channel h).seriesLink = some j) (trigger : (s.channel h).trigger = some t)
include series trigger

theorem State.seriesCapture_more (armed : (s.channel h).armed = true) (more : 1 < (s.channel h).remaining) :
    s.seriesCapture j h = s.updChannel h fun c => c.captured (s.captureRecord h t.kind j.val) := by
  unfold State.seriesCapture
  rw [series, trigger]
  simp only [↓reduceIte, State.capture_more armed more]

theorem State.seriesCapture_last (last : (s.channel h).remaining ≤ 1) : s.seriesCapture j h
    = (s.updChannel h fun c => c.captured (s.captureRecord h t.kind j.val)).offerEvent ⟨.snapshotDone, h.val, 0⟩ := by
  unfold State.seriesCapture
  rw [series, trigger]
  simp only [↓reduceIte, State.capture_last last]

end

theorem State.captureRecord_link (s : State) (h : ChannelId) (k : EventKind) (j : LinkId) : s.captureRecord h k j.val
    = ⟨h, k, j.val, (s.channel h).sequence + 1, if k.sourceRange = .link then some (s.captureLink j) else none⟩ := by
  rw [State.captureRecord, indexOf_val (by decide) j rfl]

/-- Settles O4: each signal is offered as its kind is, and all that the end of a step does is reporting. -/
theorem settleTouchesReportingAlone : Obligations.SettleTouchesReportingAlone := by
  refine ⟨fun s e j h => ?_, fun s => ?_⟩
  · refine ⟨?_, rfl, fun set => if_pos set, fun clear => ?_, rfl, State.seriesCapture_idle, fun t armed series trigger => ?_⟩
    · rw [← State.forEach_eq_foldl]
      rfl
    · exact if_neg (Bool.eq_false_iff.mp clear)
    · refine ⟨fun more => ?_, fun last => ?_⟩
      · rw [State.seriesCapture_more series trigger armed more, State.updChannel_captured_more more, State.captureRecord_link]
      · rw [State.seriesCapture_last series trigger last, State.updChannel_captured_last last, State.captureRecord_link]
  · have settled := reports_settle s
    refine ⟨settled.touched.eq, settled.levels, settled.touched.discardMark_eq, fun free => ?_⟩
    have offered := Offers.forEach (fun x t => offers_offerSignal x t) s.raised { s with raised := [] }
    obtain ⟨before, empty⟩ := State.serveOut_free free
    rw [offered.touched.service] at before
    exact ⟨before, empty⟩

end Sys2Proof.Machine
end

section
/-! PROOFS. The requests on a snapshot channel (R175, R180). -/

set_option Elab.async false

namespace Sys2Proof.Machine

/-! ### The trigger a SNAP-ARM names (R175) -/

/-- The number of sources of an event code (section 11.1). -/
def sourcesOf (code : Nat) : Nat :=
  if 1 ≤ code ∧ code ≤ 8 then 16 else if code = 21 then 1 else if code = 23 then 4 else 64

theorem sourcesOf_code (k : EventKind) : sourcesOf k.code = k.sourceRange.size := by
  cases k <;> rfl

theorem sourceRange_link_iff (k : EventKind) : k.sourceRange = .link ↔ (9 ≤ k.code ∧ k.code ≤ 20) ∨ k.code = 22 := by
  cases k <;> decide

theorem exists_code {n : Nat} (within : 1 ≤ n ∧ n ≤ 23) : ∃ k : EventKind, k.code = n := by
  obtain ⟨k, found⟩ := Option.isSome_iff_exists.mp ((eventKindOfCode_isSome n).mpr within)
  exact ⟨k, by simpa using List.find?_some found⟩

section
variable {kind source mode : Byte}

theorem triggerOf_of_code {k : EventKind} (named : k.code = kind.toNat) : triggerOf kind source
    = if source = 0xFF then some ⟨k, none⟩ else if source.toNat < k.sourceRange.size then some ⟨k, some source.toNat⟩
      else none := by
  rw [triggerOf, ← named, eventKindOfCode_code]
  rfl

theorem triggerOf_unnamed (unnamed : ¬ (1 ≤ kind.toNat ∧ kind.toNat ≤ 23)) : triggerOf kind source = none := by
  have no : eventKindOfCode kind.toNat = none :=
    Option.not_isSome_iff_eq_none.mp (mt (eventKindOfCode_isSome _).mp unnamed)
  rw [triggerOf, no]

/-- The faults of a SNAP-ARM but for its channel (R175). -/
def armFaulty (kind source mode : Byte) : Prop :=
  kind.toNat = 0 ∨ 23 < kind.toNat ∨ (source ≠ 0xFF ∧ sourcesOf kind.toNat ≤ source.toNat) ∨ 1 < mode.toNat
    ∨ (mode = 1 ∧ ¬ ((9 ≤ kind.toNat ∧ kind.toNat ≤ 20) ∨ kind.toNat = 22))

theorem mode_cases (mode : Byte) : mode = 0 ∨ mode = 1 ∨ 1 < mode.toNat := by
  by_cases zero : mode.toNat = 0
  · exact .inl (BitVec.eq_of_toNat_eq zero)
  · by_cases one : mode.toNat = 1
    · exact .inr (.inl (BitVec.eq_of_toNat_eq one))
    · exact .inr (.inr (by omega))

theorem channelModeOf_beyond (beyond : 1 < mode.toNat) : channelModeOf mode = none := by
  have zero : mode ≠ 0 := by rintro rfl; exact absurd beyond (by decide)
  have one : mode ≠ 1 := by rintro rfl; exact absurd beyond (by decide)
  rw [channelModeOf, if_neg zero, if_neg one]

theorem channelModeOf_of_le (within : ¬ 1 < mode.toNat) :
    channelModeOf mode = some (if mode = 1 then .series else .single) := by
  obtain rfl | rfl | beyond := mode_cases mode
  · rfl
  · rfl
  · exact absurd beyond within

/-- A faulty SNAP-ARM names no trigger or no mode, or a mode that the trigger does not allow. -/
theorem armFaulty_refused (faulty : armFaulty kind source mode) {g : Trigger} {m : ChannelMode}
    (trigger : triggerOf kind source = some g) (moded : channelModeOf mode = some m) : g.allows m = false := by
  by_cases within : 1 ≤ kind.toNat ∧ kind.toNat ≤ 23
  · obtain ⟨k, named⟩ := exists_code within
    rw [triggerOf_of_code named] at trigger
    rcases faulty with none | beyond | ⟨notAny, sources⟩ | modeBeyond | ⟨rfl, noLink⟩
    · omega
    · omega
    · rw [← named, sourcesOf_code] at sources
      rw [if_neg notAny, if_neg (Nat.not_lt_of_le sources)] at trigger
      cases trigger
    · rw [channelModeOf_beyond modeBeyond] at moded
      cases moded
    · obtain rfl : ChannelMode.series = m := Option.some.inj moded
      have ofKind : g.kind = k := by
        split at trigger
        · exact congrArg Trigger.kind (Option.some.inj trigger).symm
        · split at trigger
          · exact congrArg Trigger.kind (Option.some.inj trigger).symm
          · cases trigger
      have other : k.sourceRange ≠ .link := by
        rw [Ne, sourceRange_link_iff, named]
        exact noLink
      simp [Trigger.allows, ofKind, other]
  · rw [triggerOf_unnamed within] at trigger
    cases trigger

/-- A SNAP-ARM without fault names its trigger and its mode, which the trigger allows. -/
theorem armFaulty_taken (sound : ¬ armFaulty kind source mode) {k : EventKind} (named : k.code = kind.toNat) :
    triggerOf kind source = some ⟨k, if source = 0xFF then none else some source.toNat⟩
    ∧ channelModeOf mode = some (if mode = 1 then .series else .single)
    ∧ (⟨k, if source = 0xFF then none else some source.toNat⟩ : Trigger).allows (if mode = 1 then .series else .single)
      = true := by
  simp only [armFaulty, not_or, not_and] at sound
  obtain ⟨-, -, sources, moded, link⟩ := sound
  refine ⟨?_, channelModeOf_of_le moded, ?_⟩
  · rw [triggerOf_of_code named]
    split
    · rfl
    · next notAny =>
      have inside := sources notAny
      rw [← named, sourcesOf_code] at inside
      rw [if_pos (Nat.lt_of_not_le inside)]
  · unfold Trigger.allows
    split
    · next series =>
      have onLink := (sourceRange_link_iff k).mpr (by
        rw [named]
        have := link series
        omega)
      simp [onLink]
    · rfl

end

/-! ### The requests -/

section
variable {q : Requester} {channel kind source count mode : Byte} {s : State} {h : ChannelId}

theorem exec_snapArm_refused (idle : s.engineIdle) (faulty : 3 < channel.toNat ∨ armFaulty kind source mode) :
    exec (.snapArm q channel kind source count mode) s = .next (s.answered q 0x60 .badArgument [] []) := by
  show execSnapArm q channel kind source count mode s = _
  unfold execSnapArm
  refine serve_refused .badArgument [] [] rfl idle fun m => ?_
  split
  · next g n trigger moded =>
    refine if_pos (Bool.or_eq_true_iff.mpr ?_)
    exact faulty.imp decide_eq_true fun f => by simp [armFaulty_refused f trigger moded]
  · rfl

theorem exec_snapArm_taken {k : EventKind} (idle : s.engineIdle) (here : h.val = channel.toNat)
    (sound : ¬ armFaulty kind source mode) (named : k.code = kind.toNat) :
    exec (.snapArm q channel kind source count mode) s = .next
      (if (s.channel h).armed then s.answered q 0x60 .wrongState [] [] else
        (s.updChannel h (Channel.armedWith ⟨k, if source = 0xFF then none else some source.toNat⟩
          (if mode = 1 then .series else .single) (max 1 count.toNat))).answered q 0x60
            (if count = 0 then .adjusted else .done) (if count = 0 then [3] else []) []) := by
  obtain ⟨trigger, moded, allowed⟩ := armFaulty_taken sound named
  generalize (⟨k, if source = 0xFF then none else some source.toNat⟩ : Trigger) = g at *
  generalize (if mode = 1 then .series else .single : ChannelMode) = kept at *
  have inside : ¬ 3 < channel.toNat := by have := h.isLt; omega
  have passes : ¬ (decide (3 < channel.toNat) || !g.allows kept) = true := by
    rw [allowed]
    simpa using inside
  show execSnapArm q channel kind source count mode s = _
  unfold execSnapArm
  rw [trigger, moded, indexOf_val (by decide) h here]
  simp only [if_neg passes]
  split
  case isTrue armed => exact serve_refused .wrongState [] [] rfl idle fun m => if_pos armed
  case isFalse free =>
    refine serve_answered (State.updChannel h (Channel.armedWith g kept (max 1 count.toNat)))
      (if count = 0 then .adjusted else .done) (if count = 0 then [3] else []) [] rfl idle (fun _ _ => rfl) fun m => (if_neg free).trans ?_
    unfold State.respondTaken
    by_cases zero : count = 0
    · rw [if_pos zero, if_pos zero, if_pos (decide_eq_true zero)]
      rfl
    · rw [if_neg zero, if_neg zero, if_neg (by simpa using zero)]

theorem exec_snapStart_beyond (idle : s.engineIdle) (beyond : 3 < channel.toNat) :
    exec (.snapStart q channel source) s = .next (s.answered q 0x61 .badArgument [] []) := by
  show execSnapStart q channel source s = _
  unfold execSnapStart
  exact serve_refused .badArgument [] [] rfl idle fun _ => if_pos beyond

theorem exec_snapStart_disarmed (idle : s.engineIdle) (here : h.val = channel.toNat) (free : (s.channel h).armed = false) :
    exec (.snapStart q channel source) s = .next (s.answered q 0x61 .wrongState [] []) := by
  have inside : ¬ 3 < channel.toNat := by have := h.isLt; omega
  show execSnapStart q channel source s = _
  unfold execSnapStart
  rw [indexOf_val (by decide) h here]
  refine serve_refused .wrongState [] [] rfl idle fun m => (if_neg inside).trans (if_pos ?_)
  rw [State.withEngine_channel, free]
  rfl

theorem exec_snapStart {t : Trigger} (idle : s.engineIdle) (here : h.val = channel.toNat)
    (armed : (s.channel h).armed = true) (trigger : (s.channel h).trigger = some t) :
    exec (.snapStart q channel source) s = .next
      (if t.admits source.toNat then (s.startChannel h t.kind source.toNat).answered q 0x61 .done [] []
       else s.answered q 0x61 .badArgument [] []) := by
  have inside : ¬ 3 < channel.toNat := by have := h.isLt; omega
  have passes (m : ManagementEngine) : ¬ (!((s.withEngine m).channel h).armed) = true := by
    rw [State.withEngine_channel, armed]
    decide
  show execSnapStart q channel source s = _
  unfold execSnapStart
  rw [indexOf_val (by decide) h here]
  by_cases admitted : t.admits source.toNat = true
  · rw [if_pos admitted]
    refine serve_answered (State.startChannel h t.kind source.toNat) .done [] [] rfl idle
      (fun m u => State.startChannel_withEngine m u h t.kind source.toNat) fun m => ?_
    rw [if_neg inside, if_neg (passes m), State.withEngine_channel, trigger]
    exact if_pos admitted
  · rw [if_neg admitted]
    refine serve_refused .badArgument [] [] rfl idle fun m => ?_
    rw [if_neg inside, if_neg (passes m), State.withEngine_channel, trigger]
    exact if_neg admitted

theorem Trigger.admits_iff (t : Trigger) (n : Nat) : t.admits n = true
    ↔ n < t.kind.sourceRange.size ∧ (t.source = none ∨ t.source = some n) := by
  simp [Trigger.admits]

theorem exec_snapDisarm_beyond (idle : s.engineIdle) (beyond : 3 < channel.toNat) :
    exec (.snapDisarm q channel) s = .next (s.answered q 0x62 .badArgument [] []) := by
  show execSnapDisarm q channel s = _
  unfold execSnapDisarm
  exact serve_refused .badArgument [] [] rfl idle fun _ => if_pos beyond

theorem exec_snapDisarm (idle : s.engineIdle) (here : h.val = channel.toNat) : exec (.snapDisarm q channel) s
    = .next ((s.updChannel h Channel.disarmed).answered q 0x62 .done [] []) := by
  have inside : ¬ 3 < channel.toNat := by have := h.isLt; omega
  show execSnapDisarm q channel s = _
  unfold execSnapDisarm
  rw [indexOf_val (by decide) h here]
  exact serve_answered (State.updChannel h Channel.disarmed) .done [] [] rfl idle (fun _ _ => rfl) fun m => if_neg inside

/-! ### A claim by SNAP-START (R180) -/

theorem State.startChannel_more (single : (s.channel h).mode = .single) (armed : (s.channel h).armed = true)
    (more : 1 < (s.channel h).remaining) (k : EventKind) (n : Nat) :
    s.startChannel h k n = s.updChannel h fun c => c.captured (s.captureRecord h k n) := by
  unfold State.startChannel State.claim
  rw [single]
  simp only [State.capture_more armed more]

theorem State.startChannel_last (single : (s.channel h).mode = .single) (last : (s.channel h).remaining ≤ 1)
    (k : EventKind) (n : Nat) : s.startChannel h k n
      = (s.updChannel h fun c => c.captured (s.captureRecord h k n)).signal (.event ⟨.snapshotDone, h.val, 0⟩) := by
  unfold State.startChannel State.claim
  rw [single]
  simp only [State.capture_last last]

theorem State.startChannel_series (series : (s.channel h).mode = .series) (k : EventKind) (n : Nat) :
    s.startChannel h k n = { s with channels := s.channels.set h { s.channel h with
      seriesLink := if (s.channel h).seriesLink = none then some (indexOf 64 n) else (s.channel h).seriesLink } } := by
  unfold State.startChannel State.claim
  rw [series]
  simp only
  cases link : (s.channel h).seriesLink with
  | none => rfl
  | some j =>
    have same : { s.channel h with seriesLink := some j } = s.channel h := by rw [← link]
    have back : s.channels.set h (s.channel h) = s.channels := Bank.set_get_self _ _ _ rfl
    simp only [Option.isSome_some, if_true, reduceCtorEq, if_false, same, back]

end

/-- Settles O54: the checks of each request in their order, and then its one change of the channel. -/
theorem snapshotRequests : Obligations.SnapshotRequests := by
  intro q channel kind source count mode s idle code sources link bad
  have split_bad : bad ↔ 3 < channel.toNat ∨ armFaulty kind source mode := Iff.rfl
  refine ⟨fun faulty => exec_snapArm_refused idle (split_bad.mp faulty), fun beyond =>
    ⟨exec_snapStart_beyond idle beyond, exec_snapDisarm_beyond idle beyond⟩, fun h here => ?_⟩
  refine ⟨fun sound armed => ?_, fun k sound free named => ?_, exec_snapStart_disarmed idle here, fun t armed trigger => ?_,
    exec_snapDisarm idle here⟩
  · obtain ⟨-, noFault⟩ := not_or.mp (mt split_bad.mpr sound)
    have within : 1 ≤ code ∧ code ≤ 23 := by
      simp only [armFaulty, not_or] at noFault
      omega
    obtain ⟨k, named⟩ := exists_code within
    rw [exec_snapArm_taken idle here noFault named, if_pos armed]
  · rw [exec_snapArm_taken idle here (not_or.mp (mt split_bad.mpr sound)).2 named, if_neg (Bool.eq_false_iff.mp free)]
    rfl
  · have start := exec_snapStart (q := q) (source := source) idle here armed trigger
    refine ⟨fun outside => ?_, fun small ofSource => ?_⟩
    · rw [start, if_neg]
      rw [Trigger.admits_iff]
      rintro ⟨small, ofSource⟩
      rcases outside with large | ⟨some, other⟩
      · omega
      · exact ofSource.elim some other
    · rw [start, if_pos ((t.admits_iff _).mpr ⟨small, ofSource⟩)]
      refine ⟨fun single more => ?_, fun single last => ?_, fun series => ?_⟩
      · rw [State.startChannel_more single armed more, State.updChannel_captured_more more]
        rfl
      · rw [State.startChannel_last single last, State.updChannel_captured_last last]
        rfl
      · rw [State.startChannel_series series]

end Sys2Proof.Machine
end

section
/-! PROOFS. The service port, and what notices, snapshots and replies hold (R161, R164, R168, R172, R173, R177, R179). -/

set_option Elab.async false

namespace Sys2Proof.Machine

/-! ### Layouts (R168) -/

theorem State.noticeBody_eq (s : State) (e : PendingEntry) :
    s.noticeBody e = rendered ((s.noticeFields e).map Prod.snd) := by
  unfold State.noticeBody State.noticeFields
  cases e.kind.sourceRange <;>
    simp [rendered, bytesOf_one, markByte_eq, List.replicate_succ] <;> exact ⟨rfl, rfl⟩

theorem State.noticeBody_spells (s : State) (e : PendingEntry) :
    (s.noticeBody e).length = 12 ∧ Spells (s.noticeBody e) (s.noticeFields e) :=
  ⟨length_of_rendered (s.noticeBody_eq e) rfl, .of_rendered (s.noticeBody_eq e) rfl⟩

/-- The fields of a capture of a link, in order (R177). -/
def LinkCapture.numbers (l : LinkCapture) : List (Nat × Nat) :=
  let w := l.window
  [(1, l.recovery.code), (1, l.service.code), (1, l.warm.toNat), (2, l.penalty), (1, l.suppressed.toNat),
    (1, (w.map (·.verdict.code)).getD 0), (4, (w.map (·.codewords)).getD 0), (4, (w.map (·.corrected)).getD 0),
    (4, (w.map (·.uncorrectable)).getD 0), (1, l.passRun), (1, l.failRun), (1, l.retryCount)]
  ++ (List.finRange 4).map (fun k => (2, l.occupancy.get k))
  ++ [(4, l.tokens), (2, l.rate), (2, l.holdRemaining.getD 0xFFFF)]
  ++ (peerNumbers (l.heardPeer.map HeardPeer.identity) ++ [(2, (l.heardPeer.map (·.epoch.toNat)).getD 0)])
  ++ [(1, (w.map (·.reason.code)).getD 0)]

theorem captureBytes_eq (l : LinkCapture) : captureBytes (some l) = rendered l.numbers := by
  have occupancy : l.occupancy.items.flatMap (bytesOf 2) = rendered ((List.finRange 4).map fun k => (2, l.occupancy.get k)) := by
    rw [Bank.items_eq, rendered_map, List.flatMap_map]
  unfold captureBytes LinkCapture.numbers
  simp only [occupancy, heardBytes_eq, rendered_append, rendered_cons, bytesOf_one, markByte_eq, List.append_assoc,
    List.cons_append, List.nil_append]
  simp [rendered]

/-- The fields at the front of a snapshot body (R168). -/
def SnapshotRecord.front (r : SnapshotRecord) (superseded : Nat) : List (Nat × Nat) :=
  [(1, r.channel.val), (1, r.trigger.code), (1, r.source), (1, r.index), (1, superseded)]

theorem SnapshotRecord.body_eq (r : SnapshotRecord) (superseded : Nat) :
    r.body superseded = rendered (r.front superseded) ++ captureBytes r.link := by
  simp [SnapshotRecord.body, SnapshotRecord.front, rendered, bytesOf_one]

theorem SnapshotRecord.body_spells (r : SnapshotRecord) (superseded : Nat) : (r.body superseded).length = 55
    ∧ Spells (r.body superseded)
      [(0, 1, r.channel.val), (1, 1, r.trigger.code), (2, 1, r.source), (3, 1, r.index), (4, 1, superseded)] := by
  have link : (captureBytes r.link).length = 50 := by
    cases r.link with
    | none => rfl
    | some l => exact length_of_rendered (captureBytes_eq l) rfl
  rw [r.body_eq]
  refine ⟨by rw [List.length_append, length_of_rendered (n := 5) rfl rfl, link], ?_⟩
  have front : Spells (rendered (r.front superseded))
      [(0, 1, r.channel.val), (1, 1, r.trigger.code), (2, 1, r.source), (3, 1, r.index), (4, 1, superseded)] :=
    .of_rendered rfl rfl
  exact front.append_left _ (by rw [length_of_rendered (n := 5) rfl rfl]; simp)

theorem SnapshotRecord.body_spells_link {r : SnapshotRecord} {s : State} {j : LinkId} (superseded : Nat)
    (link : r.link = some (s.captureLink j)) : Spells (r.body superseded) (s.snapshotFields j) := by
  have run : r.body superseded = rendered (r.front superseded ++ (s.captureLink j).numbers) := by
    rw [r.body_eq, link, captureBytes_eq, rendered_append]
  have hold : (s.captureLink j).holdRemaining.getD 0xFFFF = s.msLeft (s.link j).hold.holdTimer := s.remainingMs_getD _
  rw [LinkCapture.numbers, hold] at run
  exact .of_rendered run rfl

theorem SnapshotRecord.body_no_link {r : SnapshotRecord} (superseded : Nat) (link : r.link = none) :
    (r.body superseded).drop 5 = List.replicate 36 0 ++ [0xFF, 0xFF] ++ List.replicate 12 0 := by
  rw [r.body_eq, List.drop_left' (length_of_rendered rfl rfl), link]
  rfl

/-! ### A field list (R168) -/

theorem fieldList_eq (fields : List Nat) : fieldList fields = rendered ((1, fields.length) :: fields.map fun n => (2, n)) := by
  rw [fieldList, rendered_cons, bytesOf_one, rendered_map]
  rfl

theorem fieldIn_words {fields : List Nat} {i n : Nat} (here : fields[i]? = some n) :
    fieldIn (fields.map fun n => (2, n)) (2 * i) = some (2, n) := by
  induction fields generalizing i with
  | nil => cases here
  | cons m rest ih =>
    cases i with
    | zero => exact congrArg (fun x => some (2, x)) (Option.some.inj here)
    | succ i =>
      rw [List.map_cons, Nat.mul_succ, fieldIn]
      have two : Nat.ble 2 (2 * i + 1 + 1) = true := Nat.ble_eq.mpr (by omega)
      rw [two, cond_true]
      exact ih (by simpa using here)

theorem fieldList_spells (fields : List Nat) : (fieldList fields).length = 1 + 2 * fields.length
    ∧ Spells (fieldList fields) ((0, 1, fields.length) :: fields.zipIdx.map fun x => (1 + 2 * x.2, 2, x.1)) := by
  rw [fieldList_eq]
  constructor
  · simp [rendered_length]
    ring
  · intro f hf
    rcases List.mem_cons.mp hf with rfl | hf
    · exact spells_fieldIn (f := (1, fields.length)) rfl _ (List.mem_singleton_self _)
    · obtain ⟨⟨n, i⟩, hx, rfl⟩ := List.mem_map.mp hf
      have here := List.mk_mem_zipIdx_iff_getElem?.mp hx
      refine spells_fieldIn (f := (2, n)) ?_ _ (List.mem_singleton_self _)
      rw [Nat.add_comm, fieldIn]
      have one : Nat.ble 1 (2 * i + 1) = true := Nat.ble_eq.mpr (by omega)
      rw [one, cond_true]
      exact fieldIn_words here

/-! ### A frame on the wire (R168) -/

/-- The fields before the body of a management frame. -/
def ManagementFrame.headerNumbers (m : ManagementFrame) : List (Nat × Nat) :=
  [(6, m.destination.toNat), (6, m.source.toNat), (2, m.typeValue.toNat), (1, 1), (1, m.kind.code),
    (2, m.tag.toNat), (1, m.code.toNat), (1, m.outcome.toNat), (2, m.body.length)]

/-- A frame before its check sequence: header, body and padding. -/
def ManagementFrame.padded (m : ManagementFrame) : List Byte :=
  rendered m.headerNumbers ++ (m.body ++ List.replicate (60 - (22 + m.body.length)) 0)

theorem ManagementFrame.header_length (m : ManagementFrame) : (rendered m.headerNumbers).length = 22 :=
  length_of_rendered rfl rfl

theorem ManagementFrame.bytes_eq (m : ManagementFrame) : m.bytes = m.padded ++ bytes32 (Config.frameCheck m.padded) := by
  have front : bytes48 m.destination ++ bytes48 m.source ++ bytes16 m.typeValue ++ [1, byteOf m.kind.code] ++ bytes16 m.tag
      ++ [m.code, m.outcome] ++ bytesOf 2 m.body.length ++ m.body = rendered m.headerNumbers ++ m.body := by
    simp [ManagementFrame.headerNumbers, rendered, bytes48_eq, bytes16_eq, bytesOf_one, byteOf_toNat]
    rfl
  have padded : rendered m.headerNumbers ++ m.body ++ List.replicate (60 - (22 + m.body.length)) 0 = m.padded :=
    List.append_assoc ..
  rw [ManagementFrame.bytes, front, List.length_append, m.header_length, padded]

theorem ManagementFrame.padded_length (m : ManagementFrame) : m.padded.length = max 60 (22 + m.body.length) := by
  rw [ManagementFrame.padded, List.length_append, List.length_append, m.header_length, List.length_replicate]
  omega

theorem ManagementFrame.bytes_spells (m : ManagementFrame) : m.bytes.length = max 64 (22 + m.body.length + 4)
    ∧ Spells m.bytes m.headerFields ∧ slice m.bytes 22 m.body.length = m.body
    ∧ slice m.bytes (22 + m.body.length) (60 - (22 + m.body.length)) = List.replicate (60 - (22 + m.body.length)) 0
    ∧ m.bytes.drop (max 60 (22 + m.body.length))
        = bytes32 (Config.frameCheck (m.bytes.take (max 60 (22 + m.body.length)))) := by
  have long := m.padded_length
  have check : (bytes32 (Config.frameCheck m.padded)).length = 4 := rfl
  have joined : m.bytes = rendered m.headerNumbers ++ (m.body ++ (List.replicate (60 - (22 + m.body.length)) 0
      ++ bytes32 (Config.frameCheck m.padded))) := by
    rw [m.bytes_eq, ManagementFrame.padded, List.append_assoc, List.append_assoc]
  refine ⟨?_, ?_, ?_, ?_, ?_⟩
  · rw [m.bytes_eq, List.length_append, long, check]
    omega
  · have header : Spells (rendered m.headerNumbers) m.headerFields := .of_rendered rfl rfl
    rw [joined]
    exact header.append_left _ (by rw [m.header_length]; simp [ManagementFrame.headerFields])
  · have body := slice_append_right (rendered m.headerNumbers) (m.body ++ (List.replicate (60 - (22 + m.body.length)) 0
      ++ bytes32 (Config.frameCheck m.padded))) 0 m.body.length
    rw [← joined, m.header_length] at body
    rw [show 22 = 0 + 22 from rfl, body, slice, List.drop_zero, List.take_left]
  · rw [joined, ← List.append_assoc, show 22 + m.body.length = 0 + (rendered m.headerNumbers ++ m.body).length by
      rw [List.length_append, m.header_length, Nat.zero_add], slice_append_right, slice, List.drop_zero,
      List.take_left' (by rw [List.length_replicate])]
  · rw [m.bytes_eq, ← long, List.drop_left, List.take_left]

end Sys2Proof.Machine
end

section
/-! PROOFS. The service port's order, and where a reply goes (R161, R164, R172, R179). -/

set_option Elab.async false

namespace Sys2Proof.Machine

/-! ### The entry the notice unit chooses (R172) -/

/-- An entry that goes before another strictly: the higher level, then the lower code, then the lower source. -/
def NoticeUnit.Precedes (n : NoticeUnit) (e x : PendingEntry) : Prop :=
  n.levels.get x.kind.place < n.levels.get e.kind.place ∨ (n.levels.get e.kind.place = n.levels.get x.kind.place
    ∧ (e.kind.code < x.kind.code ∨ (e.kind = x.kind ∧ e.source < x.source)))

theorem NoticeUnit.before_of_precedes {n : NoticeUnit} {e x : PendingEntry} (first : n.Precedes e x) :
    n.before e x = true ∧ n.before x e = false := by
  unfold NoticeUnit.Precedes at first
  unfold NoticeUnit.before
  simp only [Bool.or_eq_true, decide_eq_true_eq, Bool.and_eq_true, Bool.or_eq_false_iff, decide_eq_false_iff_not,
    Bool.and_eq_false_iff]
  rcases first with level | ⟨level, code | ⟨kind, source⟩⟩
  · omega
  · omega
  · rw [kind] at level ⊢
    omega

theorem NoticeUnit.before_self (n : NoticeUnit) (e : PendingEntry) : n.before e e = false := by
  simp [NoticeUnit.before]

/-- The better of two entries. -/
def NoticeUnit.better (n : NoticeUnit) (best x : PendingEntry) : PendingEntry := if n.before x best then x else best

/-- An entry that goes before all the others is the best of them. -/
theorem NoticeUnit.foldl_better {n : NoticeUnit} {e : PendingEntry} (rest : List PendingEntry) (best : PendingEntry)
    (among : e = best ∨ e ∈ rest) (first : ∀ x, x = best ∨ x ∈ rest → x ≠ e → n.Precedes e x) :
    rest.foldl n.better best = e := by
  induction rest generalizing best with
  | nil => simpa [eq_comm] using among
  | cons x rest ih =>
    rw [List.foldl_cons]
    have chosen : n.better best x = best ∨ n.better best x = x := by
      unfold NoticeUnit.better
      split
      · exact .inr rfl
      · exact .inl rfl
    refine ih _ ?_ fun y hy other => first y ?_ other
    · by_cases isBest : e = best
      · left
        subst isBest
        unfold NoticeUnit.better
        by_cases same : x = e
        · simp [same]
        · have := n.before_of_precedes (first x (.inr (List.mem_cons_self ..)) same)
          simp [this.2]
      · by_cases isX : e = x
        · left
          subst isX
          have := n.before_of_precedes (first best (.inl rfl) (Ne.symm isBest))
          simp [NoticeUnit.better, this.1]
        · rcases among with same | inside
          · exact absurd same isBest
          · exact .inr ((List.mem_cons.mp inside).resolve_left isX)
    · rcases hy with rfl | hy
      · rcases chosen with same | same
        · exact .inl same
        · exact .inr (List.mem_cons.mpr (.inl same))
      · exact .inr (List.mem_cons_of_mem _ hy)

theorem NoticeUnit.choice_eq {n : NoticeUnit} {e : PendingEntry} (inside : e ∈ n.entries)
    (first : ∀ x ∈ n.entries, x ≠ e → n.Precedes e x) : n.choice = some e := by
  unfold NoticeUnit.choice
  cases entries : n.entries with
  | nil => rw [entries] at inside; cases inside
  | cons x rest =>
    rw [entries] at inside first
    exact congrArg some (NoticeUnit.foldl_better rest x (List.mem_cons.mp inside) fun y hy => first y (List.mem_cons.mpr hy))

/-- Where each kind and source has one entry, the entries of an entry's pair are that entry. -/
theorem filter_pair_eq {entries : List PendingEntry} (pairs : (entries.map fun x => (x.kind, x.source)).Nodup)
    {e : PendingEntry} (inside : e ∈ entries) :
    entries.filter (fun x => !(decide (x.kind = e.kind) && decide (x.source = e.source)))
      = entries.filter fun x => decide (x ≠ e) := by
  refine List.filter_congr fun x hx => ?_
  have same : (x.kind = e.kind ∧ x.source = e.source) ↔ x = e := by
    constructor
    · rintro ⟨kind, source⟩
      exact List.inj_on_of_nodup_map pairs hx inside (Prod.ext kind source)
    · rintro rfl
      exact ⟨rfl, rfl⟩
  rw [← Bool.decide_and, ← decide_not]
  exact decide_eq_decide.mpr (not_congr same)

/-! ### What the port begins -/

section
variable {s : State}

theorem State.serveOut_busy (busy : s.service.sending ≠ none) : s.serveOut = s :=
  if_pos (Option.isSome_iff_ne_none.mpr busy)

theorem State.serveOut_reply {m : ManagementFrame} {rest : List ManagementFrame} (waits : s.service = ⟨none, m :: rest⟩) :
    s.serveOut = State.beginService (m.sentUnder s.settings) { s with service := ⟨none, rest⟩ } := by
  unfold State.serveOut
  rw [waits]
  rfl

theorem State.serveOut_gap (free : s.service = ⟨none, []⟩) (gap : s.notices.gapTimer ≠ none) : s.serveOut = s := by
  unfold State.serveOut
  rw [free]
  exact if_pos (Option.isSome_iff_ne_none.mpr gap)

theorem State.serveOut_quiet (free : s.service = ⟨none, []⟩) (gap : s.notices.gapTimer = none) : s.serveOut
    = match s.snapshotWaiting with
      | some (h, r) => s.sendSnapshot h r
      | none => match s.notices.choice with
        | some e => s.sendNotice e
        | none => s := by
  unfold State.serveOut
  rw [free, gap]
  rfl

theorem State.snapshotWaiting_none (empty : ∀ h, (s.channel h).slot = none) : s.snapshotWaiting = none :=
  List.findSome?_eq_none_iff.mpr fun h _ => by rw [empty h]; rfl

theorem findSome_finRange {n : Nat} {α : Type} {p : Fin n → Option α} {h : Fin n} {x : α} (here : p h = some x)
    (before : ∀ i, i < h → p i = none) : (List.finRange n).findSome? p = some x := by
  have first : (List.finRange n).find? (fun i => (p i).isSome) = some h :=
    find_finRange_eq_some (by rw [here]; rfl) fun i hi => by rw [before i hi]; rfl
  obtain ⟨-, front, back, split, none_before⟩ := List.find?_eq_some_iff_append.mp first
  have skipped : front.findSome? p = none := List.findSome?_eq_none_iff.mpr fun i hi => by
    simpa using none_before i hi
  rw [split, List.findSome?_append, skipped, List.findSome?_cons, here]
  rfl

theorem State.snapshotWaiting_some {h : ChannelId} {r : SnapshotRecord} (here : (s.channel h).slot = some r)
    (before : ∀ i, i < h → (s.channel i).slot = none) : s.snapshotWaiting = some (h, r) :=
  findSome_finRange (by rw [here]; rfl) fun i hi => by rw [before i hi]; rfl

theorem State.serveOut_snapshot {h : ChannelId} {r : SnapshotRecord} (free : s.service = ⟨none, []⟩)
    (gap : s.notices.gapTimer = none) (here : (s.channel h).slot = some r)
    (before : ∀ i, i < h → (s.channel i).slot = none) : s.serveOut = s.sendSnapshot h r := by
  rw [State.serveOut_quiet free gap, State.snapshotWaiting_some here before]

theorem State.serveOut_notice {e : PendingEntry} (free : s.service = ⟨none, []⟩) (gap : s.notices.gapTimer = none)
    (empty : ∀ h, (s.channel h).slot = none) (chosen : s.notices.choice = some e) : s.serveOut = s.sendNotice e := by
  rw [State.serveOut_quiet free gap, State.snapshotWaiting_none empty, chosen]

theorem State.serveOut_nothing (free : s.service = ⟨none, []⟩) (gap : s.notices.gapTimer = none)
    (empty : ∀ h, (s.channel h).slot = none) (quiet : s.notices.entries = []) : s.serveOut = s := by
  have none : s.notices.choice = none := by rw [NoticeUnit.choice, quiet]
  rw [State.serveOut_quiet free gap, State.snapshotWaiting_none empty, none]

end

/-! ### Where a reply goes (R161) -/

theorem lanesUp_eq_false_iff (v : ServiceState) : v.lanesUp = false ↔ v = .shed ∨ v = .off := by
  cases v <;> decide

/-- A fabric link's egress with a reply that joins it. -/
theorem FabricEgress.begin_reply (g : Settings) (v : ServiceState) (e : FabricEgress) (m : ManagementFrame) :
    FabricEgress.begin g v.lanesUp { e with replies := e.replies ++ [m] } = match e.sending, e.urgent with
      | some _, _ => { e with replies := e.replies ++ [m] }
      | none, f :: rest => { e with sending := some (f.sentUnder g), urgent := rest, replies := e.replies ++ [m] }
      | none, [] =>
        if v = .shed ∨ v = .off then { e with replies := [], forwards := [] }
        else { e with
          sending := (e.replies ++ [m]).head?.map fun x => .reply (x.sentUnder g)
          replies := (e.replies ++ [m]).drop 1 } := by
  obtain ⟨sending, urgent, replies, forwards⟩ := e
  cases sending with
  | some f => rfl
  | none =>
    cases urgent with
    | cons f rest => rfl
    | nil =>
      cases up : v.lanesUp with
      | false => rw [if_pos ((lanesUp_eq_false_iff v).mp up)]; rfl
      | true =>
        rw [if_neg (mt (lanesUp_eq_false_iff v).mpr (by simp [up]))]
        cases replies <;> rfl

/-- Settles O52: the port's order case by case, and every layout as the run of its fields. -/
theorem servicePortSendsInOrder : Obligations.ServicePortSendsInOrder := by
  intro s gap
  refine ⟨rfl, fun stopped => ?_, fun m runs => ?_, State.serveOut_busy, fun m rest waits => ?_, State.serveOut_gap,
    fun h r free stopped here before => ?_, fun free stopped empty => ?_, s.noticeBody_spells, fun r superseded => ?_,
    fun _ _ _ _ _ _ => rfl, fun r o fields data => ⟨rfl, fun service => ?_, fun j fabric => ?_⟩, fieldList_spells,
    ManagementFrame.bytes_spells, rfl, rfl⟩
  · show execGapTimerExpiry s = _
    rw [execGapTimerExpiry, stopped]
    rfl
  · show execGapTimerExpiry s = _
    rw [execGapTimerExpiry, runs]
    rfl
  · rw [State.serveOut_reply waits]
    rfl
  · rw [State.serveOut_snapshot free stopped here before]
    simp only [State.sendSnapshot, State.beginService, State.updChannel, free]
    rfl
  · refine ⟨State.serveOut_nothing free stopped empty, fun e inside pairs first => ?_⟩
    rw [State.serveOut_notice free stopped empty (NoticeUnit.choice_eq inside first)]
    unfold State.sendNotice
    simp only [State.updNotices, filter_pair_eq pairs inside]
    split <;> simp only [State.beginService, State.updLink, free] <;> rfl
  · obtain ⟨long, front⟩ := r.body_spells superseded
    exact ⟨long, front, fun j => SnapshotRecord.body_spells_link superseded, SnapshotRecord.body_no_link superseded⟩
  · rw [State.sendReply, service]
  · rw [State.sendReply, fabric]
    simp only [State.toFabric, State.updLink]
    rw [FabricEgress.begin_reply]
    rfl

end Sys2Proof.Machine
end

section
/-! PROOFS. Searches and the table's modes (R23 to R29, R34). -/

set_option Elab.async false

namespace Sys2Proof.Machine

/-! ### A search (R26) -/

theorem ProfileEntry.candidate_iff (e : ProfileEntry) (c : CageId) (key : BitVec 32) :
    (e.covers key && e.cageSet.getLsbD c) = true ↔ e.isCandidate c key := by
  have room : 0 < 2 ^ e.width := Nat.two_pow_pos _
  simp only [ProfileEntry.covers, Bool.and_eq_true, decide_eq_true_eq, ProfileEntry.isCandidate, and_assoc,
    Nat.le_sub_one_iff_lt (Nat.add_pos_right _ room)]

/-- A search goes on past the entries that do not end it. -/
theorem searchFrom_passed {c : CageId} {key : BitVec 32} {before : List ProfileEntry}
    (passed : ∀ x ∈ before, x.isPassed c key) (i : Nat) (rest : List ProfileEntry) :
    searchFrom c key i (before ++ rest) = searchFrom c key (i + before.length) rest := by
  induction before generalizing i with
  | nil => rfl
  | cons x before ih =>
    obtain ⟨intact, low, other⟩ := passed x (List.mem_cons_self ..)
    rw [List.cons_append, searchFrom, if_neg (by simp [intact]), if_neg (Nat.not_lt_of_le low),
      if_neg (mt (x.candidate_iff c key).mp other), ih fun y hy => passed y (List.mem_cons_of_mem _ hy), List.length_cons,
      Nat.add_right_comm, Nat.add_assoc i]

/-! ### The choice (R25) -/

theorem State.chooseSearch_busy {s : State} (busy : s.search.inFlight ≠ none ∨ s.search.editPending = true) :
    s.chooseSearch = s :=
  if_pos (Bool.or_eq_true_iff.mpr (busy.imp_left Option.isSome_iff_ne_none.mpr))

/-- The first waiting cage in cyclic order after the last served. -/
def State.nextWaiting (s : State) : Option CageId := (cagesAfter s.search.lastServed).find? s.search.waiting.get

/-- The unit with cage `c`'s search in flight. -/
def State.startSearch (c : CageId) (s : State) : State :=
  s.updSearch fun u => { u with inFlight := some (s.searchFor c), waiting := u.waiting.set c false, lastServed := c }

theorem State.chooseSearch_free {s : State} (free : s.search.inFlight = none) (edit : s.search.editPending = false) :
    s.chooseSearch = match s.nextWaiting with
      | none => s
      | some c => s.startSearch c := by
  refine (if_neg (by simp [free, edit])).trans ?_
  rfl

theorem State.nextWaiting_eq (s : State) :
    s.nextWaiting = ((List.finRange 16).find? fun n => s.search.waiting.get (s.search.lastServed + 1 + n)).map fun n =>
      s.search.lastServed + 1 + n := List.find?_map ..

theorem State.nextWaiting_none {s : State} (nobody : ∀ c, s.search.waiting.get c = false) : s.nextWaiting = none :=
  List.find?_eq_none.mpr fun c _ => Bool.eq_false_iff.mp (nobody c)

/-- The cage `n` places after the last served and one. -/
theorem cage_after {last c : CageId} {n : Nat} (small : n < 16) (place : c.val = (last.val + 1 + n) % 16) :
    last + 1 + (⟨n, small⟩ : CageId) = c := by
  apply Fin.ext
  rw [place, Fin.val_add, Fin.val_add]
  simp

/-- Settles O14. -/
theorem searchesRunInTurn : Obligations.SearchesRunInTurn := by
  refine ⟨fun c key before after e passed => ?_, fun s => ⟨fun idle => ?_, fun n c free edit small place waits first => ?_⟩⟩
  · have ends := searchFrom_passed passed 0 (e :: after)
    rw [Nat.zero_add] at ends
    refine ⟨?_, fun damaged => ?_, fun intact above => ?_, fun intact candidate => ?_⟩
    · rw [← List.append_nil before, searchFrom_passed passed 0 []]
      rfl
    · rw [ends, searchFrom, if_pos (by simp [damaged])]
    · rw [ends, searchFrom, if_neg (by simp [intact]), if_pos above]
    · rw [ends, searchFrom, if_neg (by simp [intact]), if_neg (Nat.not_lt_of_le candidate.1),
        if_pos ((e.candidate_iff c key).mpr candidate)]
  · by_cases busy : s.search.inFlight ≠ none ∨ s.search.editPending = true
    · exact State.chooseSearch_busy busy
    · have nobody := idle.resolve_left (fun h => busy (.inl h)) |>.resolve_left fun h => busy (.inr h)
      obtain ⟨free, edit⟩ := not_or.mp busy
      rw [State.chooseSearch_free (not_not.mp free) (Bool.eq_false_iff.mpr edit), State.nextWaiting_none nobody]
  · have found : (List.finRange 16).find? (fun n => s.search.waiting.get (s.search.lastServed + 1 + n)) = some ⟨n, small⟩ := by
      refine find_finRange_eq_some ?_ fun m before => first m.val _ before ?_
      · rw [cage_after small place, waits]
      · rw [Fin.val_add, Fin.val_add]
        simp
    have next : s.nextWaiting = some c := by
      rw [State.nextWaiting_eq, found, Option.map_some, cage_after small place]
    rw [State.chooseSearch_free free edit, next]
    rfl

end Sys2Proof.Machine
end

section
/-! PROOFS. TABLE-EDIT and TABLE-COMMIT (R23, R24, R34). -/

set_option Elab.async false

namespace Sys2Proof.Machine

/-- What an operation made in turn for many things leaves of one of them, where each turn changes its own thing alone. -/
theorem State.forEach_view {ι β : Type} [DecidableEq ι] {f : ι → State → State} {view : ι → State → β} {change : ι → β → β}
    (own : ∀ i t, view i (f i t) = change i (view i t)) (other : ∀ i j t, j ≠ i → view j (f i t) = view j t)
    {l : List ι} (nodup : l.Nodup) (s : State) (i : ι) :
    view i (s.forEach f l) = if i ∈ l then change i (view i s) else view i s := by
  induction l generalizing s with
  | nil => rfl
  | cons x rest ih =>
    obtain ⟨fresh, nodup⟩ := List.nodup_cons.mp nodup
    rw [State.forEach_cons, ih nodup]
    by_cases here : i = x
    · subst here
      rw [if_neg fresh, own, if_pos (List.mem_cons_self ..)]
    · simp only [other x i s here, List.mem_cons, here, false_or]

/-- Cages alone change. -/
theorem Touches.cages_eq {s t : State} (h : Touches Anywhere [.cages, .lines] s t) : t = { s with cages := t.cages } := h.eq

/-! ### The entry to EDIT (R24) -/

/-- The move of a cage that waits as the table enters EDIT. -/
def State.toProfileWait (s : State) (c : CageId) (t : State) : State :=
  if s.search.waiting.get c && (s.cage c).mode = .profiling then t.updCage c fun m => { m with mode := .profileWait } else t

theorem touches_toProfileWait (s : State) (c : CageId) (t : State) : Touches Anywhere [.cages, .lines] t (s.toProfileWait c t) :=
  .ite (fun _ => touches_updCage ..) fun _ => .refl ..

theorem State.forEach_toProfileWait (s : State) (c : CageId) : (s.forEach s.toProfileWait allCages).cage c
    = if s.search.waiting.get c = true ∧ (s.cage c).mode = .profiling then { s.cage c with mode := .profileWait }
      else s.cage c := by
  have view := State.forEach_view (f := s.toProfileWait) (view := fun c t => t.cage c)
    (change := fun c m => if s.search.waiting.get c && (s.cage c).mode = .profiling then { m with mode := .profileWait } else m)
    (fun c t => by
      unfold State.toProfileWait
      split
      · exact State.cage_updCage_self ..
      · rfl)
    (fun c d t other => by
      unfold State.toProfileWait
      split
      · exact State.cage_updCage_ne _ _ _ _ other.symm
      · rfl) allCages_nodup s c
  rw [if_pos (mem_allCages c)] at view
  simpa using view

theorem State.enterEdit_eq (s : State) : s.enterEdit = { s with
    table := { s.table with mode := .edit }
    search := { s.search with waiting := Bank.fill 16 false, editPending := false }
    cages := (s.forEach s.toProfileWait allCages).cages } := by
  have touched : Touches Anywhere [.cages, .lines] s (s.forEach s.toProfileWait allCages) :=
    .forEach fun c _ t => touches_toProfileWait s c t
  show { s.forEach s.toProfileWait allCages with
    table := { (s.forEach s.toProfileWait allCages).table with mode := .edit }
    search := { (s.forEach s.toProfileWait allCages).search with waiting := Bank.fill 16 false, editPending := false } } = _
  rw [touched.cages_eq]

/-! ### The return to ACTIVE (R24, R25, R34) -/

/-- A cage in PROFILE-WAIT joins the search. -/
def State.rejoin (c : CageId) (t : State) : State := if (t.cage c).mode = .profileWait then t.joinSearch c else t

theorem touches_joinSearch (c : CageId) (t : State) : Touches Anywhere [.cages, .lines, .search] t (t.joinSearch c) :=
  (touches_updCage c (fun m => { m with mode := .profiling }) t).trans (qs := [.search]) (touches_updSearch _ _)

theorem State.joinSearch_self (c : CageId) (t : State) : (t.joinSearch c).cage c = { t.cage c with mode := .profiling }
    ∧ (t.joinSearch c).search.waiting.get c = true :=
  ⟨State.cage_updCage_self c (fun m => { m with mode := .profiling }) t, Bank.get_set_self ..⟩

theorem State.joinSearch_ne {c d : CageId} (other : d ≠ c) (t : State) : (t.joinSearch c).cage d = t.cage d
    ∧ (t.joinSearch c).search.waiting.get d = t.search.waiting.get d :=
  ⟨State.cage_updCage_ne c d (fun m => { m with mode := .profiling }) t other.symm, Bank.get_set_ne _ _ _ _ other.symm⟩

theorem touches_rejoin (c : CageId) (t : State) : Touches Anywhere [.cages, .lines, .search] t (t.rejoin c) :=
  .ite (fun _ => touches_joinSearch c t) fun _ => .refl ..

theorem State.rejoin_search (c : CageId) (t : State) : (t.rejoin c).search = { t.search with
    waiting := (t.rejoin c).search.waiting } := by
  unfold State.rejoin
  split <;> rfl

/-- A cage and its place in the waiting set, rejoined. -/
def rejoined (x : Cage × Bool) : Cage × Bool :=
  if x.1.mode = .profileWait then ({ x.1 with mode := .profiling }, true) else x

theorem State.forEach_rejoin (s : State) (c : CageId) :
    ((s.forEach State.rejoin allCages).cage c, (s.forEach State.rejoin allCages).search.waiting.get c)
      = rejoined (s.cage c, s.search.waiting.get c) := by
  have view := State.forEach_view (f := State.rejoin) (view := fun c t => (t.cage c, t.search.waiting.get c))
    (change := fun _ => rejoined)
    (fun c t => by
      unfold State.rejoin rejoined
      split
      · exact Prod.ext (State.joinSearch_self c t).1 (State.joinSearch_self c t).2
      · rfl)
    (fun c d t other => by
      unfold State.rejoin
      split
      · exact Prod.ext (State.joinSearch_ne other t).1 (State.joinSearch_ne other t).2
      · rfl) allCages_nodup s c
  rwa [if_pos (mem_allCages c)] at view

theorem State.forEach_rejoin_eq (s : State) : s.forEach State.rejoin allCages = { s with
    cages := (s.forEach State.rejoin allCages).cages
    search := { s.search with waiting := (s.forEach State.rejoin allCages).search.waiting } } := by
  have touched : Touches Anywhere [.cages, .lines, .search] s (s.forEach State.rejoin allCages) :=
    .forEach fun c _ t => touches_rejoin c t
  have search : (s.forEach State.rejoin allCages).search
      = { s.search with waiting := (s.forEach State.rejoin allCages).search.waiting } := by
    refine State.forEach_keeps (fun t => t.search = { s.search with waiting := t.search.waiting }) _ _ s rfl
      fun c _ t same => ?_
    rw [State.rejoin_search, same]
  rw [← search]
  exact touched.eq

theorem rejoined_cage (x : Cage × Bool) :
    (rejoined x).1 = if x.1.mode = .profileWait then { x.1 with mode := .profiling } else x.1 := by
  unfold rejoined
  split <;> rfl

theorem rejoined_waits (x : Cage × Bool) : (rejoined x).2 = (x.2 || decide (x.1.mode = .profileWait)) := by
  unfold rejoined
  split <;> simp_all

theorem touches_startSearch (c : CageId) (s : State) : Touches Anywhere [.search] s (s.startSearch c) := touches_updSearch _ s

/-- A free unit, with what waits in its joined state. -/
theorem State.chooseSearch_of_waits {s : State} {waits : CageId → Bool} (free : s.search.inFlight = none)
    (edit : s.search.editPending = false) (waiting : ∀ c, s.search.waiting.get c = waits c) :
    (((List.finRange 16).find? fun n => waits (s.search.lastServed + 1 + n)) = none → s.chooseSearch = s)
    ∧ ∀ n, (List.finRange 16).find? (fun n => waits (s.search.lastServed + 1 + n)) = some n →
      s.chooseSearch = s.startSearch (s.search.lastServed + 1 + n) := by
  have next : s.nextWaiting = ((List.finRange 16).find? fun n => waits (s.search.lastServed + 1 + n)).map fun n =>
      s.search.lastServed + 1 + n := by
    simp only [State.nextWaiting_eq, waiting]
  rw [State.chooseSearch_free free edit, next]
  constructor
  · intro none
    rw [none]
    rfl
  · intro n some
    rw [some]
    rfl

section
variable {q : Requester} {s : State} {r : Request}

/-- A request laid out as `r` that reaches an idle engine is executed at once. -/
theorem serve_encoded {i : Instr} (f : State → State) (encodes : encodeRequest i = some r) (idle : s.engineIdle)
    (wf : i.WellFormed := by rfl) : serve i f s = .next (f (s.executing r)).settle := by
  obtain ⟨q, code, body, parts, rfl⟩ := encodeRequest_eq_some encodes
  exact serve_parts f parts idle wf

theorem State.holdEngine_executing (idle : s.engineIdle) :
    (s.executing r).holdEngine = s.withEngine { s.management with executing := some ⟨r, true⟩ } := by
  obtain ⟨_, queue⟩ := idle
  simp only [State.holdEngine, State.executing, State.updManagement, State.withEngine, queue, Option.map_some]

theorem exec_tableEdit_edit (idle : s.engineIdle) (edit : s.table.mode = .edit) :
    exec (.tableEdit q) s = .next (s.answered q 0x20 .done [] []) := by
  show execTableEdit q s = _
  unfold execTableEdit
  refine serve_refused .done [] [] rfl idle fun m => ?_
  rw [State.withEngine_table, edit]

theorem exec_tableEdit_active (idle : s.engineIdle) (active : s.table.mode = .active) (free : s.search.inFlight = none) :
    exec (.tableEdit q) s = .next (s.enterEdit.answered q 0x20 .done [] []) := by
  show execTableEdit q s = _
  unfold execTableEdit
  refine serve_answered State.enterEdit .done [] [] rfl idle (fun _ _ => (State.enterEdit_withEngine ..).symm) fun m => ?_
  rw [State.withEngine_table, active]
  exact if_neg (by simp [free])

theorem exec_tableEdit_searching (idle : s.engineIdle) (active : s.table.mode = .active) (busy : s.search.inFlight ≠ none)
    (encodes : encodeRequest (.tableEdit q) = some r) : exec (.tableEdit q) s = .next { s with
      search := { s.search with editPending := true }
      management := { s.management with executing := some ⟨r, true⟩ } }.settle := by
  show execTableEdit q s = _
  unfold execTableEdit
  rw [serve_encoded _ encodes idle]
  refine congrArg (fun t => Host.Outcome.next (State.settle t)) ?_
  have mode : (s.executing r).table.mode = .active := active
  dsimp only
  rw [mode]
  refine (if_pos (Option.isSome_iff_ne_none.mpr busy)).trans ?_
  exact State.holdEngine_executing (s := { s with search := { s.search with editPending := true } }) idle

theorem exec_tableCommit_active {x : BitVec 32} (idle : s.engineIdle) (active : s.table.mode = .active) :
    exec (.tableCommit q x) s = .next (s.answered q 0x24 .wrongState [] []) := by
  show execTableCommit q x s = _
  unfold execTableCommit
  exact serve_refused .wrongState [] [] rfl idle fun m => if_pos active

theorem exec_tableCommit_edit {x : BitVec 32} (idle : s.engineIdle) (edit : s.table.mode = .edit)
    (encodes : encodeRequest (.tableCommit q x) = some r) : exec (.tableCommit q x) s = .next { s with
      management := { s.management with executing := some ⟨r, true⟩, commitView := some s.table.entries } }.settle := by
  show execTableCommit q x s = _
  unfold execTableCommit
  rw [serve_encoded _ encodes idle]
  refine congrArg (fun t => Host.Outcome.next (State.settle t)) ?_
  refine (if_neg (by show s.table.mode ≠ .active; rw [edit]; decide)).trans ?_
  exact State.holdEngine_executing (s := { s with management := { s.management with commitView := some s.table.entries } }) idle

/-! ### The sum's end (R34) -/

variable {x : BitVec 32} {view : List ProfileEntry}

theorem State.commitEnded_eq (executing : s.management.executing = some ⟨r, true⟩)
    (decodes : decodeRequest r = .ok (.tableCommit q x)) (sums : s.management.commitView = some view) :
    s.commitEnded =
      if tableChecksum view = x then (s.withEngine { s.management with commitView := none }).enterActive.respond .done []
        (bytes32 (tableChecksum view))
      else (s.withEngine { s.management with commitView := none }).respond .checksumMismatch []
        (bytes32 (tableChecksum view)) := by
  have supplied : s.checksumSupplied = some x := by
    unfold State.checksumSupplied
    rw [executing]
    simp only [decodes, if_true]
  unfold State.commitEnded
  rw [sums, supplied]
  rfl

/-- The table is ACTIVE again, with no fault record. -/
def State.opened (s : State) : State := { s with table := { s.table with mode := .active, fault := none } }

/-- The table as it is ACTIVE again, with every cage that waited for it joined. -/
@[irreducible] def State.reopened (s : State) : State := s.opened.forEach State.rejoin allCages

theorem State.enterActive_eq (s : State) : s.enterActive = s.reopened.chooseSearch := by
  unfold State.reopened
  rfl

theorem State.reopened_eq (s : State) : s.reopened = { s with
    table := { s.table with mode := .active, fault := none }
    cages := s.reopened.cages
    search := { s.search with waiting := s.reopened.search.waiting } } := by
  have joined := State.forEach_rejoin_eq s.opened
  unfold State.reopened
  generalize s.opened.forEach State.rejoin allCages = t at joined ⊢
  exact joined

theorem State.reopened_view (s : State) (c : CageId) : (s.reopened.cage c, s.reopened.search.waiting.get c)
    = rejoined (s.cage c, s.search.waiting.get c) := by
  unfold State.reopened
  exact s.opened.forEach_rejoin c

theorem State.reopened_cage (s : State) (c : CageId) : s.reopened.cage c
    = if (s.cage c).mode = .profileWait then { s.cage c with mode := .profiling } else s.cage c :=
  (congrArg Prod.fst (s.reopened_view c)).trans (rejoined_cage _)

theorem State.reopened_waits (s : State) (c : CageId) : s.reopened.search.waiting.get c
    = (s.search.waiting.get c || decide ((s.cage c).mode = .profileWait)) :=
  (congrArg Prod.snd (s.reopened_view c)).trans (rejoined_waits _)

theorem touches_reopened (s : State) : Touches Anywhere [.table, .cages, .lines, .search] s s.reopened := by
  unfold State.reopened
  exact
  (touches_setTable { s.table with mode := .active, fault := none } s rfl).trans (qs := [.cages, .lines, .search])
    (.forEach fun c _ t => touches_rejoin c t)

theorem touches_enterActive (s : State) : Touches Anywhere [.table, .cages, .lines, .search] s s.enterActive := by
  rw [State.enterActive_eq]
  exact (touches_reopened s).trans (touches_chooseSearch s.reopened)

theorem State.enterActive_table (s : State) : s.enterActive.table = { s.table with mode := .active, fault := none } := by
  have table : s.reopened.table = { s.table with mode := .active, fault := none } := congrArg State.table s.reopened_eq
  rw [State.enterActive_eq, (touches_chooseSearch (W := Anywhere) s.reopened).table, table]

theorem State.enterActive_shape (s : State) : s.enterActive = { s with
    table := { s.table with mode := .active, fault := none }
    cages := s.enterActive.cages
    search := s.enterActive.search } := by
  have touched := (touches_enterActive s).eq
  have table := s.enterActive_table
  generalize s.enterActive = t at *
  calc t = { s with table := t.table, cages := t.cages, search := t.search } := touched
    _ = _ := by rw [table]

theorem State.enterActive_cage (s : State) (c : CageId) : s.enterActive.cage c
    = if (s.cage c).mode = .profileWait then { s.cage c with mode := .profiling } else s.cage c := by
  have same := (touches_chooseSearch (W := Anywhere) s.reopened).cages
  rw [State.enterActive_eq, State.cage, same]
  exact s.reopened_cage c

/-- A unit of which nobody joins the waiting set. -/
theorem State.reopened_search {s : State} (nobody : ∀ c, s.reopened.search.waiting.get c = s.search.waiting.get c) :
    s.reopened.search = s.search := by
  have waiting : s.reopened.search.waiting = s.search.waiting := Bank.eq_of_get _ _ nobody
  have search : s.reopened.search = { s.search with waiting := s.reopened.search.waiting } :=
    congrArg State.search s.reopened_eq
  rw [search, waiting]

end

/-- A cyclic walk of 16 places meets every cage. -/
theorem exists_place (last c : CageId) : ∃ n : Fin 16, last + 1 + n = c := ⟨c - (last + 1), by abel⟩

/-- Settles O15. -/
theorem tableModesChange : Obligations.TableModesChange := by
  refine ⟨fun q x s r idle => ⟨exec_tableEdit_edit idle, fun active free => ?_, exec_tableEdit_searching idle,
    exec_tableCommit_active idle, exec_tableCommit_edit idle⟩, fun s r q x view executing decodes sums => ?_⟩
  · refine ⟨s.enterEdit, exec_tableEdit_active idle active free, s.enterEdit_eq, fun c => ?_⟩
    rw [State.enterEdit_eq]
    exact s.forEach_toProfileWait c
  · intro base
    have ended := State.commitEnded_eq executing decodes sums
    refine ⟨fun wrong => ?_, fun right => ?_⟩
    · rw [if_neg wrong] at ended
      exact congrArg (fun t => Host.Outcome.next (State.settle t)) ended
    · rw [if_pos right, right] at ended
      refine ⟨base.enterActive, congrArg (fun t => Host.Outcome.next (State.settle t)) ended, base.enterActive_shape,
        base.enterActive_cage, fun free edit => ?_⟩
      · intro waits next
        have search : base.reopened.search = { s.search with waiting := base.reopened.search.waiting } :=
          congrArg State.search base.reopened_eq
        have free' : base.reopened.search.inFlight = none := by rw [search]; exact free
        have edit' : base.reopened.search.editPending = false := by rw [search]; exact edit
        have last : base.reopened.search.lastServed = s.search.lastServed := by rw [search]
        have chosen := State.chooseSearch_of_waits free' edit' base.reopened_waits
        rw [last] at chosen
        refine ⟨fun nothing => ?_, fun n found => ?_⟩
        · have nobody (c : CageId) : waits c = false := by
            obtain ⟨n, rfl⟩ := exists_place s.search.lastServed c
            exact Bool.eq_false_iff.mpr (List.find?_eq_none.mp nothing n (List.mem_finRange n))
          have same := State.reopened_search (s := base) fun c => by
            have idle : (base.search.waiting.get c || decide ((base.cage c).mode = .profileWait)) = false := nobody c
            rw [State.reopened_waits, idle]
            exact (Bool.or_eq_false_iff.mp idle).1.symm
          rw [State.enterActive_eq, chosen.1 nothing]
          exact same
        · have started := chosen.2 n found
          have cage := base.reopened_cage (s.search.lastServed + 1 + n)
          have table : base.reopened.table.entries = s.table.entries := (touches_reopened base).same .entries (by decide)
          refine ⟨?_, ?_, fun d => ?_⟩ <;> rw [State.enterActive_eq, started]
          · rfl
          · show some (base.reopened.searchFor (s.search.lastServed + 1 + n)) = _
            rw [State.searchFor, cage, table]
            split <;> rfl
          · show (base.reopened.search.waiting.set (s.search.lastServed + 1 + n) false).get d = _
            rw [Bank.get_set, base.reopened_waits d]
            by_cases chosenCage : d = s.search.lastServed + 1 + n
            · simp [chosenCage]
            · simp [chosenCage, Ne.symm chosenCage]
              rfl

end Sys2Proof.Machine
end

section
/-! PROOFS. The module bus controllers: their choice, and the pass-through slot (R11, R14). -/

set_option Elab.async false

namespace Sys2Proof.Machine

/-! ### The choice (R11) -/

theorem cyclicAfter_eq (p : Fin 4) : cyclicAfter p = (List.finRange 4).map fun n => p + 1 + n := by
  revert p
  decide

/-- The place `n` after the last served and one. -/
theorem place_after {last p : Fin 4} {n : Nat} (small : n < 4) (place : p.val = (last.val + 1 + n) % 4) :
    last + 1 + (⟨n, small⟩ : Fin 4) = p := by
  apply Fin.ext
  rw [place, Fin.val_add, Fin.val_add]
  simp

section
variable {s : State} {k : ControllerId}

theorem State.nextCage_none (nobody : ∀ p, (s.cage (cageAt k p)).busRequests = []) : s.nextCage k = none :=
  List.findSome?_eq_none_iff.mpr fun p _ => by rw [nobody p]; rfl

theorem State.nextCage_some {n : Nat} {p : Fin 4} {r : BusRequest} {rest : List BusRequest} (small : n < 4)
    (place : p.val = ((s.controller k).lastServed.val + 1 + n) % 4) (waits : (s.cage (cageAt k p)).busRequests = r :: rest)
    (before : ∀ (m : Nat) (o : Fin 4), m < n → o.val = ((s.controller k).lastServed.val + 1 + m) % 4 →
      (s.cage (cageAt k o)).busRequests = []) : s.nextCage k = some (p, r) := by
  rw [State.nextCage, cyclicAfter_eq, List.findSome?_map]
  refine findSome_finRange (h := ⟨n, small⟩) ?_ fun m hm => ?_
  · rw [Function.comp_apply, place_after small place, waits]
    rfl
  · rw [Function.comp_apply, before m.val _ hm]
    · rfl
    · rw [Fin.val_add, Fin.val_add]
      simp

theorem State.chooseBus_busy (busy : (s.controller k).inFlight ≠ none) : s.chooseBus k = s :=
  if_pos (Option.isSome_iff_ne_none.mpr busy)

theorem State.chooseBus_free (free : (s.controller k).inFlight = none) : s.chooseBus k
    = match (s.controller k).slot, s.nextCage k with
      | some r, none => s.startPassThrough k r
      | some r, some (p, q) => if 4 ≤ (s.controller k).bypass then s.startPassThrough k r else s.startCageRequest k p q
      | none, some (p, q) => s.startCageRequest k p q
      | none, none => s := by
  refine (if_neg (by simp [free])).trans ?_
  rfl

theorem State.chooseBus_nothing (empty : (s.controller k).slot = none)
    (nobody : ∀ p, (s.cage (cageAt k p)).busRequests = []) : s.chooseBus k = s := by
  by_cases free : (s.controller k).inFlight = none
  · rw [State.chooseBus_free free, empty, State.nextCage_none nobody]
  · exact State.chooseBus_busy free

theorem State.chooseBus_passThrough {r : BusRequest} (free : (s.controller k).inFlight = none)
    (slot : (s.controller k).slot = some r)
    (due : (∀ p, (s.cage (cageAt k p)).busRequests = []) ∨ 4 ≤ (s.controller k).bypass) :
    s.chooseBus k = s.startPassThrough k r := by
  rw [State.chooseBus_free free, slot]
  rcases due with nobody | bypassed
  · rw [State.nextCage_none nobody]
  · cases s.nextCage k with
    | none => rfl
    | some x => exact if_pos bypassed

theorem State.chooseBus_cage {p : Fin 4} {r : BusRequest} (free : (s.controller k).inFlight = none)
    (next : s.nextCage k = some (p, r)) (early : (s.controller k).slot = none ∨ (s.controller k).bypass < 4) :
    s.chooseBus k = s.startCageRequest k p r := by
  rw [State.chooseBus_free free, next]
  cases slot : (s.controller k).slot with
  | none => rfl
  | some x => exact if_neg (Nat.not_le_of_lt (early.resolve_left (by simp [slot])))

end

/-- What starts a transaction reads the request's cage's page record alone. -/
theorem State.transaction_eq (s : State) (r : BusRequest) : s.transaction r
    = ⟨r, 1, s.settings.pageSelectLocation, decide ((s.cage r.cage).lastPage ≠ some r.page), false, false, false⟩ := rfl

theorem State.updController_eq (k : ControllerId) (f : Controller → Controller) (s : State) :
    s.updController k f = { s with controllers := s.controllers.set k (f (s.controller k)) } := rfl

theorem Bank.set_set {n : Nat} {α : Type} (b : Bank n α) (i : Fin n) (x y : α) : (b.set i x).set i y = b.set i y :=
  Bank.eq_of_get _ _ fun j => by
    simp only [Bank.get_set]
    split <;> rfl

theorem State.updController_updController (k : ControllerId) (f g : Controller → Controller) (s : State) :
    (s.updController k f).updController k g = s.updController k fun c => g (f c) := by
  rw [State.updController_eq, State.controller_updController_self, State.updController_eq, State.updController_eq]
  exact congrArg (fun b => { s with controllers := b }) (Bank.set_set ..)

theorem State.startPassThrough_eq (k : ControllerId) (r : BusRequest) (s : State) : s.startPassThrough k r = { s with
    controllers := s.controllers.set k { s.controller k with
      slot := none, bypass := 0, inFlight := some (s.transaction r) } } :=
  State.updController_updController k (fun c => { c with slot := none, bypass := 0 })
    (fun c => { c with inFlight := some (s.transaction r) }) s

/-- A cage with its oldest request gone has the page record it had. -/
theorem State.lastPage_updRequests (c d : CageId) (f : List BusRequest → List BusRequest) (s : State) :
    ((s.updCage c fun m => { m with busRequests := f m.busRequests }).cage d).lastPage = (s.cage d).lastPage := by
  by_cases same : c = d
  · subst same
    rw [State.cage_updCage_self]
  · rw [State.cage_updCage_ne _ _ _ _ same]

theorem State.startCageRequest_eq {k : ControllerId} {p : Fin 4} {r : BusRequest} {rest : List BusRequest} {s : State}
    (waits : (s.cage (cageAt k p)).busRequests = r :: rest) : s.startCageRequest k p r = { s with
      cages := s.cages.set (cageAt k p) { s.cage (cageAt k p) with busRequests := rest }
      controllers := s.controllers.set k { s.controller k with
        lastServed := p
        bypass := if (s.controller k).slot = none then (s.controller k).bypass else (s.controller k).bypass + 1
        inFlight := some (s.transaction r) } } := by
  have begun (u : Controller → Controller) : ((s.updController k u).updCage (cageAt k p) fun c =>
      { c with busRequests := c.busRequests.tail }).transaction r = s.transaction r := by
    rw [State.transaction_eq, State.lastPage_updRequests]
    rfl
  have tail : { s.cage (cageAt k p) with busRequests := (s.cage (cageAt k p)).busRequests.tail }
      = { s.cage (cageAt k p) with busRequests := rest } := by rw [waits]; rfl
  have bypass : (if (s.controller k).slot.isSome then (s.controller k).bypass + 1 else (s.controller k).bypass)
      = if (s.controller k).slot = none then (s.controller k).bypass else (s.controller k).bypass + 1 := by
    cases (s.controller k).slot <;> rfl
  unfold State.startCageRequest
  dsimp only
  rw [State.startTransaction, begun, ← bypass, ← tail]
  exact congrArg (State.updCage (cageAt k p) fun c => { c with busRequests := c.busRequests.tail })
    (State.updController_updController k
      (fun c => { c with lastServed := p, bypass := if c.slot.isSome then c.bypass + 1 else c.bypass })
      (fun c => { c with inFlight := some (s.transaction r) }) s)

/-- Settles O19. -/
theorem controllerChoosesInTurn : Obligations.ControllerChoosesInTurn := by
  intro k s c waits begun
  refine ⟨State.chooseBus_busy, State.chooseBus_nothing, fun r free slot due => ?_,
    fun n p r rest small place here before free early => ?_⟩
  · rw [State.chooseBus_passThrough free slot due, State.startPassThrough_eq]
    rfl
  · rw [State.chooseBus_cage free (State.nextCage_some small place here before) early, State.startCageRequest_eq here]
    rfl

/-! ### The pass-through slot (R14) -/

section
variable {i : Instr} {q : Requester} {code : Byte} {body : List Byte} {s : State}
  {cage page offset length : Byte} {limit : Nat} {kind : BusKind} {data : List Byte}

theorem serve_passThrough_bad (parts : requestParts i = some (q, code, body)) (idle : s.engineIdle) (wf : i.WellFormed)
    (bad : 15 < cage.toNat ∨ ¬ (1 ≤ length.toNat ∧ length.toNat ≤ limit ∧ offset.toNat + length.toNat ≤ 256)) :
    serve i (State.passThrough cage page offset length limit kind data) s = .next (s.answered q code .badArgument [] []) := by
  refine serve_refused .badArgument [] [] parts idle (fun m => ?_) wf
  refine if_pos ?_
  simp only [Bool.or_eq_true, decide_eq_true_eq, Bool.not_eq_true', inRange]
  rw [← Bool.not_eq_true]
  simp only [Bool.and_eq_true, decide_eq_true_eq]
  omega

theorem passThrough_checked {c : CageId} (here : c.val = cage.toNat) (s : State)
    (good : 1 ≤ length.toNat ∧ length.toNat ≤ limit ∧ offset.toNat + length.toNat ≤ 256) :
    s.passThrough cage page offset length limit kind data = match (s.cage c).mode.passThrough with
      | some o => s.respond o
      | none => s.holdEngine.placePassThrough
        { requester := .passThrough, cage := c, kind := kind, page := page, offset := offset, length := length.toNat,
          data := data.take length.toNat } := by
  have inside := c.isLt
  unfold State.passThrough
  rw [indexOf_val (by decide) c here]
  refine if_neg ?_
  simp only [Bool.or_eq_true, decide_eq_true_eq, Bool.not_eq_true', inRange]
  rw [← Bool.not_eq_true]
  simp only [Bool.and_eq_true, decide_eq_true_eq]
  omega

theorem serve_passThrough_refused {c : CageId} {o : RequestOutcome} (parts : requestParts i = some (q, code, body))
    (idle : s.engineIdle) (wf : i.WellFormed) (here : c.val = cage.toNat)
    (good : 1 ≤ length.toNat ∧ length.toNat ≤ limit ∧ offset.toNat + length.toNat ≤ 256)
    (refused : (s.cage c).mode.passThrough = some o) :
    serve i (State.passThrough cage page offset length limit kind data) s = .next (s.answered q code o [] []) := by
  refine serve_refused o [] [] parts idle (fun m => ?_) wf
  rw [passThrough_checked here _ good, State.withEngine_cage, refused]

theorem serve_passThrough_taken {c : CageId} {r : Request} (encodes : encodeRequest i = some r) (idle : s.engineIdle)
    (wf : i.WellFormed) (here : c.val = cage.toNat)
    (good : 1 ≤ length.toNat ∧ length.toNat ≤ limit ∧ offset.toNat + length.toNat ≤ 256)
    (taken : (s.cage c).mode.passThrough = none) :
    serve i (State.passThrough cage page offset length limit kind data) s = .next (State.chooseBus (controllerOf c) { s with
      management := { s.management with executing := some ⟨r, true⟩ }
      controllers := s.controllers.set (controllerOf c) { s.controller (controllerOf c) with
        slot := some ⟨.passThrough, c, kind, page, offset, length.toNat, data.take length.toNat⟩
        bypass := 0 } }).settle := by
  rw [serve_encoded _ encodes idle wf, passThrough_checked here _ good]
  have mode : ((s.executing r).cage c).mode.passThrough = none := taken
  rw [mode, State.holdEngine_executing idle]
  rfl

end

/-- Settles O20. -/
theorem passThroughEntersSlot : Obligations.PassThroughEntersSlot := by
  intro q cage page offset length data s write sent idle long command code limit good
  have wf : (Instr.moduleWrite q cage page offset length data).WellFormed := decide_eq_true long
  have form : exec command s
      = serve command (State.passThrough cage page offset length limit (if write then .write else .read)
        (if write then data else [])) s := by
    cases write <;> rfl
  have parts : ∃ body, requestParts command = some (q, code, body) := by cases write <;> exact ⟨_, rfl⟩
  have wellFormed : command.WellFormed := by
    cases write
    · rfl
    · exact wf
  obtain ⟨body, parts⟩ := parts
  have taken : (if write then data else []).take length.toNat = if write then data.take length.toNat else [] := by
    cases write
    · exact List.take_nil
    · rfl
  rw [form]
  refine ⟨serve_passThrough_bad parts idle wellFormed, fun c here fine => ⟨fun absent => ?_, fun waiting => ?_,
    fun present seated engaged encodes => ?_⟩⟩
  · refine serve_passThrough_refused parts idle wellFormed here fine ?_
    rcases absent with mode | mode <;> rw [mode] <;> rfl
  · refine serve_passThrough_refused parts idle wellFormed here fine ?_
    rw [waiting]
    rfl
  · have none : (s.cage c).mode.passThrough = none := by
      cases mode : (s.cage c).mode <;> first | rfl | exact absurd mode ‹_›
    rw [serve_passThrough_taken encodes idle wellFormed here fine none, taken]

end Sys2Proof.Machine
end

section
/-! PROOFS. What a controller's choice and a placed read leave (R7, R11). -/

set_option Elab.async false

namespace Sys2Proof.Machine

theorem controllerOf_cageAt (k : ControllerId) (p : Fin 4) : controllerOf (cageAt k p) = k := by
  revert k p
  decide

/-- A controller has chosen: nothing but it and one of its cages' lists changes, and the oldest request of a list that
changes is in flight (R11). -/
structure Served (k : ControllerId) (s t : State) : Prop where
  shape : t = { s with cages := t.cages, controllers := t.controllers }
  cages : ∀ d, t.cage d = s.cage d ∨ ∃ x r rest, controllerOf d = k ∧ (s.cage d).busRequests = r :: rest
    ∧ (t.controller k).inFlight = some x ∧ x.request = r ∧ x.attempt = 1
    ∧ t.cage d = { s.cage d with busRequests := rest }
  controllers : ∀ i, i ≠ k → t.controller i = s.controller i

theorem Served.refl (k : ControllerId) (s : State) : Served k s s := ⟨rfl, fun _ => .inl rfl, fun _ _ => rfl⟩

theorem State.nextCage_waits {s : State} {k : ControllerId} {p : Fin 4} {r : BusRequest} (next : s.nextCage k = some (p, r)) :
    ∃ rest, (s.cage (cageAt k p)).busRequests = r :: rest := by
  obtain ⟨o, -, waits⟩ := List.exists_of_findSome?_eq_some next
  cases requests : (s.cage (cageAt k o)).busRequests with
  | nil => rw [requests] at waits; cases waits
  | cons x rest =>
    rw [requests] at waits
    obtain ⟨rfl, rfl⟩ := Prod.mk.inj (Option.some.inj waits)
    exact ⟨rest, requests⟩

/-- A free controller's choice: nothing, its pass-through, or a cage's oldest request. -/
theorem State.chooseBus_cases (k : ControllerId) (s : State) :
    (s.chooseBus k = s ∧ ((s.controller k).inFlight = none → s.nextCage k = none))
    ∨ (∃ r, s.chooseBus k = s.startPassThrough k r)
    ∨ ∃ p r rest, (s.cage (cageAt k p)).busRequests = r :: rest ∧ s.chooseBus k = s.startCageRequest k p r := by
  by_cases free : (s.controller k).inFlight = none
  · rw [State.chooseBus_free free]
    cases next : s.nextCage k with
    | none =>
      cases (s.controller k).slot with
      | none => exact .inl ⟨rfl, fun _ => rfl⟩
      | some r => exact .inr (.inl ⟨r, rfl⟩)
    | some x =>
      obtain ⟨rest, waits⟩ := State.nextCage_waits next
      have chosen : ∃ p r rest, (s.cage (cageAt k p)).busRequests = r :: rest
          ∧ s.startCageRequest k x.1 x.2 = s.startCageRequest k p r := ⟨_, _, _, waits, rfl⟩
      cases (s.controller k).slot with
      | none => exact .inr (.inr chosen)
      | some r =>
        by_cases bypassed : 4 ≤ (s.controller k).bypass
        · exact .inr (.inl ⟨r, if_pos bypassed⟩)
        · exact .inr (.inr (by simpa only [if_neg bypassed] using chosen))
  · exact .inl ⟨State.chooseBus_busy free, fun h => absurd h free⟩

theorem served_startPassThrough (k : ControllerId) (r : BusRequest) (s : State) : Served k s (s.startPassThrough k r) := by
  rw [State.startPassThrough_eq]
  exact ⟨rfl, fun _ => .inl rfl, fun i other => Bank.get_set_ne _ _ _ _ other.symm⟩

theorem served_startCageRequest {k : ControllerId} {p : Fin 4} {r : BusRequest} {rest : List BusRequest} {s : State}
    (waits : (s.cage (cageAt k p)).busRequests = r :: rest) : Served k s (s.startCageRequest k p r) := by
  rw [State.startCageRequest_eq waits]
  refine ⟨rfl, fun d => ?_, fun i other => Bank.get_set_ne _ _ _ _ other.symm⟩
  by_cases here : cageAt k p = d
  · subst here
    exact .inr ⟨s.transaction r, r, rest, controllerOf_cageAt k p, waits,
      congrArg Controller.inFlight (Bank.get_set_self ..), rfl, rfl, Bank.get_set_self ..⟩
  · exact .inl (Bank.get_set_ne _ _ _ _ here)

theorem served_chooseBus (k : ControllerId) (s : State) : Served k s (s.chooseBus k) := by
  obtain ⟨same, -⟩ | ⟨r, starts⟩ | ⟨p, r, rest, waits, starts⟩ := s.chooseBus_cases k
  · rw [same]
    exact .refl k s
  · rw [starts]
    exact served_startPassThrough k r s
  · rw [starts]
    exact served_startCageRequest waits

/-- A controller that has chosen has nothing more to choose. -/
theorem State.chooseBus_chooseBus (k : ControllerId) (s : State) : (s.chooseBus k).chooseBus k = s.chooseBus k := by
  obtain ⟨same, -⟩ | ⟨r, starts⟩ | ⟨p, r, rest, waits, starts⟩ := s.chooseBus_cases k
  · rw [same, same]
  · rw [starts]
    refine State.chooseBus_busy ?_
    rw [State.startPassThrough_eq, State.controller, Bank.get_set_self]
    exact Option.some_ne_none _
  · rw [starts]
    refine State.chooseBus_busy ?_
    rw [State.startCageRequest_eq waits, State.controller, Bank.get_set_self]
    exact Option.some_ne_none _

/-- Cage `c` and its controller alone are not as they were. -/
structure OnlyBusOf (c : CageId) (s t : State) : Prop where
  cages : ∀ d, d ≠ c → t.cage d = s.cage d
  controllers : ∀ k, k ≠ controllerOf c → t.controller k = s.controller k

theorem OnlyBusOf.refl (c : CageId) (s : State) : OnlyBusOf c s s := ⟨fun _ _ => rfl, fun _ _ => rfl⟩

theorem OnlyBusOf.trans {c : CageId} {s t u : State} (h : OnlyBusOf c s t) (g : OnlyBusOf c t u) : OnlyBusOf c s u :=
  ⟨fun d n => (g.cages d n).trans (h.cages d n), fun k n => (g.controllers k n).trans (h.controllers k n)⟩

theorem onlyBusOf_updCage (c : CageId) (f : Cage → Cage) (s : State) : OnlyBusOf c s (s.updCage c f) :=
  ⟨fun _ n => State.cage_updCage_ne _ _ _ _ n.symm, fun _ _ => rfl⟩

theorem onlyBusOf_updController (c : CageId) (f : Controller → Controller) (s : State) :
    OnlyBusOf c s (s.updController (controllerOf c) f) :=
  ⟨fun _ _ => rfl, fun _ n => State.controller_updController_ne _ _ _ _ n.symm⟩

theorem Served.busTouched {c : CageId} {s t u : State} (h : Served (controllerOf c) t u) (only : OnlyBusOf c s t) :
    BusTouched c s u := by
  refine ⟨fun d other => ?_, fun k other => (h.controllers k other).trans (only.controllers k other)⟩
  rcases h.cages d with same | ⟨x, r, rest, same, waits, starts, request, attempt, cage⟩
  · exact .inl (same.trans (only.cages d other))
  · rw [only.cages d other] at waits cage
    exact .inr ⟨x, r, rest, waits, same ▸ starts, request, attempt, cage⟩

theorem OnlyBusOf.busTouched {c : CageId} {s t : State} (h : OnlyBusOf c s t) : BusTouched c s t :=
  ⟨fun d other => .inl (h.cages d other), h.controllers⟩

/-! ### A read placed (R7) -/

/-- The read that a cage monitor places for a purpose. -/
def State.readOf (s : State) (c : CageId) (purpose : Purpose) (page offset : Byte) (length : Nat) : BusRequest :=
  ⟨.monitor purpose (s.cage c).visit, c, .read, page, offset, length, []⟩

/-- A read placed for cage `c`, from `s` to `t`. -/
structure ReadPlaced (c : CageId) (purpose : Purpose) (page offset : Byte) (length : Nat) (s t : State) : Prop where
  shape : t = { s with cages := t.cages, controllers := t.controllers }
  touched : BusTouched c s t
  cage : t.cage c = { s.cage c with busRequests := (t.cage c).busRequests }
  holds : t.holdsRead c purpose page offset length

/-- A request that waits on a list as a controller chooses waits still or is in flight. -/
theorem Served.holds {c : CageId} {s t : State} (h : Served (controllerOf c) s t) {r : BusRequest}
    (waits : r ∈ (s.cage c).busRequests) : r ∈ (t.cage c).busRequests
      ∨ ∃ x, (t.controller (controllerOf c)).inFlight = some x ∧ x.request = r := by
  rcases h.cages c with same | ⟨x, first, rest, -, list, starts, request, -, cage⟩
  · exact .inl (same ▸ waits)
  · rw [list] at waits
    rcases List.mem_cons.mp waits with rfl | later
    · exact .inr ⟨x, starts, request⟩
    · left
      rw [cage]
      exact later

theorem Served.cage_eq {k : ControllerId} {s t : State} (h : Served k s t) (c : CageId) :
    t.cage c = { s.cage c with busRequests := (t.cage c).busRequests } := by
  rcases h.cages c with same | ⟨x, r, rest, -, -, -, -, -, cage⟩
  · rw [same]
  · rw [cage]

theorem readPlaced_placeRead (c : CageId) (purpose : Purpose) (page offset : Byte) (length : Nat) (s : State) :
    ReadPlaced c purpose page offset length s (s.placeRead c purpose page offset length) := by
  have served := served_chooseBus (controllerOf c)
    (s.updCage c fun m => { m with busRequests := m.busRequests ++ [s.readOf c purpose page offset length] })
  have only := onlyBusOf_updCage c (fun m => { m with busRequests := m.busRequests ++ [s.readOf c purpose page offset length] }) s
  have before : ((s.updCage c fun m =>
      { m with busRequests := m.busRequests ++ [s.readOf c purpose page offset length] }).cage c)
      = { s.cage c with busRequests := (s.cage c).busRequests ++ [s.readOf c purpose page offset length] } :=
    State.cage_updCage_self ..
  have cage := served.cage_eq c
  have holds := served.holds (r := s.readOf c purpose page offset length) (by rw [before]; simp)
  have shape := served.shape
  have touched := served.busTouched only
  have form : s.placeRead c purpose page offset length = State.chooseBus (controllerOf c)
      (s.updCage c fun m => { m with busRequests := m.busRequests ++ [s.readOf c purpose page offset length] }) := rfl
  rw [← form] at cage holds shape touched
  generalize s.placeRead c purpose page offset length = t at *
  rw [before] at cage
  have visit : (t.cage c).visit = (s.cage c).visit := by rw [cage]
  refine ⟨shape, touched, cage, ?_⟩
  unfold State.holdsRead
  rw [visit]
  exact holds

end Sys2Proof.Machine
end

section
/-! PROOFS. The end of a transaction (R8 to R12, R14, R18, R47, R52). -/

set_option Elab.async false

namespace Sys2Proof.Machine

section
variable {k : ControllerId} {s : State} {x : Transaction}

/-- The transaction is out of flight, its cage's page record `page`. -/
def State.endedWith (k : ControllerId) (x : Transaction) (page : Option Byte) (s : State) : State :=
  { s with
    cages := s.cages.set x.request.cage { s.cage x.request.cage with lastPage := page }
    controllers := s.controllers.set k { s.controller k with inFlight := none } }

theorem State.endTransaction_eq (flies : (s.controller k).inFlight = some x) (outcome : BusOutcome) (data : List Byte) :
    s.endTransaction k outcome data
      = ((s.endedWith k x (x.pageAfter outcome)).handOver x outcome data).chooseBus k := by
  unfold State.endTransaction
  rw [flies]
  rfl

theorem State.endedWith_cage (page : Option Byte) :
    (s.endedWith k x page).cage x.request.cage = { s.cage x.request.cage with lastPage := page } := Bank.get_set_self ..

theorem State.endedWith_controller (page : Option Byte) :
    (s.endedWith k x page).controller k = { s.controller k with inFlight := none } := Bank.get_set_self ..

theorem State.onlyBusOf_endedWith (page : Option Byte) (here : controllerOf x.request.cage = k) :
    OnlyBusOf x.request.cage s (s.endedWith k x page) := by
  subst here
  exact ⟨fun _ n => Bank.get_set_ne _ _ _ _ n.symm, fun _ n => Bank.get_set_ne _ _ _ _ n.symm⟩

theorem State.endedWith_workingSet (page : Option Byte) :
    (s.endedWith k x page).workingSet x.request.cage = s.workingSet x.request.cage := by
  rw [State.workingSet, State.endedWith_cage]
  rfl

/-! ### To whom an outcome is handed (R12, R14) -/

theorem handOver_passThrough (pass : x.request.requester = .passThrough) (outcome : BusOutcome) (data : List Byte)
    (s : State) : s.handOver x outcome data = s.passThroughEnded outcome x.request.kind data := by
  rw [State.handOver, pass]

variable {purpose : Purpose} {visit : BitVec 16}

/-- An outcome reaches the cage monitor, by its purpose. -/
def State.monitorTakes (c : CageId) (outcome : BusOutcome) (data : List Byte) : Purpose → State → State
  | .identification => State.identificationEnded c outcome data
  | .readyPoll => State.pollEnded c outcome data
  | .flagRead => State.flagsEnded c outcome data

/-- An outcome that counts. -/
theorem handOver_counts (monitor : x.request.requester = .monitor purpose visit) (kept : x.discarded = false)
    (present : visit = (s.cage x.request.cage).visit) (outcome : BusOutcome) (data : List Byte) :
    s.handOver x outcome data = s.monitorTakes x.request.cage outcome data purpose := by
  unfold State.handOver
  rw [monitor]
  refine (if_neg (by simp [kept, present])).trans ?_
  cases purpose <;> rfl

theorem servesAlerts_iff (m : CageMode) : m.servesAlerts = true ↔ m = .powering ∨ m = .serving := by
  cases m <;> decide

/-- An outcome that no longer counts is discarded (R12). -/
theorem handOver_void (monitor : x.request.requester = .monitor purpose visit)
    (void : x.discarded = true ∨ visit ≠ (s.cage x.request.cage).visit ∨ (s.cage x.request.cage).awaits purpose = false)
    (outcome : BusOutcome) (data : List Byte) : s.handOver x outcome data = s := by
  by_cases late : x.discarded = true ∨ visit ≠ (s.cage x.request.cage).visit
  · unfold State.handOver
    rw [monitor]
    exact if_pos (Bool.or_eq_true_iff.mpr (late.imp_right decide_eq_true))
  · obtain ⟨kept, present⟩ := not_or.mp late
    rw [handOver_counts monitor (Bool.eq_false_iff.mpr kept) (not_not.mp present)]
    have asleep := (void.resolve_left kept).resolve_left present
    cases purpose with
    | identification => exact if_pos (by simpa [Cage.awaits] using asleep)
    | readyPoll => exact if_pos (by simpa [Cage.awaits] using asleep)
    | flagRead =>
      refine if_pos ?_
      rw [Bool.not_eq_true', ← Bool.not_eq_true, servesAlerts_iff]
      simpa [Cage.awaits] using asleep

end

/-! ### DONE (R8, R10) -/

section
variable {k : ControllerId} {s : State} {x : Transaction} {data : List Byte}

theorem Transaction.coversSelect_iff (x : Transaction) : x.coversSelect = true ↔ x.request.requester = .passThrough
    ∧ x.request.kind = .write ∧ x.request.offset.toNat ≤ x.selectLocation.toNat
    ∧ x.selectLocation.toNat < x.request.offset.toNat + x.request.length := by
  simp only [Transaction.coversSelect, Bool.and_eq_true, decide_eq_true_eq, and_assoc]

theorem Transaction.pageAfter_done (x : Transaction) : x.pageAfter .done
    = if x.forgotten = true ∨ x.wiped = true ∨ (x.request.requester = .passThrough ∧ x.request.kind = .write
        ∧ x.request.offset.toNat ≤ x.selectLocation.toNat
        ∧ x.selectLocation.toNat < x.request.offset.toNat + x.request.length) then none else some x.request.page := by
  unfold Transaction.pageAfter
  simp only [ne_eq, not_true_eq_false, decide_false, Bool.or_false, Bool.or_eq_true, x.coversSelect_iff, or_assoc]

theorem Transaction.pageAfter_failed (x : Transaction) {outcome : BusOutcome} (failed : outcome ≠ .done) :
    x.pageAfter outcome = none := if_pos (by simp [failed])

theorem Transaction.isDelivered_iff (x : Transaction) (data : List Byte) :
    x.isDelivered data = true ↔ x.request.kind = .write ∨ data.length = x.request.length := by
  unfold Transaction.isDelivered
  cases x.request.kind <;> simp

theorem exec_transactionEnd (flies : (s.controller k).inFlight = some x)
    (delivered : x.request.kind = .write ∨ data.length = x.request.length) :
    exec (.moduleBusTransactionEnd k data) s = .next (s.endTransaction k .done data).settle := by
  show execModuleBusTransactionEnd k data s = _
  unfold execModuleBusTransactionEnd State.transactionDone
  rw [flies]
  simp only [(x.isDelivered_iff data).mpr delivered, if_true]
  rfl

/-- Settles O22. -/
theorem doneTransactionsEnd : Obligations.DoneTransactionsEnd := by
  intro k data s
  refine ⟨fun nothing => ?_, fun x flies => ?_⟩
  · show execModuleBusTransactionEnd k data s = _
    unfold execModuleBusTransactionEnd State.transactionDone
    rw [nothing]
    rfl
  intro c covers page ended
  refine ⟨fun read short => ?_, fun delivered => ?_⟩
  · show execModuleBusTransactionEnd k data s = _
    unfold execModuleBusTransactionEnd State.transactionDone
    rw [flies]
    have refused : ¬ x.isDelivered data = true := by
      rw [x.isDelivered_iff, read]
      simpa using short
    simp only [if_neg refused]
    rfl
  · rw [exec_transactionEnd flies delivered, State.endTransaction_eq flies, x.pageAfter_done]
    refine ⟨fun pass => ?_, fun purpose visit monitor void => ?_⟩
    · rw [handOver_passThrough pass]
      refine congrArg (fun t => Host.Outcome.next (State.settle (State.chooseBus k t))) ?_
      show State.respond .done [] (match x.request.kind with
        | .read => data
        | .write => []) (s.endedWith k x page) = _
      cases x.request.kind <;> rfl
    · have still : ((s.endedWith k x page).cage c).visit = (s.cage c).visit
          ∧ ((s.endedWith k x page).cage c).awaits purpose = (s.cage c).awaits purpose := by
        rw [State.endedWith_cage]
        exact ⟨rfl, by cases purpose <;> rfl⟩
      rw [← still.1, ← still.2] at void
      rw [handOver_void monitor void]
      rfl

/-! ### Failures (R9, R18, R47, R52) -/

theorem exec_attemptFailure_again (selected : Bool) (flies : (s.controller k).inFlight = some x) (early : x.attempt < 3) :
    exec (.moduleBusAttemptFailure k selected) s = .next (s.nextAttempt k x selected).settle := by
  show execModuleBusAttemptFailure k selected s = _
  unfold execModuleBusAttemptFailure State.attemptEnded
  rw [flies]
  simp only [if_neg (show ¬ attemptLimit ≤ x.attempt from Nat.not_le_of_lt early)]
  rfl

theorem exec_attemptFailure_last (selected : Bool) (flies : (s.controller k).inFlight = some x) (last : 3 ≤ x.attempt) :
    exec (.moduleBusAttemptFailure k selected) s = .next (s.endTransaction k .nack []).settle := by
  show execModuleBusAttemptFailure k selected s = _
  unfold execModuleBusAttemptFailure State.attemptEnded
  rw [flies]
  simp only [if_pos (show attemptLimit ≤ x.attempt from last)]
  rfl

/-- The outcome and its cause of a transaction that fails (R14). -/
inductive FailsWith : BusOutcome → Byte → Prop where
  | nack : FailsWith .nack 1
  | stretched : FailsWith .stretched 2

/-- A flag read that trips nothing (R52). -/
theorem State.flagsEnded_failed {c : CageId} {outcome : BusOutcome} (failed : outcome ≠ .done)
    (serves : (s.cage c).mode = .powering ∨ (s.cage c).mode = .serving) :
    s.flagsEnded c outcome data = (s.updCage c fun m => { m with flagRequested := false }).flagsClear c := by
  have alert : ¬ (!(s.cage c).mode.servesAlerts) = true := by simp [(servesAlerts_iff _).mpr serves]
  unfold State.flagsEnded
  rw [if_neg alert]
  exact if_neg (by simp [failed])

theorem State.updCage_eq (c : CageId) (f : Cage → Cage) (s : State) :
    s.updCage c f = { s with cages := s.cages.set c (f (s.cage c)) } := rfl

/-- The flag read of a cage is over and its mark taken. -/
def State.flagsTaken (c : CageId) (s : State) : State :=
  s.updCage c fun m => { m with flagRequested := false, readAgain := false }

theorem State.flagsClear_done {c : CageId} (quiet : (s.cage c).readAgain = false ∨ (s.cage c).alertEnable = false) :
    (s.updCage c fun m => { m with flagRequested := false }).flagsClear c = s.flagsTaken c := by
  unfold State.flagsClear State.flagsTaken
  rw [State.updCage_updCage, State.cage_updCage_self]
  refine if_neg ?_
  rcases quiet with none | off
  · simp [none]
  · simp [off]

theorem State.flagsClear_again {c : CageId} (marked : (s.cage c).readAgain = true) (enabled : (s.cage c).alertEnable = true) :
    (s.updCage c fun m => { m with flagRequested := false }).flagsClear c = (s.flagsTaken c).readFlags c := by
  unfold State.flagsClear State.flagsTaken
  rw [State.updCage_updCage, State.cage_updCage_self]
  refine if_pos ?_
  simp [marked, enabled]

/-- A flag read placed, from `s` to `t`. -/
structure FlagsAsked (c : CageId) (s t : State) : Prop where
  shape : t = { s with cages := t.cages, controllers := t.controllers }
  touched : BusTouched c s t
  cage : t.cage c = { s.cage c with flagRequested := true, busRequests := (t.cage c).busRequests }
  holds : t.holdsRead c .flagRead (s.workingSet c).flagPage (s.workingSet c).flagOffset (s.workingSet c).flagLength

/-- What was touched before. -/
theorem BusTouched.after {c : CageId} {t u : State} (h : BusTouched c t u) (only : OnlyBusOf c s t) : BusTouched c s u := by
  refine ⟨fun d other => ?_, fun k other => (h.controllers k other).trans (only.controllers k other)⟩
  rw [← only.cages d other]
  exact h.cages d other

theorem flagsAsked_readFlags (c : CageId) (s : State) : FlagsAsked c s (s.readFlags c) := by
  obtain ⟨shape, touched, cage, holds⟩ := readPlaced_placeRead c .flagRead (s.workingSet c).flagPage
    (s.workingSet c).flagOffset (s.workingSet c).flagLength (s.updCage c fun m => { m with flagRequested := true })
  rw [State.cage_updCage_self] at cage
  exact ⟨shape, touched.after (onlyBusOf_updCage ..), cage, holds⟩

theorem State.placeRead_chooseBus (c : CageId) (purpose : Purpose) (page offset : Byte) (length : Nat) (s : State) :
    (s.placeRead c purpose page offset length).chooseBus (controllerOf c) = s.placeRead c purpose page offset length :=
  State.chooseBus_chooseBus ..

theorem State.readFlags_chooseBus (c : CageId) (s : State) :
    (s.readFlags c).chooseBus (controllerOf c) = s.readFlags c := State.placeRead_chooseBus ..

/-- A cage failed, its controller with nothing in flight (R50). -/
theorem State.cageFailed_eq {c : CageId} (free : (s.controller (controllerOf c)).inFlight = none) (cause : FailedCause)
    (event : EventKind) : s.cageFailed c cause event = (s.updCage c fun m =>
      { (({ m with busRequests := [] } : Cage).quiet.lowered s.now) with mode := .failed, failedCause := cause }).raise event c.val := by
  have unmarked : (s.updCage c fun m => { m with busRequests := [] }).updController (controllerOf c)
      (Controller.markFor c fun t => if t.isMonitors then { t with discarded := true } else t)
      = s.updCage c fun m => { m with busRequests := [] } := by
    rw [State.updController_eq]
    have same : Controller.markFor c (fun t => if t.isMonitors then { t with discarded := true } else t)
        (s.controller (controllerOf c)) = s.controller (controllerOf c) := by
      rw [Controller.markFor, free]
      exact congrArg (fun f => { s.controller (controllerOf c) with inFlight := f }) free.symm
    have back : s.controllers.set (controllerOf c) (s.controller (controllerOf c)) = s.controllers :=
      Bank.set_get_self _ _ _ rfl
    show ({ s.updCage c fun m => { m with busRequests := [] } with
      controllers := s.controllers.set (controllerOf c) (Controller.markFor c _ (s.controller (controllerOf c))) } : State) = _
    rw [same, back]
    rfl
  unfold State.cageFailed State.dropRequests
  rw [unmarked, State.updCage_updCage]

end

end Sys2Proof.Machine
end

section
/-! PROOFS. The failure of a transaction reaches who asked for it (R9, R10, R12, R14, R18, R47, R52). -/

set_option Elab.async false

namespace Sys2Proof.Machine

theorem FailsWith.not_done {outcome : BusOutcome} {cause : Byte} (h : FailsWith outcome cause) : outcome ≠ .done := by
  cases h <;> decide

theorem FailsWith.answer {outcome : BusOutcome} {cause : Byte} (h : FailsWith outcome cause) (kind : BusKind)
    (data : List Byte) (s : State) : s.passThroughEnded outcome kind data = s.respond .busFault [] [cause] := by
  cases h <;> rfl

section
variable {k : ControllerId} {s : State} {x : Transaction}

/-- The two commands that fail a transaction, with their causes. -/
theorem exec_fails {selected : Bool} {command : Instr} {cause : Byte} (flies : (s.controller k).inFlight = some x)
    (fails : (3 ≤ x.attempt ∧ command = .moduleBusAttemptFailure k selected ∧ cause = 1)
      ∨ (command = .busStretchTimeout k ∧ cause = 2)) : ∃ outcome, FailsWith outcome cause
      ∧ exec command s = .next ((s.endedWith k x none).handOver x outcome [] |>.chooseBus k).settle := by
  rcases fails with ⟨last, rfl, rfl⟩ | ⟨rfl, rfl⟩
  · refine ⟨.nack, .nack, ?_⟩
    rw [exec_attemptFailure_last selected flies last, State.endTransaction_eq flies, x.pageAfter_failed (by decide)]
  · refine ⟨.stretched, .stretched, ?_⟩
    show execBusStretchTimeout k s = _
    unfold execBusStretchTimeout
    rw [State.endTransaction_eq flies, x.pageAfter_failed (by decide)]
    rfl

theorem identificationEnded_fails {c : CageId} {outcome : BusOutcome} {cause : Byte} (fails : FailsWith outcome cause)
    (identifying : (s.cage c).mode = .identifying) (data : List Byte) :
    s.identificationEnded c outcome data = s.cageFailed c .identFailed .identFailed := by
  unfold State.identificationEnded
  refine (if_neg (not_not.mpr identifying)).trans ?_
  cases fails <;> rfl

theorem pollEnded_fails {c : CageId} {outcome : BusOutcome} {cause : Byte} (fails : FailsWith outcome cause)
    (powering : (s.cage c).mode = .powering) (data : List Byte) : s.pollEnded c outcome data
      = s.updCage c fun m => { m with pollTimer := some (s.now + 10 * 3125000) } := by
  unfold State.pollEnded
  refine (if_neg (not_not.mpr powering)).trans ((if_neg ?_).trans rfl)
  cases fails <;> simp

/-- A cage failed, as it stands then (R50). -/
structure CageFailed (c : CageId) (cause : FailedCause) (s t : State) : Prop where
  others : ∀ d, d ≠ c → t.cage d = s.cage d
  mode : (t.cage c).mode = .failed ∧ (t.cage c).failedCause = cause
  stopped : (t.cage c).Stopped
  requests : (t.cage c).busRequests = []
  kept : (t.cage c).identityKey = (s.cage c).identityKey ∧ (t.cage c).resetLine = (s.cage c).resetLine
    ∧ (t.cage c).workingCopy = (s.cage c).workingCopy

/-- A failed cage's own change. -/
def Cage.failedWith (cause : FailedCause) (now : Moment) (m : Cage) : Cage :=
  { (m.quiet.lowered now) with mode := .failed, failedCause := cause }

theorem State.cage_dropRequests_self (c : CageId) (s : State) :
    (s.dropRequests c).cage c = { s.cage c with busRequests := [] } := by
  unfold State.dropRequests
  rw [State.cage_updController, State.cage_updCage_self]

theorem State.cage_dropRequests_ne {c d : CageId} (other : d ≠ c) (s : State) : (s.dropRequests c).cage d = s.cage d := by
  unfold State.dropRequests
  rw [State.cage_updController, State.cage_updCage_ne _ _ _ _ other.symm]

theorem State.cage_cageFailed_self (c : CageId) (cause : FailedCause) (event : EventKind) (s : State) :
    (s.cageFailed c cause event).cage c = Cage.failedWith cause s.now { s.cage c with busRequests := [] } := by
  rw [← State.cage_dropRequests_self]
  exact State.cage_updCage_self c (Cage.failedWith cause s.now) (s.dropRequests c)

theorem cageFailed_cageFailed (c : CageId) (cause : FailedCause) (event : EventKind) (s : State) :
    CageFailed c cause s (s.cageFailed c cause event) := by
  have cage := s.cage_cageFailed_self c cause event
  refine ⟨fun d other => ?_, ?_, ?_, ?_, ?_⟩
  · exact (State.cage_updCage_ne c d (Cage.failedWith cause s.now) _ other.symm).trans (State.cage_dropRequests_ne other s)
  all_goals rw [cage]
  · exact ⟨rfl, rfl⟩
  · exact ⟨rfl, ⟨rfl, rfl, rfl, rfl, rfl⟩, rfl, rfl⟩
  · rfl
  · exact ⟨rfl, rfl, rfl⟩

theorem State.endedWith_updCage (page : Option Byte) (f : Cage → Cage) :
    (s.endedWith k x page).updCage x.request.cage f = { s.endedWith k x page with
      cages := s.cages.set x.request.cage (f { s.cage x.request.cage with lastPage := page }) } := by
  rw [State.updCage_eq, State.endedWith_cage]
  exact congrArg (fun b => { s.endedWith k x page with cages := b }) (Bank.set_set ..)

theorem nextAttempt_eq (selected : Bool) : s.nextAttempt k x selected =
    let page := if x.selecting && selected && !x.wiped then some x.request.page else (s.cage x.request.cage).lastPage
    { s with
      cages := s.cages.set x.request.cage { s.cage x.request.cage with lastPage := page }
      controllers := s.controllers.set k { s.controller k with
        inFlight := some { x with
          attempt := x.attempt + 1, selecting := decide (page ≠ some x.request.page), wiped := false } } } := rfl

/-- An outcome that counts, failed, for a monitor. -/
theorem handOver_fails {purpose : Purpose} {visit : BitVec 16} (monitor : x.request.requester = .monitor purpose visit)
    (kept : x.discarded = false) (present : visit = (s.cage x.request.cage).visit) (outcome : BusOutcome) :
    (s.endedWith k x none).handOver x outcome []
      = (s.endedWith k x none).monitorTakes x.request.cage outcome [] purpose := by
  refine handOver_counts monitor kept ?_ outcome []
  rw [State.endedWith_cage]
  exact present

end

/-- Settles O21. -/
theorem failedTransactionsEnd : Obligations.FailedTransactionsEnd := by
  intro k selected s x flies c page ended
  have onlyBus := State.onlyBusOf_endedWith (k := k) (s := s) (x := x) none
  have cage : ended.cage c = { s.cage c with lastPage := none } := State.endedWith_cage none
  have set : ended.workingSet c = s.workingSet c := State.endedWith_workingSet none
  refine ⟨fun early => ?_, fun command cause fails => ?_⟩
  · rw [exec_attemptFailure_again selected flies early, nextAttempt_eq]
  · obtain ⟨outcome, failsWith, runs⟩ := exec_fails flies fails
    have failed := failsWith.not_done
    rw [runs]
    refine ⟨fun pass => ?_, fun purpose visit monitor => ?_⟩
    · rw [handOver_passThrough pass, failsWith.answer]
      rfl
    · have counts := handOver_fails (k := k) (s := s) monitor
      refine ⟨fun void => ?_, fun kept present asked identifying here => ?_, fun kept present asked powering => ?_,
        fun kept present asked serves quiet => ?_, fun kept present asked serves marked enabled here => ?_⟩
      · have still : (ended.cage c).visit = (s.cage c).visit ∧ (ended.cage c).awaits purpose = (s.cage c).awaits purpose := by
          rw [cage]
          exact ⟨rfl, by cases purpose <;> rfl⟩
        rw [← still.1, ← still.2] at void
        exact congrArg (fun t => Host.Outcome.next (State.settle (State.chooseBus k t)))
          (handOver_void (s := ended) monitor void outcome [])
      · subst asked
        rw [counts kept present]
        have free : (ended.controller (controllerOf c)).inFlight = none := by
          have idle := State.endedWith_controller (k := k) (s := s) (x := x) none
          rw [here]
          exact congrArg Controller.inFlight idle
        have failing := identificationEnded_fails (s := ended) (c := c) failsWith (by rw [cage]; exact identifying) []
        obtain ⟨others, ⟨mode, why⟩, stopped, requests, key, reset, copy⟩ :=
          cageFailed_cageFailed c .identFailed .identFailed ended
        rw [cage] at key reset
        refine ⟨_, congrArg (fun t => Host.Outcome.next (State.settle (State.chooseBus k t))) failing, ?_,
          fun d other => (others d other).trans ((onlyBus here).cages d other), mode, why, stopped, requests, key, reset⟩
        rw [State.cageFailed_eq free]
        rfl
      · subst asked
        rw [counts kept present]
        refine congrArg (fun t => Host.Outcome.next (State.settle (State.chooseBus k t))) ?_
        refine (pollEnded_fails (s := ended) failsWith (by rw [cage]; exact powering) []).trans ?_
        exact State.endedWith_updCage ..
      · subst asked
        rw [counts kept present]
        refine congrArg (fun t => Host.Outcome.next (State.settle (State.chooseBus k t))) ?_
        refine (State.flagsEnded_failed (s := ended) failed (by rw [cage]; exact serves)).trans ?_
        rw [State.flagsClear_done (by rw [cage]; exact quiet)]
        exact State.endedWith_updCage ..
      · subst asked
        rw [counts kept present]
        have clear := (State.flagsEnded_failed (s := ended) (data := []) failed (by rw [cage]; exact serves)).trans
          (State.flagsClear_again (by rw [cage]; exact marked) (by rw [cage]; exact enabled))
        obtain ⟨shape, touched, asks, holds⟩ := flagsAsked_readFlags c (ended.flagsTaken c)
        have taken : (ended.flagsTaken c).cage c = { s.cage c with
            lastPage := none, flagRequested := false, readAgain := false } := by
          rw [State.flagsTaken, State.cage_updCage_self, cage]
        have sameSet : (ended.flagsTaken c).workingSet c = s.workingSet c := by
          rw [State.workingSet, taken]
          rfl
        rw [sameSet] at holds
        rw [taken] at asks
        refine ⟨(ended.flagsTaken c).readFlags c, ?_, ?_, ?_, asks, holds⟩
        · refine congrArg (fun t => Host.Outcome.next (State.settle t)) ?_
          have again := State.readFlags_chooseBus c (ended.flagsTaken c)
          rw [here] at again
          exact (congrArg (State.chooseBus k) clear).trans again
        · exact shape
        · exact touched.after ((onlyBus here).trans (onlyBusOf_updCage ..))

end Sys2Proof.Machine
end

section
/-! PROOFS. The entry to POWERING (R45, R46, R51) and the result of a search (R27, R42, R43). -/

set_option Elab.async false

namespace Sys2Proof.Machine

/-! ### Requests that wait, or are in flight, go on (R7, R11) -/

section
variable {c : CageId} {s t : State} {purpose other : Purpose} {page offset page' offset' : Byte} {length length' : Nat}

/-- A request of a cage waits or is in flight. -/
def State.holdsRequest (s : State) (c : CageId) (r : BusRequest) : Prop :=
  r ∈ (s.cage c).busRequests ∨ ∃ x, (s.controller (controllerOf c)).inFlight = some x ∧ x.request = r

theorem State.holdsRead_iff : s.holdsRead c purpose page offset length
    ↔ s.holdsRequest c (s.readOf c purpose page offset length) := Iff.rfl

theorem State.holdsRequest_chooseBus {r : BusRequest} (holds : s.holdsRequest c r) :
    (s.chooseBus (controllerOf c)).holdsRequest c r := by
  by_cases free : (s.controller (controllerOf c)).inFlight = none
  · rcases holds with waits | ⟨x, flies, -⟩
    · exact (served_chooseBus (controllerOf c) s).holds waits
    · rw [free] at flies
      cases flies
  · rwa [State.chooseBus_busy free]

/-- A read placed leaves the reads that the cage's monitor holds. -/
theorem State.holdsRead_placeRead (holds : s.holdsRead c purpose page offset length) :
    (s.placeRead c other page' offset' length').holdsRead c purpose page offset length := by
  have placed := readPlaced_placeRead c other page' offset' length' s
  have visit : ((s.placeRead c other page' offset' length').cage c).visit = (s.cage c).visit := by rw [placed.cage]
  rw [State.holdsRead_iff, State.readOf, visit]
  refine State.holdsRequest_chooseBus ?_
  rcases holds with waits | flies
  · left
    rw [State.cage_updCage_self]
    exact List.mem_append_left _ waits
  · exact .inr flies

end

/-! ### The guard (R45, R46) -/

/-- Cage `c` has come to POWERING and its guard runs or has ended, from `s` to `t`. -/
structure Guarded (c : CageId) (s t : State) : Prop where
  shape : t = { s with cages := t.cages, controllers := t.controllers }
  touched : BusTouched c s t
  guards : s.now < (s.cage c).guardOrigin + (s.workingSet c).guardInterval * 3125000 → t.cage c = { s.cage c with
    mode := .powering, guardTimer := some ((s.cage c).guardOrigin + (s.workingSet c).guardInterval * 3125000) }
  ends : (s.cage c).guardOrigin + (s.workingSet c).guardInterval * 3125000 ≤ s.now → t.cage c = { s.cage c with
    mode := .powering, guardTimer := none, lowPower := false
    powerUpTimer := some (s.now + (s.workingSet c).powerUpLimit * 3125000), busRequests := (t.cage c).busRequests }
  polls : (s.cage c).guardOrigin + (s.workingSet c).guardInterval * 3125000 ≤ s.now →
    t.holdsRead c .readyPoll (s.workingSet c).readyPage (s.workingSet c).readyOffset 1

/-- A change of a cage that leaves its working copy leaves its working set. -/
theorem State.workingSet_updCage {c : CageId} {f : Cage → Cage} {s : State}
    (copy : (f (s.cage c)).workingCopy = (s.cage c).workingCopy) : (s.updCage c f).workingSet c = s.workingSet c := by
  rw [State.workingSet, State.cage_updCage_self, copy]
  rfl

/-- Cage `c` with its guard, before its alert counts (R45; log 19). -/
def State.startGuard (c : CageId) (s : State) : State :=
  let t := s.updCage c fun m => { m with mode := .powering }
  if (s.cage c).guardOrigin + (s.workingSet c).guardInterval * millisecond ≤ s.now then t.guardEnded c
  else t.updCage c fun m => { m with guardTimer := some ((s.cage c).guardOrigin + (s.workingSet c).guardInterval * millisecond) }

theorem State.enterPowering_eq (c : CageId) (s : State) :
    s.enterPowering c = if (s.cage c).alert then (s.startGuard c).alerted c else s.startGuard c := rfl

/-- The guard's end (R46). -/
theorem State.guardEnded_placed (c : CageId) (s : State) : ReadPlaced c .readyPoll (s.workingSet c).readyPage
    (s.workingSet c).readyOffset 1
    (s.updCage c fun m => { m with
      guardTimer := none, lowPower := false, powerUpTimer := some (s.inMs (s.workingSet c).powerUpLimit) })
    (s.guardEnded c) := by
  have set := State.workingSet_updCage (c := c) (s := s) (f := fun m => { m with
      guardTimer := none, lowPower := false, powerUpTimer := some (s.inMs (s.workingSet c).powerUpLimit) }) rfl
  unfold State.guardEnded State.pollReady
  dsimp only
  rw [set]
  exact readPlaced_placeRead ..

theorem guarded_startGuard (c : CageId) (s : State) : Guarded c s (s.startGuard c) := by
  have set := State.workingSet_updCage (c := c) (s := s) (f := fun m => { m with mode := .powering }) rfl
  by_cases ended : (s.cage c).guardOrigin + (s.workingSet c).guardInterval * millisecond ≤ s.now
  · have form : s.startGuard c = (s.updCage c fun m => { m with mode := .powering }).guardEnded c := if_pos ended
    have placed := State.guardEnded_placed c (s.updCage c fun m => { m with mode := .powering })
    rw [State.updCage_updCage, set] at placed
    obtain ⟨shape, touched, cage, holds⟩ := placed
    rw [State.cage_updCage_self] at cage
    rw [form]
    exact ⟨shape, touched.after (onlyBusOf_updCage ..), fun early => absurd ended (Nat.not_le_of_lt early),
      fun _ => cage, fun _ => holds⟩
  · have form : s.startGuard c = s.updCage c fun m => { m with
        mode := .powering
        guardTimer := some ((s.cage c).guardOrigin + (s.workingSet c).guardInterval * millisecond) } :=
      (if_neg ended).trans (State.updCage_updCage ..)
    rw [form]
    exact ⟨rfl, (onlyBusOf_updCage ..).busTouched, fun _ => State.cage_updCage_self .., fun late => absurd late ended,
      fun late => absurd late ended⟩

end Sys2Proof.Machine
end

section
/-! PROOFS. The gate closed, an alert, and a cage that has entered POWERING (R45, R46, R51, R53). -/

set_option Elab.async false

namespace Sys2Proof.Machine

/-! ### The gate (R53, R54) -/

/-- A cage whose gate closes. -/
def Cage.shut (mode : CageMode) (now : Moment) (m : Cage) : Cage := { (m.quiet.lowered now) with mode := mode }

/-- What a gate shut keeps of its cage. -/
theorem Cage.shut_kept (mode : CageMode) (now : Moment) (m : Cage) : (m.shut mode now).visit = m.visit
    ∧ (m.shut mode now).identityKey = m.identityKey ∧ (m.shut mode now).workingCopy = m.workingCopy
    ∧ (m.shut mode now).resetLine = m.resetLine ∧ (m.shut mode now).fabricLayout = m.fabricLayout
    ∧ (m.shut mode now).alertEnable = m.alertEnable := ⟨rfl, rfl, rfl, rfl, rfl, rfl⟩

theorem Cage.shut_stopped (mode : CageMode) (now : Moment) (m : Cage) : (m.shut mode now).Stopped :=
  ⟨rfl, ⟨rfl, rfl, rfl, rfl, rfl⟩, rfl, rfl⟩

/-- The gate shut, before the losses of its links. -/
def State.shutGate (c : CageId) (mode : CageMode) (event : Option EventKind) (s : State) : State :=
  let t := (s.dropRequests c).updCage c (Cage.shut mode s.now)
  match event with
  | some k => t.raise k c.val
  | none => t

theorem State.closeGate_eq (c : CageId) (mode : CageMode) (event : Option EventKind) (s : State) : s.closeGate c mode event
    = if (s.cage c).mode = .serving then (s.shutGate c mode event).departLinks c .gate else s.shutGate c mode event := by
  unfold State.closeGate
  simp only [decide_eq_true_eq]
  rfl

/-- The events that a gate shut raises of its own. -/
def gateSignals (c : CageId) (event : Option EventKind) : List Signal :=
  (event.map fun k => Signal.event ⟨k, c.val, 0⟩).toList

section
variable {c : CageId} {mode : CageMode} {event : Option EventKind} {s : State}

theorem State.shutGate_shape : s.shutGate c mode event = { s with
    cages := (s.shutGate c mode event).cages, controllers := (s.shutGate c mode event).controllers
    raised := s.raised ++ gateSignals c event } := by
  cases event with
  | none =>
    show (s.dropRequests c).updCage c (Cage.shut mode s.now) = { (s.dropRequests c).updCage c (Cage.shut mode s.now) with
      raised := s.raised ++ [] }
    rw [List.append_nil]
    rfl
  | some k => rfl

theorem State.shutGate_cage : (s.shutGate c mode event).cage c = Cage.shut mode s.now { s.cage c with busRequests := [] } := by
  rw [← State.cage_dropRequests_self]
  cases event <;> exact State.cage_updCage_self c (Cage.shut mode s.now) (s.dropRequests c)

theorem State.shutGate_cage_ne {d : CageId} (other : d ≠ c) : (s.shutGate c mode event).cage d = s.cage d := by
  rw [← State.cage_dropRequests_ne other s]
  cases event <;> exact State.cage_updCage_ne c d (Cage.shut mode s.now) (s.dropRequests c) other.symm

/-- The mark of a transaction whose outcome is void. -/
def Transaction.void (x : Transaction) : Transaction := if x.isMonitors then { x with discarded := true } else x

theorem State.shutGate_controllers : (s.shutGate c mode event).controllers
    = s.controllers.set (controllerOf c) ((s.controller (controllerOf c)).markFor c Transaction.void) := by
  cases event <;> rfl

theorem State.shutGate_controller : (s.shutGate c mode event).controller (controllerOf c)
    = (s.controller (controllerOf c)).markFor c Transaction.void := by
  rw [State.controller, State.shutGate_controllers, Bank.get_set_self]

theorem State.shutGate_controller_ne {k : ControllerId} (other : k ≠ controllerOf c) :
    (s.shutGate c mode event).controller k = s.controller k := by
  rw [State.controller, State.shutGate_controllers, Bank.get_set_ne _ _ _ _ other.symm]
  rfl

theorem Controller.markFor_inFlight {f : Transaction → Transaction} {k : Controller} {x : Transaction}
    (flies : k.inFlight = some x) : (k.markFor c f).inFlight = some (if x.request.cage = c then f x else x) := by
  rw [Controller.markFor, flies]
  rfl

theorem Transaction.void_same (x : Transaction) : x.void.request = x.request ∧ x.void.attempt = x.attempt := by
  unfold Transaction.void
  split <;> exact ⟨rfl, rfl⟩

/-- The gate shut after what has touched the cage and its controller. -/
theorem BusTouched.shutGate {r : State} (h : BusTouched c r s) : BusTouched c r (s.shutGate c mode event) := by
  refine ⟨fun d other => ?_, fun k other => (State.shutGate_controller_ne other).trans (h.controllers k other)⟩
  rw [State.shutGate_cage_ne other]
  rcases h.cages d other with same | ⟨x, r, rest, waits, starts, request, attempt, cage⟩
  · exact .inl same
  · right
    by_cases here : controllerOf d = controllerOf c
    · rw [here] at starts ⊢
      refine ⟨_, r, rest, waits, State.shutGate_controller (s := s) ▸ Controller.markFor_inFlight starts, ?_, ?_, cage⟩
      · split
        · exact x.void_same.1.trans request
        · exact request
      · split
        · exact x.void_same.2.trans attempt
        · exact attempt
    · exact ⟨x, r, rest, waits, (congrArg Controller.inFlight (State.shutGate_controller_ne here)).trans starts, request, attempt, cage⟩

end

/-! ### An alert (R51) -/

section
variable {c : CageId} {s : State}

theorem State.alerted_off (off : (s.cage c).alertEnable = false ∨ (s.cage c).mode.servesAlerts = false) :
    s.alerted c = s := by
  refine if_pos ?_
  rcases off with off | off <;> simp [off]

variable (enabled : (s.cage c).alertEnable = true) (serves : (s.cage c).mode.servesAlerts = true)
include enabled serves

theorem State.alerted_on : s.alerted c = if (s.workingSet c).flagLength = 0 then s.trip c
    else if (s.cage c).flagRequested then s.updCage c fun m => { m with readAgain := true } else s.readFlags c :=
  if_neg (by simp [enabled, serves])

theorem State.alerted_trips (short : (s.workingSet c).flagLength = 0) : s.alerted c = s.trip c := by
  rw [State.alerted_on enabled serves, if_pos short]

theorem State.alerted_again (long : (s.workingSet c).flagLength ≠ 0) (asked : (s.cage c).flagRequested = true) :
    s.alerted c = s.updCage c fun m => { m with readAgain := true } := by
  rw [State.alerted_on enabled serves, if_neg long, if_pos asked]

theorem State.alerted_asks (long : (s.workingSet c).flagLength ≠ 0) (idle : (s.cage c).flagRequested = false) :
    s.alerted c = s.readFlags c := by
  rw [State.alerted_on enabled serves, if_neg long, if_neg (Bool.eq_false_iff.mp idle)]

end

/-! ### POWERING entered (R45, R46, R51) -/

section
variable {c : CageId} {s u t : State}

/-- What the guard leaves of its cage. -/
structure Guarded.Kept (c : CageId) (s t : State) : Prop where
  mode : (t.cage c).mode = .powering
  identity : (t.cage c).visit = (s.cage c).visit ∧ (t.cage c).identityKey = (s.cage c).identityKey
    ∧ (t.cage c).workingCopy = (s.cage c).workingCopy ∧ (t.cage c).resetLine = (s.cage c).resetLine
    ∧ (t.cage c).fabricLayout = (s.cage c).fabricLayout ∧ (t.cage c).alertEnable = (s.cage c).alertEnable
  flags : (t.cage c).flagRequested = (s.cage c).flagRequested

theorem Guarded.kept (h : Guarded c s t) : Guarded.Kept c s t := by
  rcases Nat.lt_or_ge s.now ((s.cage c).guardOrigin + (s.workingSet c).guardInterval * 3125000) with early | late
  · have cage := h.guards early
    constructor <;> rw [cage]
    exact ⟨rfl, rfl, rfl, rfl, rfl, rfl⟩
  · have cage := h.ends late
    constructor <;> rw [cage]
    exact ⟨rfl, rfl, rfl, rfl, rfl, rfl⟩

theorem Guarded.raised (h : Guarded c s t) : t.raised = s.raised := by rw [h.shape]

theorem Guarded.workingSet (h : Guarded c s t) : t.workingSet c = s.workingSet c := by
  rw [State.workingSet, h.kept.identity.2.2.1]
  rfl

/-- The cage after the guard, with no alert that trips it, and then marked or asked for its flags. -/
structure AlertTaken (c : CageId) (u t : State) : Prop where
  shape : t = { u with cages := t.cages, controllers := t.controllers }
  touched : ∀ s, BusTouched c s u → BusTouched c s t
  cage : t.cage c = { u.cage c with
    flagRequested := (t.cage c).flagRequested, readAgain := (t.cage c).readAgain, busRequests := (t.cage c).busRequests }
  holds : ∀ purpose page offset length, u.holdsRead c purpose page offset length → t.holdsRead c purpose page offset length

theorem AlertTaken.refl (c : CageId) (u : State) : AlertTaken c u u := ⟨rfl, fun _ => id, rfl, fun _ _ _ _ => id⟩

/-- One cage's touch after another's: what a choice served first is still served. -/
theorem BusTouched.updCage {f : Cage → Cage} (h : BusTouched c s u) : BusTouched c s (u.updCage c f) := by
  refine ⟨fun d other => ?_, h.controllers⟩
  rw [State.cage_updCage_ne _ _ _ _ other.symm]
  exact h.cages d other

/-- A choice that finds its controller busy adds nothing, and one that finds it free meets a request not served yet. -/
theorem BusTouched.chooseBus (h : BusTouched c s u) : BusTouched c s (u.chooseBus (controllerOf c)) := by
  by_cases free : (u.controller (controllerOf c)).inFlight = none
  · have served := served_chooseBus (controllerOf c) u
    refine ⟨fun d other => ?_, fun k other => (served.controllers k other).trans (h.controllers k other)⟩
    rcases h.cages d other with same | ⟨x, r, rest, waits, starts, request, attempt, cage⟩
    · rcases served.cages d with kept | ⟨x, r, rest, here, waits, starts, request, attempt, cage⟩
      · exact .inl (kept.trans same)
      · rw [same] at waits cage
        exact .inr ⟨x, r, rest, waits, here ▸ starts, request, attempt, cage⟩
    · have elsewhere : controllerOf d ≠ controllerOf c := by
        intro same
        rw [same, free] at starts
        cases starts
      rcases served.cages d with kept | ⟨_, _, _, here, _⟩
      · exact .inr ⟨x, r, rest, waits, (congrArg Controller.inFlight (served.controllers _ elsewhere)).trans starts, request, attempt, kept.trans cage⟩
      · exact absurd here elsewhere
  · rwa [State.chooseBus_busy free]

theorem BusTouched.placeRead {purpose : Purpose} {page offset : Byte} {length : Nat} (h : BusTouched c s u) :
    BusTouched c s (u.placeRead c purpose page offset length) :=
  BusTouched.chooseBus (BusTouched.updCage h)

theorem alertTaken_updCage (c : CageId) (u : State) : AlertTaken c u (u.updCage c fun m => { m with readAgain := true }) := by
  refine ⟨rfl, fun s h => h.updCage, ?_, fun purpose page offset length holds => ?_⟩
  · rw [State.cage_updCage_self]
  · unfold State.holdsRead
    rw [State.cage_updCage_self]
    exact holds

theorem alertTaken_readFlags (c : CageId) (u : State) : AlertTaken c u (u.readFlags c) := by
  have asked := flagsAsked_readFlags c u
  refine ⟨asked.shape, fun s h => BusTouched.placeRead h.updCage, ?_, fun purpose page offset length holds => ?_⟩
  · have cage := asked.cage
    generalize u.readFlags c = t at *
    rw [cage]
  · refine State.holdsRead_placeRead ?_
    unfold State.holdsRead
    rw [State.cage_updCage_self]
    exact holds

theorem alertTaken_alerted (c : CageId) (u : State) (quiet : ¬ ((u.cage c).alertEnable = true ∧ (u.workingSet c).flagLength = 0)) :
    AlertTaken c u (u.alerted c) := by
  by_cases on : (u.cage c).alertEnable = true ∧ (u.cage c).mode.servesAlerts = true
  · obtain ⟨enabled, serves⟩ := on
    have long : (u.workingSet c).flagLength ≠ 0 := fun short => quiet ⟨enabled, short⟩
    by_cases asked : (u.cage c).flagRequested = true
    · rw [State.alerted_again enabled serves long asked]
      exact alertTaken_updCage c u
    · rw [State.alerted_asks enabled serves long (Bool.eq_false_iff.mpr asked)]
      exact alertTaken_readFlags c u
  · rw [State.alerted_off (by simpa [or_iff_not_imp_left] using on)]
    exact .refl c u

theorem State.tripsOnEntry_iff : s.tripsOnEntry c = true
    ↔ (s.cage c).alert = true ∧ (s.cage c).alertEnable = true ∧ (s.workingSet c).flagLength = 0 := by
  simp [State.tripsOnEntry, and_assoc]

/-- POWERING entered without a trip. -/
theorem poweringEntered_of_alertTaken (quiet : s.tripsOnEntry c = false) (guard : Guarded c s u) (taken : AlertTaken c u t)
    (flags : (s.cage c).alert = true → (s.cage c).alertEnable = true → (s.cage c).flagRequested = false →
      (t.cage c).flagRequested = true
      ∧ t.holdsRead c .flagRead (s.workingSet c).flagPage (s.workingSet c).flagOffset (s.workingSet c).flagLength) :
    PoweringEntered c s t := by
  have kept := guard.kept
  have cage := taken.cage
  have raised : t.raised = s.raised := by rw [taken.shape, ← guard.raised]
  refine ⟨fun trips => absurd trips (by simp [quiet]), fun _ => ⟨?_, raised⟩, fun _ early => ?_, fun _ late => ?_,
    fun _ => flags, ?_, ?_, taken.touched s guard.touched⟩
  · rw [cage]
    exact kept.mode
  · rw [cage, guard.guards early]
    exact ⟨rfl, rfl⟩
  · rw [cage, guard.ends late]
    exact ⟨rfl, rfl, rfl, taken.holds _ _ _ _ (guard.polls late)⟩
  · rw [cage]
    exact kept.identity
  · rw [taken.shape, guard.shape]

/-- POWERING entered, and tripped at once. -/
theorem poweringEntered_shutGate (entry : s.tripsOnEntry c = true) (guard : Guarded c s u) :
    PoweringEntered c s (u.shutGate c .tripped (some .gateTripped)) := by
  have cage := State.shutGate_cage (s := u) (c := c) (mode := .tripped) (event := some .gateTripped)
  have touched := guard.touched.shutGate (mode := .tripped) (event := some .gateTripped)
  have shape := State.shutGate_shape (s := u) (c := c) (mode := .tripped) (event := some .gateTripped)
  have trips (no : s.tripsOnEntry c = false) : False := nomatch no.symm.trans entry
  have raised : (u.shutGate c .tripped (some .gateTripped)).raised = s.raised ++ [.event ⟨.gateTripped, c.val, 0⟩] := by
    rw [← guard.raised]
    rfl
  have kept : ((u.shutGate c .tripped (some .gateTripped)).cage c).visit = (u.cage c).visit
      ∧ ((u.shutGate c .tripped (some .gateTripped)).cage c).identityKey = (u.cage c).identityKey
      ∧ ((u.shutGate c .tripped (some .gateTripped)).cage c).workingCopy = (u.cage c).workingCopy
      ∧ ((u.shutGate c .tripped (some .gateTripped)).cage c).resetLine = (u.cage c).resetLine
      ∧ ((u.shutGate c .tripped (some .gateTripped)).cage c).fabricLayout = (u.cage c).fabricLayout
      ∧ ((u.shutGate c .tripped (some .gateTripped)).cage c).alertEnable = (u.cage c).alertEnable := by
    rw [cage]
    exact Cage.shut_kept ..
  obtain ⟨visit, key, copy, reset, layout, enable⟩ := guard.kept.identity
  generalize u.shutGate c .tripped (some .gateTripped) = t at *
  refine ⟨fun _ => ⟨?_, ?_, ?_, raised⟩, fun no => (trips no).elim, fun no => (trips no).elim, fun no => (trips no).elim,
    fun no => (trips no).elim, ?_, ?_, touched⟩
  · rw [cage]
    rfl
  · rw [cage]
    exact Cage.shut_stopped ..
  · rw [cage]
    rfl
  · obtain ⟨visit', key', copy', reset', layout', enable'⟩ := kept
    exact ⟨visit'.trans visit, key'.trans key, copy'.trans copy, reset'.trans reset, layout'.trans layout,
      enable'.trans enable⟩
  · rw [shape, guard.shape]

/-- What entering POWERING leaves (R45, R46, R51). -/
theorem poweringEntered_enterPowering (c : CageId) (s : State) : PoweringEntered c s (s.enterPowering c) := by
  have guard := guarded_startGuard c s
  have kept := guard.kept
  have set := guard.workingSet
  rw [State.enterPowering_eq]
  generalize s.startGuard c = u at *
  have serves : (u.cage c).mode.servesAlerts = true := (servesAlerts_iff _).mpr (.inl kept.mode)
  have enable := kept.identity.2.2.2.2.2
  by_cases alert : (s.cage c).alert = true
  · rw [if_pos alert]
    by_cases trips : (s.cage c).alertEnable = true ∧ (s.workingSet c).flagLength = 0
    · obtain ⟨enabled, short⟩ := trips
      have entry : s.tripsOnEntry c = true := State.tripsOnEntry_iff.mpr ⟨alert, enabled, short⟩
      have shut : u.alerted c = u.shutGate c .tripped (some .gateTripped) := by
        rw [State.alerted_trips (enable.trans enabled) serves (set ▸ short), State.trip, State.closeGate_eq, if_neg]
        rw [kept.mode]
        decide
      rw [shut]
      exact poweringEntered_shutGate entry guard
    · have quiet : s.tripsOnEntry c = false := by
        rw [← Bool.not_eq_true, State.tripsOnEntry_iff]
        exact fun h => trips h.2
      refine poweringEntered_of_alertTaken quiet guard (alertTaken_alerted c u ?_) fun _ enabled idle => ?_
      · rw [enable, set]
        exact trips
      · have long : (u.workingSet c).flagLength ≠ 0 := fun short => trips ⟨enabled, set ▸ short⟩
        have asked := flagsAsked_readFlags c u
        rw [State.alerted_asks (enable.trans enabled) serves long (kept.flags.trans idle)]
        exact ⟨by rw [asked.cage], set ▸ asked.holds⟩
  · have quiet : s.tripsOnEntry c = false := by
      rw [← Bool.not_eq_true, State.tripsOnEntry_iff]
      exact fun h => alert h.1
    rw [if_neg alert]
    exact poweringEntered_of_alertTaken quiet guard (.refl c u) fun on => absurd on alert

end

end Sys2Proof.Machine
end

section
/-! PROOFS. The result of a search reaches its cage (R27 to R29, R42, R43, R45). -/

set_option Elab.async false

namespace Sys2Proof.Machine

/-- What a search result raises of its own (R27, R28). -/
def resultSignals (c : CageId) (r : SearchResult) : List Signal := gateSignals c r.event

/-- The cage has the set that its search result names (R42). -/
def State.given (c : CageId) (r : SearchResult) (s : State) : State :=
  { s with
    cages := s.cages.set c { s.cage c with workingCopy := some (r.set, s.sets.get r.set) }
    raised := s.raised ++ resultSignals c r }

section
variable {c : CageId} {r : SearchResult} {s : State}

theorem State.given_cage :
    (s.given c r).cage c = { s.cage c with workingCopy := some (r.set, s.sets.get r.set) } := Bank.get_set_self ..

theorem State.takeResult_eq : s.takeResult c r = if (s.sets.get r.set).layout = (s.cage c).fabricLayout
    then (s.given c r).enterPowering c else (s.given c r).cageFailed c .layoutMismatch .layoutMismatch := by
  unfold State.takeResult State.given resultSignals
  cases r.event with
  | some k => rfl
  | none =>
    simp only [gateSignals, Option.map_none, Option.toList_none, List.append_nil]
    rfl

theorem State.cageFailed_shape (cause : FailedCause) (event : EventKind) : s.cageFailed c cause event = { s with
    cages := (s.cageFailed c cause event).cages, controllers := (s.cageFailed c cause event).controllers
    raised := s.raised ++ [.event ⟨event, c.val, 0⟩] } := rfl

theorem State.onlyBusOf_cageFailed (cause : FailedCause) (event : EventKind) :
    OnlyBusOf c s (s.cageFailed c cause event) := by
  refine ⟨(cageFailed_cageFailed c cause event s).others, fun k other => ?_⟩
  exact (onlyBusOf_updController c _ (s.updCage c fun m => { m with busRequests := [] })).controllers k other

end

section
variable {s : State} {x : Search}

/-- A search is over, its result recorded (R28). -/
def State.searchOver (s : State) (x : Search) : State :=
  { s with
    table := s.table.afterSearch x.cage (searchFrom x.cage x.key x.next x.view)
    search := { s.search with inFlight := none } }

theorem State.searchEnded_eq (flies : s.search.inFlight = some x) : s.searchEnded
    = (if (s.cage x.cage).mode = .profiling ∧ (s.cage x.cage).visit = x.visit
      then (s.searchOver x).takeResult x.cage (searchFrom x.cage x.key x.next x.view) else s.searchOver x).afterSearch := by
  unfold State.searchEnded
  rw [flies]
  simp only [State.isCurrent, Bool.and_eq_true, decide_eq_true_eq]
  rfl

/-- The result taken leaves the search unit. -/
theorem State.takeResult_search (c : CageId) (r : SearchResult) (s : State) : (s.takeResult c r).search = s.search := by
  rw [State.takeResult_eq]
  split
  · have entered : ((s.given c r).enterPowering c).search = (s.given c r).search := by
      rw [(poweringEntered_enterPowering c (s.given c r)).touched.1]
    exact entered
  · rfl

theorem exec_searchEnd {u : State} (ended : s.searchEnded = u.afterSearch) (search : u.search.editPending = s.search.editPending) :
    exec .searchEnd s = .next
      (if s.search.editPending = true then (u.enterEdit.respond .done).settle else u.chooseSearch.settle) := by
  show Host.Outcome.next (State.settle s.searchEnded) = _
  rw [ended, State.afterSearch, search]
  split <;> rfl

end

section
variable (r : SearchResult)

theorem searchResult_set : r.set = match r with
    | .found n => n
    | .noCandidate | .damaged _ => 0 := by
  cases r <;> rfl

theorem resultSignals_eq (c : CageId) : resultSignals c r = match r with
    | .found _ => []
    | .noCandidate => [.event ⟨.noProfile, c.val, 0⟩]
    | .damaged _ => [.event ⟨.tableFault, c.val, 0⟩] := by
  cases r <;> rfl

theorem afterSearch_eq (t : ProfileTable) (c : CageId) : t.afterSearch c r = { t with
    fault := match r with
      | .damaged i => some (i, c)
      | .found _ | .noCandidate => t.fault } := by
  cases r <;> rfl

end

/-- Settles O16. -/
theorem searchResultReachesItsCage : Obligations.SearchResultReachesItsCage := by
  intro s x flies result n events fault ended given
  have setOf : result.set = n := searchResult_set result
  have eventsOf : resultSignals x.cage result = events := resultSignals_eq result x.cage
  have isOver : s.searchOver x = ended := by
    have table : s.table.afterSearch x.cage result = { s.table with fault := fault } := afterSearch_eq result s.table x.cage
    exact congrArg (fun p : ProfileTable => ({ s with table := p, search := { s.search with inFlight := none } } : State)) table
  have givenOf : ended.given x.cage result = given := by
    unfold State.given
    rw [setOf, eventsOf]
    rfl
  have takes : ended.takeResult x.cage result = if (s.sets.get n).layout = (s.cage x.cage).fabricLayout
      then given.enterPowering x.cage else given.cageFailed x.cage .layoutMismatch .layoutMismatch := by
    rw [State.takeResult_eq, setOf, givenOf]
    rfl
  have ends := State.searchEnded_eq flies
  rw [isOver] at ends
  by_cases current : (s.cage x.cage).mode = .profiling ∧ (s.cage x.cage).visit = x.visit
  · rw [if_pos current] at ends
    have edits : (ended.takeResult x.cage result).search.editPending = s.search.editPending :=
      (congrArg SearchUnit.editPending (State.takeResult_search x.cage result ended)).trans rfl
    refine ⟨ended.takeResult x.cage result, exec_searchEnd ends edits,
      fun stale => absurd current stale, fun _ _ fits => ?_, fun _ _ differs => ?_⟩
    · rw [takes, if_pos fits]
      exact poweringEntered_enterPowering x.cage given
    · rw [takes, if_neg differs]
      have cage : given.cage x.cage = { s.cage x.cage with workingCopy := some (n, s.sets.get n) } := Bank.get_set_self ..
      obtain ⟨others, ⟨mode, why⟩, stopped, requests, -, reset, copy⟩ :=
        cageFailed_cageFailed x.cage .layoutMismatch .layoutMismatch given
      rw [cage] at reset copy
      exact ⟨State.cageFailed_shape .., (State.onlyBusOf_cageFailed ..).busTouched, mode, why, stopped, requests, copy, reset⟩
  · rw [if_neg current] at ends
    exact ⟨ended, exec_searchEnd ends rfl, fun _ => rfl, fun mode visit => absurd ⟨mode, visit⟩ current,
      fun mode visit => absurd ⟨mode, visit⟩ current⟩

end Sys2Proof.Machine
end

section
/-! PROOFS. The timers of a cage, its insertion and its identification (chapters 1 and 3). -/

set_option Elab.async false

namespace Sys2Proof.Machine

/-! ### Expiries -/

theorem State.onExpiry_none {t : Timer} (f : State → State) (s : State) (stopped : t = none) : s.onExpiry t f = s := by
  rw [stopped]
  rfl

theorem State.onExpiry_some {t : Timer} {m : Moment} (f : State → State) (s : State) (runs : t = some m) :
    s.onExpiry t f = f { s with now := max s.now m } := by
  rw [runs]
  rfl

/-- A change of one cage's own fields and then a read placed for it. -/
theorem ReadPlaced.after {c : CageId} {purpose : Purpose} {page offset : Byte} {length : Nat} {s u : State} {f : Cage → Cage}
    (h : ReadPlaced c purpose page offset length (s.updCage c f) u) :
    u = { s with cages := u.cages, controllers := u.controllers } ∧ BusTouched c s u
    ∧ u.cage c = { f (s.cage c) with busRequests := (u.cage c).busRequests }
    ∧ u.holdsRead c purpose page offset length := by
  refine ⟨h.shape, h.touched.after (onlyBusOf_updCage c f s), ?_, h.holds⟩
  have cage := h.cage
  rwa [State.cage_updCage_self] at cage

/-- The guard's end (R46), from the state before it. -/
theorem State.guardEnded_spec (c : CageId) (s : State) :
    s.guardEnded c = { s with cages := (s.guardEnded c).cages, controllers := (s.guardEnded c).controllers }
    ∧ BusTouched c s (s.guardEnded c)
    ∧ (s.guardEnded c).cage c = { s.cage c with
        guardTimer := none, lowPower := false, powerUpTimer := some (s.inMs (s.workingSet c).powerUpLimit)
        busRequests := ((s.guardEnded c).cage c).busRequests }
    ∧ (s.guardEnded c).holdsRead c .readyPoll (s.workingSet c).readyPage (s.workingSet c).readyOffset 1 :=
  (State.guardEnded_placed c s).after

/-- The next ready poll (R47). -/
theorem State.pollAgain_spec (c : CageId) (s : State) :
    s.pollAgain c = { s with cages := (s.pollAgain c).cages, controllers := (s.pollAgain c).controllers }
    ∧ BusTouched c s (s.pollAgain c)
    ∧ (s.pollAgain c).cage c = { s.cage c with pollTimer := none, busRequests := ((s.pollAgain c).cage c).busRequests }
    ∧ (s.pollAgain c).holdsRead c .readyPoll (s.workingSet c).readyPage (s.workingSet c).readyOffset 1 := by
  have set := State.workingSet_updCage (c := c) (s := s) (f := fun m => { m with pollTimer := none }) rfl
  have placed := readPlaced_placeRead c .readyPoll (s.workingSet c).readyPage (s.workingSet c).readyOffset 1
    (s.updCage c fun m => { m with pollTimer := none })
  have form : s.pollAgain c = (s.updCage c fun m => { m with pollTimer := none }).placeRead c .readyPoll
      (s.workingSet c).readyPage (s.workingSet c).readyOffset 1 := by
    unfold State.pollAgain State.pollReady
    dsimp only
    rw [set]
  rw [form]
  exact placed.after

/-- Settles O27. -/
theorem poweringTimersExpire : Obligations.PoweringTimersExpire := by
  intro c s p
  refine ⟨fun stopped => ?_, fun stopped => ?_, fun stopped => ?_, fun m => ?_⟩
  · exact congrArg (fun t => Host.Outcome.next (State.settle t)) (State.onExpiry_none (State.guardEnded c) s stopped)
  · exact congrArg (fun t => Host.Outcome.next (State.settle t)) (State.onExpiry_none (State.pollAgain c) s stopped)
  · exact congrArg (fun t => Host.Outcome.next (State.settle t)) (State.onExpiry_none _ s stopped)
  intro now
  refine ⟨fun runs => ?_, fun runs => ?_, fun runs => ?_⟩
  · obtain ⟨shape, touched, cage, holds⟩ := State.guardEnded_spec c { s with now := now }
    refine ⟨State.guardEnded c { s with now := now },
      congrArg (fun t => Host.Outcome.next (State.settle t)) (State.onExpiry_some (State.guardEnded c) s runs), ?_, ?_, ?_, ?_⟩
    · exact shape
    · exact touched.after ⟨fun _ _ => rfl, fun _ _ => rfl⟩
    · exact cage
    · exact holds
  · obtain ⟨shape, touched, cage, holds⟩ := State.pollAgain_spec c { s with now := now }
    exact ⟨State.pollAgain c { s with now := now },
      congrArg (fun t => Host.Outcome.next (State.settle t)) (State.onExpiry_some (State.pollAgain c) s runs),
      shape, touched.after ⟨fun _ _ => rfl, fun _ _ => rfl⟩, cage, holds⟩
  · obtain ⟨-, ⟨mode, cause⟩, stopped, requests, -, reset, copy⟩ :=
      cageFailed_cageFailed c .powerUpFailed .powerUpFailed { s with now := now }
    exact ⟨State.cageFailed c .powerUpFailed .powerUpFailed { s with now := now },
      congrArg (fun t => Host.Outcome.next (State.settle t)) (State.onExpiry_some _ s runs),
      State.cageFailed_shape .., (State.onlyBusOf_cageFailed ..).busTouched.after ⟨fun _ _ => rfl, fun _ _ => rfl⟩, mode, cause, stopped, requests, reset, copy⟩

/-! ### Insertion (R1 to R4) -/

section
variable (c : CageId) (s : State)

theorem Transaction.wipe_eq (later : Bool) (x : Transaction) :
    x.wipe later = { x with wiped := x.wiped || !(x.selecting && later) } := rfl

/-- The page record becomes unknown, whatever select write is still to come (R10; logs 2 and 11). -/
theorem State.forgetPage_eq : s.forgetPage c = { s with
    freeCount := s.freeCount + 1
    cages := s.cages.set c { s.cage c with lastPage := none }
    controllers := s.controllers.set (controllerOf c) { s.controller (controllerOf c) with
      inFlight := (s.controller (controllerOf c)).inFlight.map fun x : Transaction =>
        if x.request.cage = c then { x with wiped := x.wiped || !(x.selecting && Config.selectsLater s.freeCount) } else x } } := rfl

theorem State.insertion_eq : s.insertion c = { s with
    freeCount := s.freeCount + 1
    cages := s.cages.set c { s.cage c with
      present := true, mode := .seating, seatingTimer := some (s.inMs s.settings.seatingTime), lastPage := none }
    controllers := s.controllers.set (controllerOf c) { s.controller (controllerOf c) with
      inFlight := (s.controller (controllerOf c)).inFlight.map fun x : Transaction =>
        if x.request.cage = c then { x with wiped := x.wiped || !(x.selecting && Config.selectsLater s.freeCount) } else x } } := by
  have cage : (s.forgetPage c).cage c = { s.cage c with lastPage := none } := Bank.get_set_self ..
  unfold State.insertion
  rw [State.updCage_eq, cage, State.forgetPage_eq]
  exact congrArg (fun b => ({ s with
    freeCount := s.freeCount + 1
    cages := b
    controllers := s.controllers.set (controllerOf c) { s.controller (controllerOf c) with
      inFlight := (s.controller (controllerOf c)).inFlight.map fun x : Transaction =>
        if x.request.cage = c then { x with wiped := x.wiped || !(x.selecting && Config.selectsLater s.freeCount) }
        else x } } : State)) (Bank.set_set ..)

/-- Seating over on a disengaged device (R2). -/
theorem State.seated_waits (off : s.engaged = false) : s.seated c = { s with
    raised := s.raised ++ [.event ⟨.inserted, c.val, 0⟩]
    cages := s.cages.set c { s.cage c with seatingTimer := none, mode := .waitEngage } } := by
  have form : s.seated c = ((s.updCage c fun m => { m with seatingTimer := none }).raise .inserted c.val).updCage c
      fun m => { m with mode := .waitEngage } := if_neg (Bool.eq_false_iff.mp off)
  have cage : ((s.updCage c fun m => { m with seatingTimer := none }).raise .inserted c.val).cage c
      = { s.cage c with seatingTimer := none } := Bank.get_set_self ..
  rw [form, State.updCage_eq, cage]
  exact congrArg (fun b => ({ s with raised := s.raised ++ [.event ⟨.inserted, c.val, 0⟩], cages := b } : State)) (Bank.set_set ..)

/-- A cage that wakes, with its ready timer (R4, R40). -/
def Cage.woken (now : Moment) (ready : Timer) (m : Cage) : Cage :=
  { m with
    seatingTimer := none, mode := .waking, visit := m.visit + 1, resetLine := false, guardOrigin := now
    readyTimer := ready }

/-- Seating over on an engaged device, before a ready time of 0 acts (R2, R4). -/
def State.wokenAt (c : CageId) (ready : Timer) (s : State) : State :=
  { s with
    raised := s.raised ++ [.event ⟨.inserted, c.val, 0⟩]
    cages := s.cages.set c (Cage.woken s.now ready (s.cage c)) }

theorem State.seated_wakes (on : s.engaged = true) : s.seated c = if s.settings.managementReadyTime = 0
    then (s.wokenAt c none).enterIdentifying c
    else s.wokenAt c (some (s.inMs s.settings.managementReadyTime)) := by
  have form : s.seated c = ((s.updCage c fun m => { m with seatingTimer := none }).raise .inserted c.val).enterWaking c := if_pos on
  have cage : ((s.updCage c fun m => { m with seatingTimer := none }).raise .inserted c.val).cage c
      = { s.cage c with seatingTimer := none } := Bank.get_set_self ..
  have wakes (ready : Timer) : ((s.updCage c fun m => { m with seatingTimer := none }).raise .inserted c.val).updCage c
      (fun m => { m with
        mode := .waking, visit := m.visit + 1, resetLine := false, guardOrigin := s.now, readyTimer := ready })
      = s.wokenAt c ready := by
    rw [State.updCage_eq, cage]
    exact congrArg (fun b => ({ s with raised := s.raised ++ [.event ⟨.inserted, c.val, 0⟩], cages := b } : State)) (Bank.set_set ..)
  rw [form]
  by_cases zero : s.settings.managementReadyTime = 0
  · rw [if_pos zero, ← wakes none]
    refine (if_pos zero).trans (congrArg (State.enterIdentifying c) ?_)
    exact congrArg (fun ready : Timer => ((s.updCage c fun m => { m with seatingTimer := none }).raise .inserted c.val).updCage c
      (fun m => { m with
        mode := .waking, visit := m.visit + 1, resetLine := false, guardOrigin := s.now, readyTimer := ready })) (if_pos zero)
  · rw [if_neg zero, ← wakes (some (s.inMs s.settings.managementReadyTime))]
    refine (if_neg zero).trans ?_
    exact congrArg (fun ready : Timer => ((s.updCage c fun m => { m with seatingTimer := none }).raise .inserted c.val).updCage c
      (fun m => { m with
        mode := .waking, visit := m.visit + 1, resetLine := false, guardOrigin := s.now, readyTimer := ready })) (if_neg zero)

theorem exec_presentAssertion_seating (seating : (s.cage c).mode = .seating) :
    exec (.presentAssertion c) s = .next (s.updCage c fun m =>
      { m with present := true, seatingTimer := some (s.inMs s.settings.seatingTime) }).settle := by
  show execPresentAssertion c s = _
  unfold execPresentAssertion
  rw [seating]
  rfl

theorem exec_presentAssertion_later (absent : (s.cage c).mode ≠ .absent) (seating : (s.cage c).mode ≠ .seating) :
    exec (.presentAssertion c) s = .next s.settle := by
  show execPresentAssertion c s = _
  unfold execPresentAssertion
  cases mode : (s.cage c).mode
  case absent => exact absurd mode absent
  case seating => exact absurd mode seating
  all_goals rfl

end

/-- Settles O25. -/
theorem presenceDebouncesIntoInsertion : Obligations.PresenceDebouncesIntoInsertion := by
  refine ⟨fun c s => ?_, fun c s => ⟨fun stopped => ?_, fun m runs => ?_⟩⟩
  · intro m
    refine ⟨fun absent => ⟨Config.selectsLater s.freeCount, ?_⟩, fun seating => ?_, exec_presentAssertion_later c s,
      fun seating => ?_, fun other => ?_⟩
    · show execPresentAssertion c s = _
      unfold execPresentAssertion
      rw [absent]
      exact congrArg (fun t => Host.Outcome.next (State.settle t)) (State.insertion_eq c s)
    · exact (exec_presentAssertion_seating c s seating).trans rfl
    · exact (if_pos seating).trans rfl
    · exact (if_neg other).trans rfl
  · exact congrArg (fun t => Host.Outcome.next (State.settle t)) (State.onExpiry_none (State.seated c) s stopped)
  · intro now after woken
    have fires : exec (.seatingTimerExpiry c) s = .next (State.seated c { s with now := now }).settle :=
      congrArg (fun t => Host.Outcome.next (State.settle t)) (State.onExpiry_some (State.seated c) s runs)
    rw [fires]
    refine ⟨fun off => ?_, fun on long => ?_, fun on zero => ?_⟩
    · rw [State.seated_waits c { s with now := now } off]
      rfl
    · rw [State.seated_wakes c { s with now := now } on, if_neg (Nat.ne_of_gt long)]
      rfl
    · rw [State.seated_wakes c { s with now := now } on, if_pos zero]
      rfl

end Sys2Proof.Machine
end

section
/-! PROOFS. Identification: five reads, and what they give (R15 to R19). -/

set_option Elab.async false

namespace Sys2Proof.Machine

/-! ### A monitor's read that was answered (R8, R12) -/

section
variable {k : ControllerId} {data : List Byte} {s : State} {x : Transaction} {visit : BitVec 16} {purpose : Purpose}

/-- The page record that a monitor's transaction leaves (R10). -/
def Transaction.pageRead (x : Transaction) : Option Byte := if x.forgotten || x.wiped then none else some x.request.page

theorem Transaction.pageAfter_read (read : x.request.kind = .read) : x.pageAfter .done = x.pageRead := by
  rw [Transaction.pageAfter_done, Transaction.pageRead, read]
  simp [or_assoc]

theorem exec_monitorRead (flies : (s.controller k).inFlight = some x) (read : x.request.kind = .read)
    (length : data.length = x.request.length) (monitor : x.request.requester = .monitor purpose visit)
    (kept : x.discarded = false) (present : visit = (s.cage x.request.cage).visit) :
    exec (.moduleBusTransactionEnd k data) s = .next
      (State.chooseBus k ((s.endedWith k x x.pageRead).monitorTakes x.request.cage .done data purpose)).settle := by
  rw [exec_transactionEnd flies (.inr length), State.endTransaction_eq flies, Transaction.pageAfter_read read,
    handOver_counts monitor kept]
  rw [State.endedWith_cage]
  exact present

end

/-! ### The reads -/

section
variable {c : CageId} {s : State}

/-- The read that follows the bytes that a cage has (R15). -/
theorem readPlaced_readIdentity (c : CageId) (s : State) : ReadPlaced c .identification
    ((s.cage c).identificationRead (s.cage c).identityBytes.length).1.1
    ((s.cage c).identificationRead (s.cage c).identityBytes.length).1.2
    ((s.cage c).identificationRead (s.cage c).identityBytes.length).2 s (s.readIdentity c) := readPlaced_placeRead ..

theorem Cage.identificationRead_eq (m : Cage) (n : Nat) : m.identificationRead n
    = if n < 4 then (m.readList.getD n (0, 0), 1) else (m.serialLocation, 16) := rfl

theorem State.readIdentity_chooseBus (c : CageId) (s : State) :
    (s.readIdentity c).chooseBus (controllerOf c) = s.readIdentity c := State.placeRead_chooseBus ..

/-- The entry to IDENTIFYING (R15). -/
theorem State.enterIdentifying_spec (c : CageId) (s : State) : ∃ u : State, s.enterIdentifying c = u
    ∧ u = { s with cages := u.cages, controllers := u.controllers } ∧ BusTouched c s u
    ∧ u.cage c = { s.cage c with
        mode := .identifying, readyTimer := none, identityKey := none, serialDigest := none, identityBytes := [],
        readList := s.settings.identityReadList, serialLocation := s.settings.serialLocation,
        busRequests := (u.cage c).busRequests }
    ∧ u.holdsRead c .identification (s.settings.identityReadList.getD 0 (0, 0)).1
        (s.settings.identityReadList.getD 0 (0, 0)).2 1 := by
  refine ⟨_, rfl, ?_⟩
  have placed := readPlaced_readIdentity c (s.updCage c fun m => { m with
    mode := .identifying, readyTimer := none, identityKey := none, serialDigest := none, identityBytes := []
    readList := s.settings.identityReadList, serialLocation := s.settings.serialLocation })
  rw [State.cage_updCage_self] at placed
  exact placed.after

/-- Another byte than the last (R15). -/
theorem State.identificationEnded_more {data : List Byte} (identifying : (s.cage c).mode = .identifying)
    (short : (s.cage c).identityBytes.length < 4) : s.identificationEnded c .done data
      = (s.updCage c fun m => { m with identityBytes := (s.cage c).identityBytes ++ data }).readIdentity c := by
  unfold State.identificationEnded
  exact (if_neg (not_not.mpr identifying)).trans (if_pos short)

/-- The last bytes (R15). -/
theorem State.identificationEnded_last {data : List Byte} (identifying : (s.cage c).mode = .identifying)
    (full : 4 ≤ (s.cage c).identityBytes.length) :
    s.identificationEnded c .done data = s.identified c ((s.cage c).identityBytes ++ data) := by
  unfold State.identificationEnded
  exact (if_neg (not_not.mpr identifying)).trans (if_neg (Nat.not_lt_of_le full))

/-- A cage whose key and digest are known (R16, R17). -/
def Cage.known (bytes : List Byte) (m : Cage) : Cage :=
  { m with
    identityKey := some (identityKeyOf bytes), serialDigest := some (serialDigestOf (bytes.drop 4)), identityBytes := [] }

/-- A cage identified, its record looked up (R16, R17, R62; log 13). -/
def State.knownAs (c : CageId) (bytes : List Byte) (s : State) : State :=
  { s with
    cages := s.cages.set c ((s.cage c).known bytes)
    memory := s.memory.lookup c
      (freshRecord s.freeCount c (identityKeyOf bytes) (serialDigestOf (bytes.drop 4)))
    freeCount := s.freeCount + 1 }

theorem State.knownAs_updCage (bytes : List Byte) (mode : CageMode) :
    (s.knownAs c bytes).updCage c (fun m => { m with mode := mode }) = { s.knownAs c bytes with
      cages := s.cages.set c { (s.cage c).known bytes with mode := mode } } := by
  have cage : (s.knownAs c bytes).cage c = (s.cage c).known bytes := Bank.get_set_self ..
  rw [State.updCage_eq, cage]
  exact congrArg (fun b => ({ s.knownAs c bytes with cages := b } : State)) (Bank.set_set ..)

theorem State.identified_edit (bytes : List Byte) (edit : s.table.mode = .edit) : s.identified c bytes
    = { s.knownAs c bytes with cages := s.cages.set c { (s.cage c).known bytes with mode := .profileWait } } := by
  rw [← State.knownAs_updCage]
  have same : (s.knownAs c bytes).table.mode = .edit := edit
  show (match (s.knownAs c bytes).table.mode with
    | .active => (s.knownAs c bytes).enterProfiling c
    | .edit => (s.knownAs c bytes).updCage c fun m => { m with mode := .profileWait }) = _
  rw [same]

theorem State.identified_active (bytes : List Byte) (active : s.table.mode = .active) : s.identified c bytes
    = State.chooseSearch { s.knownAs c bytes with
      cages := s.cages.set c { (s.cage c).known bytes with mode := .profiling }
      search := { s.search with waiting := s.search.waiting.set c true } } := by
  have same : (s.knownAs c bytes).table.mode = .active := active
  have joined : (s.knownAs c bytes).joinSearch c = { s.knownAs c bytes with
      cages := s.cages.set c { (s.cage c).known bytes with mode := .profiling }
      search := { s.search with waiting := s.search.waiting.set c true } } := by
    unfold State.joinSearch
    rw [State.knownAs_updCage]
    rfl
  rw [← joined]
  show (match (s.knownAs c bytes).table.mode with
    | .active => (s.knownAs c bytes).enterProfiling c
    | .edit => (s.knownAs c bytes).updCage c fun m => { m with mode := .profileWait }) = _
  rw [same]
  rfl

end

/-- Identification over, after a transaction's end: one cage changed twice. -/
theorem State.endedWith_knownAs {k : ControllerId} {x : Transaction} {s : State} (page : Option Byte) (bytes : List Byte)
    (mode : CageMode) : ({ (s.endedWith k x page).knownAs x.request.cage bytes with
      cages := (s.endedWith k x page).cages.set x.request.cage
        { ((s.endedWith k x page).cage x.request.cage).known bytes with mode := mode } } : State)
    = { s.endedWith k x page with
        cages := s.cages.set x.request.cage { ({ s.cage x.request.cage with lastPage := page } : Cage).known bytes with mode := mode }
        memory := s.memory.lookup x.request.cage
          (freshRecord s.freeCount x.request.cage (identityKeyOf bytes) (serialDigestOf (bytes.drop 4)))
        freeCount := s.freeCount + 1 } := by
  have cages (m : Cage) : (s.endedWith k x page).cages.set x.request.cage m = s.cages.set x.request.cage m := Bank.set_set ..
  rw [State.endedWith_cage, cages]
  rfl

/-- Settles O26. -/
theorem identificationReadsFiveTimes : Obligations.IdentificationReadsFiveTimes := by
  refine ⟨fun c s m runs => ⟨?_, State.enterIdentifying_spec c⟩, ?_⟩
  · exact congrArg (fun t => Host.Outcome.next (State.settle t)) (State.onExpiry_some (State.enterIdentifying c) s runs)
  intro k data s x visit flies read length monitor kept c present identifying here bytes page ended key digest known
  have cage : ended.cage c = { s.cage c with lastPage := page } := State.endedWith_cage page
  have mode : (ended.cage c).mode = .identifying := by rw [cage]; exact identifying
  have had : (ended.cage c).identityBytes = (s.cage c).identityBytes := by rw [cage]
  have runs := exec_monitorRead flies read length monitor kept present
  rw [State.monitorTakes, show s.endedWith k x x.pageRead = ended from rfl] at runs
  rw [runs]
  refine ⟨fun short => ?_, fun full edit => ?_, fun full active => ?_⟩
  · rw [State.identificationEnded_more mode (had ▸ short), had]
    have placed := readPlaced_readIdentity c (ended.updCage c fun m => { m with identityBytes := bytes })
    have again := State.readIdentity_chooseBus c (ended.updCage c fun m => { m with identityBytes := bytes })
    rw [State.cage_updCage_self, cage, Cage.identificationRead_eq] at placed
    generalize (ended.updCage c fun m => { m with identityBytes := bytes }).readIdentity c = u at *
    obtain ⟨shape, touched, after, holds⟩ := placed.after
    rw [cage] at after
    rw [here] at again
    refine ⟨u, congrArg (fun t => Host.Outcome.next (State.settle t)) again, shape,
      touched.after (State.onlyBusOf_endedWith page here), after, ?_⟩
    by_cases more : bytes.length < 4
    · rw [if_pos more]
      simpa only [if_pos more] using holds
    · rw [if_neg more]
      simpa only [if_neg more] using holds
  · refine congrArg (fun t => Host.Outcome.next (State.settle (State.chooseBus k t))) ?_
    rw [State.identificationEnded_last mode (had ▸ full), had, State.identified_edit (s := ended) _ edit]
    exact State.endedWith_knownAs page bytes .profileWait
  · refine congrArg (fun t => Host.Outcome.next (State.settle (State.chooseBus k t))) ?_
    rw [State.identificationEnded_last mode (had ▸ full), had, State.identified_active (s := ended) _ active]
    exact congrArg (fun t : State => State.chooseSearch { t with
      search := { s.search with waiting := s.search.waiting.set c true } }) (State.endedWith_knownAs page bytes .profiling)

end Sys2Proof.Machine
end

section
/-! PROOFS. Attempts that begin and fail (R79 to R81, R85, R86), and the ready poll that begins them (R47, R49). -/

set_option Elab.async false

namespace Sys2Proof.Machine

/-! ### An attempt begins (R79 to R81) -/

section
variable {j : LinkId} {s t : State}

/-- What an attempt of link `j` takes from the state around it. -/
structure SameCourse (j : LinkId) (s t : State) : Prop where
  now : t.now = s.now
  layout : t.linkLayout j = s.linkLayout j
  set : t.linkSet j = s.linkSet j

theorem SameCourse.lanes (h : SameCourse j s t) : t.moduleLanes j = s.moduleLanes j := by
  unfold State.moduleLanes State.fabricLanes
  rw [h.layout, h.set]

theorem SameCourse.active (h : SameCourse j s t) : t.isActive j = s.isActive j := congrArg (·.uses (slotOf j)) h.layout

theorem SameCourse.of_cages (now : t.now = s.now) (cages : t.cages = s.cages) : SameCourse j s t := by
  constructor
  · exact now
  · unfold State.linkLayout State.cage
    rw [cages]
  · unfold State.linkSet State.workingSet State.cage
    rw [cages]

theorem State.activeLinks_of_course (h : ∀ j, SameCourse j s t) (c : CageId) : t.activeLinks c = s.activeLinks c :=
  List.filter_congr fun j _ => (h j).active

theorem State.enterAdapting_engine (seeds : Option SeedsInUse) (n : Nat) : AttemptBegun seeds n
    (s.link j).engine.lastFailure j s (s.enterAdapting j seeds n) := by
  unfold AttemptBegun State.enterAdapting
  rw [State.link_updEngine_self]
  cases seeds <;> rfl

theorem State.enterAdapting_rest (seeds : Option SeedsInUse) (n : Nat) : (s.enterAdapting j seeds n).link j
    = { s.link j with engine := ((s.enterAdapting j seeds n).link j).engine } := by
  unfold State.enterAdapting
  rw [State.link_updEngine_self]

/-- The attempt that a link begins is the same wherever its course is. -/
theorem AttemptBegun.of_course {seeds : Option SeedsInUse} {n : Nat} {last : FailureCause} {u v : State}
    (h : AttemptBegun seeds n last j t u) (course : SameCourse j s t) (epoch : (t.link j).engine.epoch = (s.link j).engine.epoch)
    (skew : (t.link j).engine.measuredSkew = (s.link j).engine.measuredSkew)
    (here : (v.link j).engine = (u.link j).engine) : AttemptBegun seeds n last j s v := by
  unfold AttemptBegun at h ⊢
  rw [here, h, course.now, course.lanes, course.set, epoch, skew]

end

/-! ### The links of a cage that serves (R49, R68, R78) -/

/-- The warm answer, in terms of the record (R68). -/
theorem State.warmAnswer_isSome (s : State) (j : LinkId) : (s.warmAnswer j).isSome = true
    ↔ ∃ r, s.memory.positions.get (cageOf j) = some r ∧ (s.cage (cageOf j)).identityKey = some r.key
      ∧ (s.cage (cageOf j)).serialDigest = some r.digest ∧ r.valid = true ∧ r.layout = (s.linkSet j).layout
      ∧ r.laneMap = (s.linkSet j).laneMap ∧ r.seeded.get (slotOf j) = true := by
  unfold State.warmAnswer State.ownRecord
  cases position : s.memory.positions.get (cageOf j) with
  | none => simp
  | some r =>
    by_cases own : r.isOf (s.cage (cageOf j)) = true
    · simp only [Option.filter_some, own, if_true]
      simp only [CageRecord.isOf, Bool.and_eq_true, decide_eq_true_eq] at own
      by_cases fits : (r.fits (s.linkSet j) && r.seeded.get (slotOf j)) = true
      · rw [if_pos fits]
        simp only [CageRecord.fits, Bool.and_eq_true, decide_eq_true_eq] at fits
        obtain ⟨⟨⟨valid, layout⟩, lanes⟩, seeded⟩ := fits
        exact iff_of_true rfl ⟨r, rfl, own.1, own.2, valid, layout, lanes, seeded⟩
      · rw [if_neg fits]
        simp only [CageRecord.fits, Bool.and_eq_true, decide_eq_true_eq] at fits
        refine iff_of_false nofun ?_
        rintro ⟨q, e, -, -, valid, layout, lanes, seeded⟩
        cases e
        exact fits ⟨⟨⟨valid, layout⟩, lanes⟩, seeded⟩
    · simp only [Option.filter_some, own]
      simp only [CageRecord.isOf, Bool.and_eq_true, decide_eq_true_eq] at own
      refine iff_of_false nofun ?_
      rintro ⟨q, e, key, digest, -⟩
      cases e
      exact own ⟨key, digest⟩

/-- The seeds and the skew of a warm answer (R68). -/
theorem State.warmAnswer_seeds {s : State} {j : LinkId} {r : CageRecord} {y : SeedsInUse}
    (position : s.memory.positions.get (cageOf j) = some r) (warm : s.warmAnswer j = some y) :
    y.skew = r.skews.get (slotOf j) ∧ y.settings = (s.moduleLanes j).map fun n => (n, r.seeds.get n) := by
  unfold State.warmAnswer State.ownRecord at warm
  rw [position] at warm
  by_cases own : r.isOf (s.cage (cageOf j)) = true
  · simp only [Option.filter_some, own, if_true] at warm
    split at warm
    · cases warm
      exact ⟨rfl, rfl⟩
    · cases warm
  · simp only [Option.filter_some, own] at warm
    cases warm

theorem touches_leaveDown {W : LinkId → Prop} {j : LinkId} (hj : W j) (s : State) :
    Touches W [.engine, .attempt] s (s.leaveDown j) := touches_enterAdapting hj _ 0 s

/-- The links that leave DOWN together, each by its own answer. -/
theorem State.forEach_leaveDown {s : State} {l : List LinkId} (nodup : l.Nodup) {j : LinkId} (hj : j ∈ l) :
    AttemptBegun (s.warmAnswer j) 0 (s.link j).engine.lastFailure j s (s.forEach State.leaveDown l)
    ∧ (s.forEach State.leaveDown l).link j = { s.link j with engine := ((s.forEach State.leaveDown l).link j).engine } := by
  obtain ⟨t, touched, result⟩ := State.forEach_at (fun i u => touches_leaveDown (only_self i) u) nodup hj s
  have link : t.link j = s.link j := touched.elsewhere j (by simp)
  have course : SameCourse j s t := .of_cages touched.now touched.cages
  have answer : t.warmAnswer j = s.warmAnswer j := by
    unfold State.warmAnswer State.ownRecord State.cage
    rw [touched.memory, touched.cages, course.lanes, course.set]
  have begun := State.enterAdapting_engine (s := t) (j := j) (t.warmAnswer j) 0
  have rest := State.enterAdapting_rest (s := t) (j := j) (t.warmAnswer j) 0
  rw [answer, link] at begun
  refine ⟨begun.of_course course (by rw [link]) (by rw [link]) ?_, ?_⟩
  · rw [result, State.leaveDown, answer]
  · rw [result, State.leaveDown]
    rw [link] at rest
    exact rest

/-! ### The ready poll (R47) -/

section
variable {k : ControllerId} {s : State} {x : Transaction}

/-- A cage that enters SERVING, before its links leave DOWN (R47). -/
def Cage.serves (m : Cage) : Cage :=
  { m with mode := .serving, lowPower := false, guardTimer := none, powerUpTimer := none, pollTimer := none }

/-- A change of a cage's own fields that leaves its layout and working copy leaves the course of its links. -/
theorem SameCourse.of_setCage {c : CageId} {m : Cage} {u : State} (now : u.now = s.now) (cages : u.cages = s.cages.set c m)
    (layout : m.fabricLayout = (s.cage c).fabricLayout) (copy : m.workingCopy = (s.cage c).workingCopy) (j : LinkId) :
    SameCourse j s u := by
  have cage (d : CageId) : (u.cage d).fabricLayout = (s.cage d).fabricLayout ∧ (u.cage d).workingCopy = (s.cage d).workingCopy := by
    unfold State.cage
    rw [cages]
    by_cases here : c = d
    · subst here
      rw [Bank.get_set_self]
      exact ⟨layout, copy⟩
    · rw [Bank.get_set_ne _ _ _ _ here]
      exact ⟨rfl, rfl⟩
  obtain ⟨sameLayout, sameCopy⟩ := cage (cageOf j)
  constructor
  · exact now
  · exact sameLayout
  · unfold State.linkSet State.workingSet
    rw [sameCopy]

theorem State.enterServing_eq (c : CageId) (s : State) :
    s.enterServing c = State.forEach State.leaveDown (s.activeLinks c) (s.updCage c Cage.serves) := by
  have active : (s.updCage c Cage.serves).activeLinks c = s.activeLinks c :=
    State.activeLinks_of_course (s := s) (t := s.updCage c Cage.serves)
      (SameCourse.of_setCage (c := c) (m := (s.cage c).serves) (u := s.updCage c Cage.serves) rfl rfl rfl rfl) c
  exact congrArg (fun l => State.forEach State.leaveDown l (s.updCage c Cage.serves)) active

theorem State.pollEnded_more {c : CageId} {data : List Byte} (powering : (s.cage c).mode = .powering)
    (other : data.headD 0 &&& (s.workingSet c).readyMask ≠ (s.workingSet c).readyValue) :
    s.pollEnded c .done data = s.updCage c fun m => { m with pollTimer := some (s.inMs pollInterval) } := by
  unfold State.pollEnded
  exact (if_neg (not_not.mpr powering)).trans (if_neg (by simpa using other))

theorem State.pollEnded_ready {c : CageId} {data : List Byte} (powering : (s.cage c).mode = .powering)
    (ready : data.headD 0 &&& (s.workingSet c).readyMask = (s.workingSet c).readyValue) :
    s.pollEnded c .done data = s.enterServing c := by
  unfold State.pollEnded
  exact (if_neg (not_not.mpr powering)).trans (if_pos (by simpa using ready))

end

/-- Settles O23. -/
theorem readyPollServes : Obligations.ReadyPollServes := by
  intro k data s x visit flies read length monitor kept c present powering p page
  have runs := exec_monitorRead flies read length monitor kept present
  have cage := State.endedWith_cage (k := k) (s := s) (x := x) x.pageRead
  have set := State.endedWith_workingSet (k := k) (s := s) (x := x) x.pageRead
  have changed := State.endedWith_updCage (k := k) (s := s) (x := x) x.pageRead
  rw [State.monitorTakes] at runs
  have mode : ((s.endedWith k x x.pageRead).cage x.request.cage).mode = .powering := by
    rw [cage]
    exact powering
  rw [runs]
  refine ⟨fun other => ?_, fun ready => ?_⟩
  · refine congrArg (fun t => Host.Outcome.next (State.settle (State.chooseBus k t))) ?_
    rw [State.pollEnded_more mode (by rw [set]; exact other), changed]
    rfl
  · have course (j : LinkId) : SameCourse j s (s.endedWith k x x.pageRead) :=
      .of_setCage (s := s) (u := s.endedWith k x x.pageRead) (c := x.request.cage)
        (m := { s.cage x.request.cage with lastPage := x.pageRead }) rfl rfl rfl rfl j
    rw [State.pollEnded_ready mode (by rw [set]; exact ready), State.enterServing_eq, changed,
      State.activeLinks_of_course course]
    generalize base : ({ s.endedWith k x x.pageRead with
      cages := s.cages.set x.request.cage (Cage.serves { s.cage x.request.cage with lastPage := x.pageRead }) } : State) = b
    have sameCourse (j : LinkId) : SameCourse j s b := by
      refine .of_setCage (c := x.request.cage) (m := Cage.serves { s.cage x.request.cage with lastPage := x.pageRead }) ?_ ?_ rfl rfl j
      · rw [← base]
        rfl
      · rw [← base]
    have served : b.cage c = Cage.serves { s.cage c with lastPage := page } := base ▸ Bank.get_set_self ..
    have links (j : LinkId) : b.link j = s.link j := base ▸ rfl
    have positions : b.memory = s.memory := base ▸ rfl
    have touched : Touches (fun j => j ∈ s.activeLinks c) [.engine, .attempt] b (State.forEach State.leaveDown (s.activeLinks c) b) :=
      .forEach fun i hi u => touches_leaveDown hi u
    refine ⟨State.forEach State.leaveDown (s.activeLinks c) b, rfl, ?_, fun j => ⟨fun here => ?_, fun other => ?_⟩⟩
    · rw [touched.eq, ← base]
      rfl
    · have member := State.mem_activeLinks.mpr here
      obtain ⟨begun, rest⟩ := State.forEach_leaveDown (s := b) (State.activeLinks_nodup s c) member
      have isWarm := State.warmAnswer_isSome b j
      have seeds : ((State.forEach State.leaveDown (s.activeLinks c) b).link j).engine.seeds = b.warmAnswer j := by rw [begun]
      have warm : ((State.forEach State.leaveDown (s.activeLinks c) b).link j).engine.warm = (b.warmAnswer j).isSome := by
        rw [begun]
      rw [here.1, served, positions, (sameCourse j).set] at isWarm
      rw [links] at rest begun
      refine ⟨?_, ?_, fun r y position held => ?_, rest⟩
      · rw [seeds]
        exact begun.of_course (sameCourse j) (by rw [links]) (by rw [links]) rfl
      · rw [warm, isWarm]
        have same : s.linkSet j = p := by rw [State.linkSet, here.1]
        rw [same]
        rfl
      · rw [seeds] at held
        rw [← (sameCourse j).lanes]
        exact State.warmAnswer_seeds (by rw [positions, here.1]; exact position) held
    · have untouched : j ∉ s.activeLinks c := fun member => other (State.mem_activeLinks.mp member)
      rw [touched.elsewhere j untouched, links]

end Sys2Proof.Machine
end

section
/-! PROOFS. Attempts that fail, convergence, lock and probes (R81 to R88, R92, R99). -/

set_option Elab.async false

namespace Sys2Proof.Machine

section
variable {j : LinkId} {s : State}

theorem State.updEngine_eq (j : LinkId) (f : LinkEngine → LinkEngine) (s : State) : s.updEngine j f
    = { s with links := s.links.set j { s.link j with engine := f (s.link j).engine } } := rfl

theorem State.updLink_updLink (j : LinkId) (f g : Link → Link) (s : State) :
    (s.updLink j f).updLink j g = s.updLink j fun l => g (f l) := by
  have link : (s.updLink j f).links.get j = f (s.links.get j) := Bank.get_set_self ..
  rw [State.updLink, link]
  exact congrArg (fun b => ({ s with links := b } : State)) (Bank.set_set ..)

theorem State.updEngine_updEngine (j : LinkId) (f g : LinkEngine → LinkEngine) (s : State) :
    (s.updEngine j f).updEngine j g = s.updEngine j fun e => g (f e) := State.updLink_updLink ..

/-! ### An attempt fails (R85, R86) -/

theorem State.attemptFailed_raised (cause : FailureCause) :
    (s.attemptFailed j cause).raised = s.raised ++ s.attemptEvents j := by
  unfold State.attemptFailed State.attemptEvents
  by_cases warm : (s.link j).engine.warm = true
  · simp only [warm, if_true]
    rfl
  · by_cases left : (s.link j).engine.retryCount < (s.linkSet j).retries
    · simp only [warm, left, if_true]
      exact (List.append_nil _).symm
    · simp only [warm, left, if_false]
      rfl

theorem State.attemptFailed_rest (cause : FailureCause) : (s.attemptFailed j cause).link j
    = { s.link j with engine := ((s.attemptFailed j cause).link j).engine } :=
  (touches_attemptFailed (only_self j) cause s).link_eq j

theorem attemptEnded_attemptFailed (j : LinkId) (cause : FailureCause) (s : State) :
    AttemptEnded cause j s (s.attemptFailed j cause) := by
  have marked : (s.updEngine j (LinkEngine.failedAttempt cause)).link j
      = { s.link j with engine := (s.link j).engine.failedAttempt cause } := State.link_updEngine_self ..
  have course : SameCourse j s (s.updEngine j (LinkEngine.failedAttempt cause)) := .of_cages rfl rfl
  have begun (n : Nat) (u : State) (links : u.links = (s.updEngine j (LinkEngine.failedAttempt cause)).links)
      (now : u.now = s.now) (cages : u.cages = s.cages) : AttemptBegun none n cause j s (u.enterAdapting j none n) := by
    have link : u.link j = { s.link j with engine := (s.link j).engine.failedAttempt cause } := by
      rw [← marked, State.link, links]
      rfl
    have h := State.enterAdapting_engine (s := u) (j := j) none n
    rw [link] at h
    exact h.of_course (.of_cages now cages) (by rw [link]; rfl) (by rw [link]; rfl) rfl
  refine ⟨fun warm => ?_, fun cold left => ?_, fun cold gone => ?_⟩
  · unfold State.attemptFailed
    rw [if_pos warm]
    exact begun _ _ rfl rfl rfl
  · unfold State.attemptFailed
    rw [if_neg (Bool.eq_false_iff.mp cold), if_pos left]
    exact begun _ _ rfl rfl rfl
  · unfold State.attemptFailed
    rw [if_neg (Bool.eq_false_iff.mp cold), if_neg (Nat.not_lt_of_le gone), State.updEngine_updEngine]
    have final : (s.updEngine j fun e => (e.failedAttempt cause).failed).link j
        = { s.link j with engine := ((s.link j).engine.failedAttempt cause).failed } := State.link_updEngine_self ..
    exact congrArg Link.engine final

/-- All that an attempt failure leaves (R85, R86). -/
theorem State.attemptFailed_shape (j : LinkId) (cause : FailureCause) (s : State) :
    s.attemptFailed j cause = { s with links := (s.attemptFailed j cause).links, raised := s.raised ++ s.attemptEvents j } := by
  rw [← State.attemptFailed_raised cause]
  exact (touches_attemptFailed (only_self j) cause s).eq

theorem State.attemptFailed_others (cause : FailureCause) {i : LinkId} (other : i ≠ j) :
    (s.attemptFailed j cause).link i = s.link i := (touches_attemptFailed (only_self j) cause s).elsewhere i other

end

/-! ### Convergence, codewords and probes (R81, R92, R99) -/

section
variable (j : LinkId) (s : State)

theorem State.converge_ignored (r : Convergence) (void : ¬ ((s.link j).engine.recovery = .adapting
    ∧ (s.link j).engine.epoch = r.attempt ∧ r.lane ∈ s.moduleLanes j)) : s.converge j r = s := by
  unfold State.converge
  refine if_neg ?_
  simpa [and_assoc] using void

/-- A lane of the slot joins the converged set (R81). -/
def State.joined (j : LinkId) (n : LaneId) (s : State) : State :=
  s.updEngine j fun e => { e with converged := e.converged.set n true }

theorem State.converge_counts {r : Convergence} (adapting : (s.link j).engine.recovery = .adapting)
    (epoch : (s.link j).engine.epoch = r.attempt) (lane : r.lane ∈ s.moduleLanes j) : s.converge j r
      = if ∀ m ∈ s.moduleLanes j, ((s.link j).engine.converged.set r.lane true).get m = true
        then (s.joined j r.lane).enterAligning j else s.joined j r.lane := by
  have link : (s.joined j r.lane).link j = { s.link j with engine := { (s.link j).engine with
      converged := (s.link j).engine.converged.set r.lane true } } := State.link_updEngine_self ..
  have lanes : (s.joined j r.lane).moduleLanes j = s.moduleLanes j := rfl
  unfold State.converge
  refine (if_pos (by simp [adapting, epoch, lane])).trans ?_
  show (if ((s.joined j r.lane).moduleLanes j).all ((s.joined j r.lane).link j).engine.converged.get
    then (s.joined j r.lane).enterAligning j else s.joined j r.lane) = _
  rw [link, lanes]
  simp only [List.all_eq_true]

theorem State.enterAligning_eq (n : LaneId) : (s.joined j n).enterAligning j = s.updEngine j fun e => { e with
    converged := e.converged.set n true, recovery := .aligning, adaptationTimer := none
    alignmentTimer := some (s.inMs (s.linkSet j).alignmentLimit) } := State.updEngine_updEngine ..

theorem LinkEngine.counted_eq (corrected : Nat) (uncorrectable : Bool) (e : LinkEngine) : e.counted corrected uncorrectable
    = { e with
      codewords := min 4294967295 (e.codewords + 1)
      corrected := min 4294967295 (e.corrected + corrected)
      uncorrectable := min 4294967295 (e.uncorrectable + if uncorrectable then 1 else 0) } := by
  cases uncorrectable <;> rfl

theorem State.sendProbe_eq : s.sendProbe j = s.updLink j fun l => { l with probeSent := some (s.probeFor j) } := rfl

theorem State.probeFor_updEngine {f : LinkEngine → LinkEngine} (epoch : (f (s.link j).engine).epoch = (s.link j).engine.epoch) :
    (s.updEngine j f).probeFor j = s.probeFor j := by
  unfold State.probeFor
  rw [State.link_updEngine_self, ← epoch]
  rfl

/-- An engine changed without its epoch, and a probe sent (R99). -/
theorem State.sendProbe_updEngine {f : LinkEngine → LinkEngine} (epoch : (f (s.link j).engine).epoch = (s.link j).engine.epoch) :
    (s.updEngine j f).sendProbe j = { s with links := s.links.set j { s.link j with
      engine := f (s.link j).engine, probeSent := some (s.probeFor j) } } := by
  rw [State.sendProbe_eq, State.probeFor_updEngine j s epoch]
  exact State.updLink_updLink j (fun l => { l with engine := f l.engine }) (fun l => { l with probeSent := some (s.probeFor j) }) s

theorem exec_codewordDecoded (corrected : Nat) (uncorrectable : Bool) :
    exec (.codewordDecoded j corrected uncorrectable) s = .next (if (s.link j).engine.windowTimer.isSome
      then s.updEngine j (LinkEngine.counted corrected uncorrectable) else s).settle := by
  show execCodewordDecoded j corrected uncorrectable s = _
  unfold execCodewordDecoded
  split <;> rfl

/-- The attempt timers' expiries (R81, R84, R85). -/
theorem attemptFailed_reached (cause : FailureCause) (now : Moment) :
    let reached := { s with now := now }
    let u := reached.attemptFailed j cause
    AttemptEnded cause j reached u ∧ u = { reached with links := u.links, raised := s.raised ++ s.attemptEvents j }
      ∧ u.link j = { s.link j with engine := (u.link j).engine } ∧ ∀ i, i ≠ j → u.link i = s.link i :=
  ⟨attemptEnded_attemptFailed .., State.attemptFailed_shape .., State.attemptFailed_rest cause,
    fun _ other => State.attemptFailed_others cause other⟩

end

/-- Settles O36. -/
theorem adaptingAndDecodingEvents : Obligations.AdaptingAndDecodingEvents := by
  refine ⟨?_, ?_, ?_⟩
  · intro j n attempt s l e converged counts
    have runs : exec (.laneConverged j ⟨n, attempt⟩) s = .next (s.converge j ⟨n, attempt⟩).settle := rfl
    rw [runs]
    refine ⟨fun void => ?_, fun counted missing => ?_, fun counted full => ?_⟩
    · rw [State.converge_ignored j s ⟨n, attempt⟩ void]
    · obtain ⟨adapting, epoch, lane⟩ := counted
      obtain ⟨m, here, open_⟩ := missing
      rw [State.converge_counts j s (r := ⟨n, attempt⟩) adapting epoch lane,
        if_neg fun all => nomatch (all m here).symm.trans open_]
      rfl
    · obtain ⟨adapting, epoch, lane⟩ := counted
      rw [State.converge_counts j s (r := ⟨n, attempt⟩) adapting epoch lane, if_pos full, State.enterAligning_eq]
      rfl
  · intro j s m reached failed
    refine ⟨fun stopped => ?_, fun stopped => ?_, fun runs => ?_, fun runs => ?_⟩
    · exact congrArg (fun t => Host.Outcome.next (State.settle t)) (State.onExpiry_none _ s stopped)
    · exact congrArg (fun t => Host.Outcome.next (State.settle t)) (State.onExpiry_none _ s stopped)
    · exact ⟨reached.attemptFailed j .adaptTimeout,
        congrArg (fun t => Host.Outcome.next (State.settle t)) (State.onExpiry_some _ s runs), attemptFailed_reached j s _ _⟩
    · exact ⟨reached.attemptFailed j .alignTimeout,
        congrArg (fun t => Host.Outcome.next (State.settle t)) (State.onExpiry_some _ s runs), attemptFailed_reached j s _ _⟩
  · intro j corrected uncorrectable s m l e
    refine ⟨fun stopped => ?_, fun counts => ?_, fun stopped => ?_, fun runs => ?_⟩
    · rw [exec_codewordDecoded, if_neg (by rw [show (s.link j).engine.windowTimer = none from stopped]; decide)]
    · rw [exec_codewordDecoded, if_pos (Option.isSome_iff_ne_none.mpr counts), State.updEngine_eq, LinkEngine.counted_eq]
    · exact congrArg (fun t => Host.Outcome.next (State.settle t)) (State.onExpiry_none (State.probeAgain j) s stopped)
    · refine congrArg (fun t => Host.Outcome.next (State.settle t)) ((State.onExpiry_some (State.probeAgain j) s runs).trans ?_)
      exact State.sendProbe_updEngine (f := fun e => { e with probeTimer := some (max s.now m + probeInterval * millisecond) })
        j { s with now := max s.now m } rfl

end Sys2Proof.Machine
end

section
/-! PROOFS. Marker lock, the skew, and FEC lock (R83, R84, R88). -/

set_option Elab.async false

namespace Sys2Proof.Machine

/-! ### The skew (R83) -/

theorem foldl_max_of_le {l : List Nat} {a m : Nat} (bound : ∀ x ∈ l, x ≤ a) (start : m ≤ a) (reached : a ∈ l ∨ m = a) :
    l.foldl max m = a := by
  induction l generalizing m with
  | nil => exact reached.resolve_left List.not_mem_nil
  | cons x rest ih =>
    have le := bound x List.mem_cons_self
    refine ih (fun y hy => bound y (List.mem_cons_of_mem _ hy)) (max_le start le) ?_
    rcases reached with here | same
    · exact (List.mem_cons.mp here).elim (fun e => .inr (by omega)) .inl
    · exact .inr (by omega)

theorem foldl_min_of_le {l : List Nat} {b m : Nat} (bound : ∀ x ∈ l, b ≤ x) (start : b ≤ m) (reached : b ∈ l ∨ m = b) :
    l.foldl min m = b := by
  induction l generalizing m with
  | nil => exact reached.resolve_left List.not_mem_nil
  | cons x rest ih =>
    have le := bound x List.mem_cons_self
    refine ih (fun y hy => bound y (List.mem_cons_of_mem _ hy)) (le_min start le) ?_
    rcases reached with here | same
    · exact (List.mem_cons.mp here).elim (fun e => .inr (by omega)) .inl
    · exact .inr (by omega)

theorem skewOf_eq {offsets : List Nat} {a b : Nat} (most : a ∈ offsets) (least : b ∈ offsets)
    (bound : ∀ x ∈ offsets, b ≤ x ∧ x ≤ a) : skewOf offsets = min 1023 (a - b) := by
  have first : b ≤ offsets.headD 0 := by
    cases offsets with
    | nil => cases least
    | cons x rest => exact (bound x List.mem_cons_self).1
  rw [skewOf, foldl_max_of_le (fun x hx => (bound x hx).2) (Nat.zero_le _) (.inl most),
    foldl_min_of_le (fun x hx => (bound x hx).1) first (.inl least)]

/-! ### Marker lock (R83, R88) -/

/-- An engine with lane `n` locked. -/
def LinkEngine.marked (n : LaneId) (offset : Nat) (e : LinkEngine) : LinkEngine :=
  { e with
    markerLock := e.markerLock.set n true, hadMarker := e.hadMarker.set n true
    markerOffset := e.markerOffset.set n offset }

/-- An engine whose lock-loss timer stops where lock is whole (R88). -/
def LinkEngine.judged (e : LinkEngine) : LinkEngine := if e.isWhole then { e with lockLossTimer := none } else e

theorem LinkEngine.isWhole_iff (e : LinkEngine) : e.isWhole = true
    ↔ (∀ m, e.hadMarker.get m = true → e.markerLock.get m = true) ∧ (e.fecReached = true → e.fecLock = true) := by
  simp only [LinkEngine.isWhole, Bool.and_eq_true, List.all_eq_true, List.mem_finRange, true_implies, Bool.or_eq_true,
    Bool.not_eq_true', ← Bool.not_eq_true, ← imp_iff_not_or]

theorem LinkEngine.judged_eq {e : LinkEngine} {timer : Timer}
    (stops : (∀ m, e.hadMarker.get m = true → e.markerLock.get m = true) ∧ (e.fecReached = true → e.fecLock = true) → timer = none)
    (runs : ¬ ((∀ m, e.hadMarker.get m = true → e.markerLock.get m = true) ∧ (e.fecReached = true → e.fecLock = true)) →
      timer = e.lockLossTimer) : e.judged = { e with lockLossTimer := timer } := by
  by_cases whole : e.isWhole = true
  · rw [LinkEngine.judged, if_pos whole, stops (e.isWhole_iff.mp whole)]
  · rw [LinkEngine.judged, if_neg whole, runs fun h => whole (e.isWhole_iff.mpr h)]

section
variable {j : LinkId} {s : State} {n : LaneId} {offset : Nat}

theorem State.lockMarker_ignored (void : ¬ ((s.link j).engine.recovery.watchesLock = true ∧ n ∈ s.moduleLanes j
    ∧ (s.link j).engine.markerLock.get n = false)) : s.lockMarker j n offset = s := by
  unfold State.lockMarker
  refine if_neg ?_
  simpa [and_assoc] using void

/-- A lane of link `j` is locked, and its lock-loss timer judged. -/
def State.locked (j : LinkId) (n : LaneId) (offset : Nat) (s : State) : State :=
  s.updEngine j fun e => (e.marked n offset).judged

theorem State.lockMarker_counts (watches : (s.link j).engine.recovery.watchesLock = true) (lane : n ∈ s.moduleLanes j)
    (open_ : (s.link j).engine.markerLock.get n = false) : s.lockMarker j n offset
      = if (s.locked j n offset).skewDue j then (s.locked j n offset).measureSkew j else s.locked j n offset := by
  have form : (s.updEngine j (LinkEngine.marked n offset)).judgeWhole j = s.locked j n offset := State.updEngine_updEngine ..
  unfold State.lockMarker
  refine (if_pos (by simp [watches, lane, open_])).trans ?_
  rw [← form]
  rfl

theorem State.locked_link : (s.locked j n offset).link j = { s.link j with
    engine := ((s.link j).engine.marked n offset).judged } := State.link_updEngine_self ..

theorem LinkEngine.judged_same (e : LinkEngine) : e.judged.recovery = e.recovery ∧ e.judged.skewAccepted = e.skewAccepted
    ∧ e.judged.markerLock = e.markerLock ∧ e.judged.markerOffset = e.markerOffset ∧ e.judged.warm = e.warm
    ∧ e.judged.seeds = e.seeds := by
  unfold LinkEngine.judged
  split <;> exact ⟨rfl, rfl, rfl, rfl, rfl, rfl⟩

theorem State.locked_skewDue : (s.locked j n offset).skewDue j = true ↔ (s.link j).engine.recovery = .aligning
    ∧ (s.link j).engine.skewAccepted = false
    ∧ ∀ m ∈ s.moduleLanes j, ((s.link j).engine.markerLock.set n true).get m = true := by
  obtain ⟨recovery, accepted, lock, -, -⟩ := ((s.link j).engine.marked n offset).judged_same
  unfold State.skewDue State.allMarkers
  rw [State.locked_link, recovery, accepted, lock]
  simp only [Bool.and_eq_true, decide_eq_true_eq, Bool.not_eq_true', List.all_eq_true, and_assoc]
  rfl

/-- The skew that the lanes of a link hold. -/
def State.skewAt (s : State) (j : LinkId) : Nat := skewOf ((s.moduleLanes j).map (s.link j).engine.markerOffset.get)

theorem State.measureSkew_eq : s.measureSkew j
    = match judgeSkew (s.linkSet j).maxSkew (s.link j).engine.warm
        (((s.link j).engine.seeds.map SeedsInUse.skew).getD 0) (s.skewAt j) with
      | some cause => (s.updEngine j fun e => { e with measuredSkew := some (s.skewAt j) }).attemptFailed j cause
      | none => (s.updEngine j fun e => { e with measuredSkew := some (s.skewAt j), skewAccepted := true }) := by
  unfold State.measureSkew State.skewAt
  dsimp only
  cases judgeSkew (s.linkSet j).maxSkew (s.link j).engine.warm (((s.link j).engine.seeds.map SeedsInUse.skew).getD 0)
    (skewOf ((s.moduleLanes j).map (s.link j).engine.markerOffset.get)) with
  | some cause => rfl
  | none => exact State.updEngine_updEngine ..

theorem judgeSkew_skew {limit remembered measured : Nat} {warm : Bool} (wide : limit < measured) :
    judgeSkew limit warm remembered measured = some .skew := if_pos wide

theorem judgeSkew_shift {limit remembered measured : Nat} {warm : Bool} (within : measured ≤ limit)
    (shifted : warm = true ∧ (remembered + 4 < measured ∨ measured + 4 < remembered)) :
    judgeSkew limit warm remembered measured = some .skewShift :=
  (if_neg (Nat.not_lt_of_le within)).trans (if_pos (by simpa using shifted))

theorem judgeSkew_none {limit remembered measured : Nat} {warm : Bool} (within : measured ≤ limit)
    (steady : ¬ (warm = true ∧ (remembered + 4 < measured ∨ measured + 4 < remembered))) :
    judgeSkew limit warm remembered measured = none :=
  (if_neg (Nat.not_lt_of_le within)).trans (if_neg (by simpa only [Bool.and_eq_true, Bool.or_eq_true, decide_eq_true_eq] using steady))

end

/-- An attempt fails as the engine of link `j` has just been changed to `e`, which counts the same retries. -/
theorem attemptFailed_changed (j : LinkId) (cause : FailureCause) (s : State) {e : LinkEngine}
    (warm : e.warm = (s.link j).engine.warm) (retries : e.retryCount = (s.link j).engine.retryCount) :
    let b := { s with links := s.links.set j { s.link j with engine := e } }
    let u := b.attemptFailed j cause
    AttemptEnded cause j b u ∧ u = { s with links := u.links, raised := s.raised ++ s.attemptEvents j }
      ∧ u.link j = { s.link j with engine := (u.link j).engine } ∧ ∀ i, i ≠ j → u.link i = s.link i := by
  intro b u
  have link : b.link j = { s.link j with engine := e } := Bank.get_set_self ..
  have events : b.attemptEvents j = s.attemptEvents j := by
    unfold State.attemptEvents
    rw [link, warm, retries]
    rfl
  have shape := State.attemptFailed_shape j cause b
  have rest := State.attemptFailed_rest (s := b) (j := j) cause
  rw [events] at shape
  rw [link] at rest
  exact ⟨attemptEnded_attemptFailed .., shape, rest, fun i other =>
    (State.attemptFailed_others cause other).trans (Bank.get_set_ne _ _ _ _ other.symm)⟩

/-- Settles O37. -/
theorem markerLockMeasuresSkew : Obligations.MarkerLockMeasuresSkew := by
  refine ⟨fun offsets a most b least bound => skewOf_eq most least bound, ?_⟩
  intro j n offset s l e p counts locked offsets whole due skew remembered shifted timer stops runs taken failed
  have engine : (e.marked n offset).judged = taken := LinkEngine.judged_eq stops runs
  have form : s.locked j n offset = { s with links := s.links.set j { l with engine := taken } } := by
    rw [← engine]
    rfl
  have link : (s.locked j n offset).link j = { l with engine := taken } := State.locked_link.trans (by rw [← engine])
  have measured : (s.locked j n offset).skewAt j = skew := by
    unfold State.skewAt
    rw [link]
    rfl
  have again (f : LinkEngine → LinkEngine) : (s.locked j n offset).updEngine j f
      = { s with links := s.links.set j { l with engine := f taken } } := by
    refine (State.updEngine_updEngine ..).trans ?_
    rw [State.updEngine_eq]
    show ({ s with links := s.links.set j { l with engine := f (e.marked n offset).judged } } : State) = _
    rw [engine]
  have done : exec (.markerLock j n offset) s = .next (s.lockMarker j n offset).settle := rfl
  have judges (counted : counts) (isDue : due) : s.lockMarker j n offset = match judgeSkew p.maxSkew e.warm remembered skew with
      | some cause => ({ s with links := s.links.set j { l with engine := { taken with
          measuredSkew := some skew } } } : State).attemptFailed j cause
      | none => { s with links := s.links.set j { l with engine := { taken with
          measuredSkew := some skew, skewAccepted := true } } } := by
    obtain ⟨watches, lane, open_⟩ := counted
    rw [State.lockMarker_counts watches lane open_, if_pos (State.locked_skewDue.mpr isDue), State.measureSkew_eq, measured,
      again, again, link]
    rfl
  have fails (cause : FailureCause) (counted : counts) (isDue : due)
      (judged : judgeSkew p.maxSkew e.warm remembered skew = some cause) : ∃ u : State, failed cause u := by
    have result := judges counted isDue
    rw [judged] at result
    exact ⟨_, done.trans (congrArg (fun t => Host.Outcome.next (State.settle t)) result),
      attemptFailed_changed j cause s rfl rfl⟩
  rw [done]
  refine ⟨fun void => ?_, fun counted early => ?_, fun counted isDue wide => ?_, fun counted isDue within shift => ?_,
    fun counted isDue within steady => ?_⟩
  · rw [State.lockMarker_ignored void]
  · obtain ⟨watches, lane, open_⟩ := counted
    rw [State.lockMarker_counts watches lane open_, if_neg fun h => early (State.locked_skewDue.mp h), form]
  · exact fails .skew counted isDue (judgeSkew_skew wide)
  · exact fails .skewShift counted isDue (judgeSkew_shift within shift)
  · rw [judges counted isDue, judgeSkew_none within steady]

end Sys2Proof.Machine
end

section
/-! PROOFS. FEC lock (R84, R88, R92, R99). -/

set_option Elab.async false

namespace Sys2Proof.Machine

section
variable {j : LinkId} {s : State}

theorem State.allMarkers_iff : s.allMarkers j = true ↔ ∀ n ∈ s.moduleLanes j, (s.link j).engine.markerLock.get n = true :=
  List.all_eq_true

theorem State.lockFec_unmarked (unmarked : ¬ ∀ n ∈ s.moduleLanes j, (s.link j).engine.markerLock.get n = true) :
    s.lockFec j = s := by
  unfold State.lockFec
  exact if_pos (by rw [Bool.eq_false_iff.mpr fun all => unmarked (State.allMarkers_iff.mp all)]; rfl)

theorem State.lockFec_marked (markers : ∀ n ∈ s.moduleLanes j, (s.link j).engine.markerLock.get n = true) : s.lockFec j
    = if (s.link j).engine.recovery = .aligning then if (s.link j).engine.skewAccepted then s.enterQualifying j else s
      else if (s.link j).engine.recovery.watchesLock && (s.link j).engine.fecReached then
        s.updEngine j fun e => ({ e with fecLock := true } : LinkEngine).judged
      else s := by
  have form : (s.updEngine j fun e => { e with fecLock := true }).judgeWhole j
      = s.updEngine j fun e => ({ e with fecLock := true } : LinkEngine).judged := State.updEngine_updEngine ..
  unfold State.lockFec
  rw [← form]
  exact if_neg (by simp [State.allMarkers_iff.mpr markers])

/-- The entry to QUALIFYING (R84, R92, R99). -/
theorem State.enterQualifying_eq (j : LinkId) (s : State) : s.enterQualifying j = { s with
    links := s.links.set j { s.link j with
      engine := { (s.link j).engine with
        recovery := .qualifying, alignmentTimer := none, fecLock := true, fecReached := true, codewords := 0
        corrected := 0, uncorrectable := 0, windowTimer := some (s.inMs (s.linkSet j).windowLength)
        probeTimer := some (s.inMs probeInterval) }
      probeSent := some (s.probeFor j) } } := State.sendProbe_updEngine j s rfl

end

/-- Settles O38. -/
theorem fecLockStartsQualification : Obligations.FecLockStartsQualification := by
  intro j s l e markers regained whole
  have done : exec (.fecLock j) s = .next (s.lockFec j).settle := rfl
  rw [done]
  refine ⟨fun unmarked => ?_, fun aligning early => ?_, fun later void => ?_, fun marked aligning accepted => ?_,
    fun marked again isWhole => ?_, fun marked again torn => ?_⟩
  · rw [State.lockFec_unmarked unmarked]
  · by_cases marked : markers
    · rw [State.lockFec_marked marked, if_pos aligning, if_neg (Bool.eq_false_iff.mp early)]
    · rw [State.lockFec_unmarked marked]
  · by_cases marked : markers
    · rw [State.lockFec_marked marked, if_neg later, if_neg]
      intro both
      exact void ⟨later, Bool.and_eq_true_iff.mp both⟩
    · rw [State.lockFec_unmarked marked]
  · rw [State.lockFec_marked marked, if_pos aligning, if_pos accepted, State.enterQualifying_eq]
    rfl
  · obtain ⟨later, watches, reached⟩ := again
    have judged : ({ e with fecLock := true } : LinkEngine).judged = { e with fecLock := true, lockLossTimer := none } :=
      LinkEngine.judged_eq (fun _ => rfl) fun torn => absurd ⟨isWhole, fun _ => rfl⟩ torn
    rw [State.lockFec_marked marked, if_neg later, if_pos (Bool.and_eq_true_iff.mpr ⟨watches, reached⟩), State.updEngine_eq]
    exact congrArg (fun x : LinkEngine => Host.Outcome.next (State.settle { s with links := s.links.set j { l with engine := x } }))
      judged
  · obtain ⟨later, watches, reached⟩ := again
    have judged : ({ e with fecLock := true } : LinkEngine).judged = { e with fecLock := true } :=
      LinkEngine.judged_eq (timer := e.lockLossTimer) (fun h => absurd h.1 torn) fun _ => rfl
    rw [State.lockFec_marked marked, if_neg later, if_pos (Bool.and_eq_true_iff.mpr ⟨watches, reached⟩), State.updEngine_eq]
    exact congrArg (fun x : LinkEngine => Host.Outcome.next (State.settle { s with links := s.links.set j { l with engine := x } }))
      judged

end Sys2Proof.Machine
end

section
/-! PROOFS. Frames for the management address (R158 to R161), and the frames between a module and the switch (R100, R113,
R144). -/

set_option Elab.async false

namespace Sys2Proof.Machine

/-! ### A request reaches the engine (R160, R161) -/

section
variable {s : State} {r : Request}

theorem State.sendReply_withEngine (m : ManagementEngine) (o : RequestOutcome) (fields : List Nat) (data : List Byte) :
    (s.withEngine m).sendReply r o fields data = (s.sendReply r o fields data).withEngine m := by
  unfold State.sendReply
  cases r.port <;> rfl

theorem State.arrive_full (full : 8 ≤ s.management.queue.length) : s.arrive r = s.sendReply r .busy [] [] := if_pos full

theorem State.arrive_open (room : s.management.queue.length < 8) :
    s.arrive r = (s.updManagement fun m => { m with queue := m.queue ++ [r] }).takeNext := if_neg (Nat.not_le_of_lt room)

theorem State.arrive_waits {e : Execution} (busy : s.management.executing = some e) (room : s.management.queue.length < 8) :
    s.arrive r = { s with management := { s.management with queue := s.management.queue ++ [r] } } := by
  rw [State.arrive_open room]
  exact if_pos (Option.isSome_of_eq_some busy)

/-- An idle engine takes the request that reaches it. -/
theorem State.arrive_idle (idle : s.engineIdle) :
    s.arrive r = State.takeFrom [r] { s with management := { s.management with queue := [r] } } := by
  obtain ⟨free, empty⟩ := idle
  rw [State.arrive_open (by rw [empty]; decide)]
  refine (if_neg ?_).trans ?_
  · show ¬ s.management.executing.isSome = true
    rw [free]
    decide
  · show State.takeFrom (s.management.queue ++ [r])
      { s with management := { s.management with queue := s.management.queue ++ [r] } } = _
    rw [empty]
    rfl

theorem State.arrive_taken {i : Instr} (idle : s.engineIdle) (reads : decodeRequest r = .ok i) :
    s.arrive r = { s with management := { s.management with executing := some ⟨r, false⟩ } } := by
  rw [State.arrive_idle idle, State.takeFrom, reads]
  show ({ s with management := { s.management with executing := some ⟨r, false⟩, queue := [] } } : State) = _
  rw [← idle.2]

theorem State.arrive_refused {o : RequestOutcome} (idle : s.engineIdle) (fails : decodeRequest r = .error o) :
    s.arrive r = s.sendReply r o [] [] := by
  rw [State.arrive_idle idle, State.takeFrom, fails]
  have sent := State.sendReply_withEngine (s := s) (r := r) { s.management with queue := [r] } o [] []
  have kept := State.sendReply_management r o [] [] s
  have queue : ({ s.management with queue := [] } : ManagementEngine) = s.management :=
    congrArg (fun l => { s.management with queue := l }) idle.2.symm
  show State.updManagement (fun m => { m with queue := [] }) ((s.withEngine { s.management with queue := [r] }).sendReply r o [] []) = _
  rw [sent]
  show (s.sendReply r o [] []).withEngine { s.management with queue := [] } = _
  rw [queue, ← kept]
  exact State.withEngine_self _

end

section
variable {s : State} {frame : List Byte} {port : Port}

theorem State.managementFrame_foreign (foreign : typeOf frame ≠ s.settings.managementType ∨ kindOf frame ≠ 1) :
    s.managementFrame port frame = s := by
  unfold State.managementFrame
  rcases foreign with type | kind
  · exact if_pos type
  · by_cases type : typeOf frame ≠ s.settings.managementType
    · exact if_pos type
    · exact (if_neg type).trans (if_pos kind)

theorem State.managementFrame_request (type : typeOf frame = s.settings.managementType) (kind : kindOf frame = 1) :
    s.managementFrame port frame = s.arrive (requestIn port frame) :=
  (if_neg (not_not.mpr type)).trans (if_neg (not_not.mpr kind))

theorem exec_servicePortFrame (short : 64 ≤ frame.length) (long : frame.length ≤ 9216) :
    exec (.servicePortFrame frame) s = .next (if destinationOf frame = s.settings.managementAddress
      then s.managementFrame .service frame else s).settle := by
  show execServicePortFrame frame s = _
  unfold execServicePortFrame
  refine (if_neg ?_).trans ?_
  · simp only [Bool.or_eq_true, decide_eq_true_eq, not_or, Nat.not_lt]
    exact ⟨short, long⟩
  · split <;> rfl

theorem exec_frameFromSwitch (j : LinkId) (short : 64 ≤ frame.length) (used : (s.link j).engine.recovery ≠ .inactive) :
    exec (.frameFromSwitch j frame) s = .next (s.classify j frame).settle := by
  show execFrameFromSwitch j frame s = _
  unfold execFrameFromSwitch
  refine (if_neg ?_).trans rfl
  simp only [Bool.or_eq_true, decide_eq_true_eq, not_or, Nat.not_lt]
  exact ⟨short, used⟩

theorem State.classify_oversize {j : LinkId} (long : 9216 < frame.length) :
    s.classify j frame = s.discard .oversize j none (min 65535 frame.length) := if_pos long

theorem State.classify_management {j : LinkId} (long : frame.length ≤ 9216)
    (address : destinationOf frame = s.settings.managementAddress) : s.classify j frame
      = if (s.link j).hold.service.lanesUp then s.managementFrame (.fabric j) frame
        else s.discard .shed j none frame.length :=
  (if_neg (Nat.not_lt_of_le long)).trans (if_pos address)

theorem State.classify_data {j : LinkId} (long : frame.length ≤ 9216)
    (address : destinationOf frame ≠ s.settings.managementAddress) : s.classify j frame = s.dataFrame j frame :=
  (if_neg (Nat.not_lt_of_le long)).trans (if_neg address)

end

/-- Settles O46. -/
theorem managementFramesReachEngine : Obligations.ManagementFramesReachEngine := by
  intro j frame s onLink command r short long lanes
  have arrives (address : destinationOf frame = s.settings.managementAddress) : exec command s
      = .next (s.managementFrame (if onLink then .fabric j else .service) frame).settle := by
    cases onLink with
    | false => exact (exec_servicePortFrame short long).trans (by rw [if_pos address]; rfl)
    | true =>
      obtain ⟨used, up⟩ := lanes rfl
      exact (exec_frameFromSwitch j short used).trans (by rw [State.classify_management long address, if_pos up]; rfl)
  refine ⟨fun other port => ?_, fun address => ?_⟩
  · subst port
    exact (exec_servicePortFrame short long).trans (by rw [if_neg other])
  · rw [arrives address]
    refine ⟨fun foreign => ?_, fun type kind => ?_⟩
    · rw [State.managementFrame_foreign foreign]
    · rw [State.managementFrame_request type kind]
      refine ⟨fun i idle reads => ?_, fun o idle fails => ?_, fun e busy room => ?_, fun full => ?_⟩
      · rw [State.arrive_taken idle reads]
      · rw [State.arrive_refused idle fails]
      · rw [State.arrive_waits busy room]
      · rw [State.arrive_full full]

end Sys2Proof.Machine
end

section
/-! PROOFS. Frames from the module, and the egress toward the switch (R100, R113, R123, R144, R164). -/

set_option Elab.async false

namespace Sys2Proof.Machine

section
variable {s : State} {j : LinkId} {frame : List Byte}

/-- A change of the egress toward the switch alone. -/
def State.withEgress (j : LinkId) (e : FabricEgress) (s : State) : State :=
  { s with links := s.links.set j { s.link j with fabricSide := e } }

theorem State.toFabric_eq (f : FabricEgress → FabricEgress) : s.toFabric j f
    = s.withEgress j ((f (s.link j).fabricSide).begin s.settings (s.link j).hold.service.lanesUp) := rfl

/-! ### Frames from the module (R100, R144) -/

theorem exec_frameFromModule_void (void : frame.length < 64 ∨ (s.link j).engine.recovery.runsWindows = false) :
    exec (.frameFromModule j frame) s = .next s.settle := by
  show execFrameFromModule j frame s = _
  unfold execFrameFromModule
  refine (if_pos ?_).trans rfl
  rw [Bool.or_eq_true, decide_eq_true_eq, Bool.not_eq_true']
  exact void

theorem exec_frameFromModule (short : 64 ≤ frame.length) (hears : (s.link j).engine.recovery.runsWindows = true) :
    exec (.frameFromModule j frame) s = .next (s.moduleFrame j frame).settle := by
  show execFrameFromModule j frame s = _
  unfold execFrameFromModule
  refine (if_neg ?_).trans rfl
  rw [Bool.or_eq_true, decide_eq_true_eq, Bool.not_eq_true', hears]
  exact not_or.mpr ⟨Nat.not_lt_of_le short, nofun⟩

theorem isProbe_iff (g : Settings) : isProbe g frame = true ↔ typeOf frame = g.managementType ∧ kindOf frame = 5 := by
  rw [isProbe, Bool.and_eq_true, decide_eq_true_eq, decide_eq_true_eq]
  rfl

theorem headerOffset_eq : headerOffset frame = if isTagged frame then 18 else 14 := by
  unfold headerOffset typeOffset
  split <;> rfl

theorem State.moduleFrame_oversize (long : 9216 < frame.length) :
    s.moduleFrame j frame = s.discard .oversize j none (min 65535 frame.length) := if_pos long

theorem State.moduleFrame_probe (long : frame.length ≤ 9216) (probe : isProbe s.settings frame = true) :
    s.moduleFrame j frame = s.hearProbe j frame := (if_neg (Nat.not_lt_of_le long)).trans (if_pos probe)

theorem State.moduleFrame_data (long : frame.length ≤ 9216) (data : ¬ isProbe s.settings frame = true) :
    s.moduleFrame j frame = match (s.link j).hold.service with
      | .pass | .replay => s.forwardFrame j frame
      | .hold | .shed | .off => s.discard .notAdmitted j none frame.length :=
  (if_neg (Nat.not_lt_of_le long)).trans ((if_neg data).trans (by cases (s.link j).hold.service <;> rfl))

/-- A ten-byte probe body's length field, as a number. -/
theorem probeLength_iff (x : BitVec 16) : x.toNat = probeLength ↔ x = 10 := by
  rw [← BitVec.toNat_inj]
  rfl

theorem heardIn_none (torn : ¬ (byteAt frame (headerOffset frame) = 1 ∧ field16 frame (headerOffset frame + 6) = 10
    ∧ (byteAt frame (headerOffset frame + 14)).toNat < 16 ∧ (byteAt frame (headerOffset frame + 15)).toNat < 4)) :
    heardIn frame = none := by
  refine if_neg ?_
  simpa only [Bool.and_eq_true, decide_eq_true_eq, beq_iff_eq, and_assoc, probeLength_iff] using torn

theorem heardIn_some {c : CageId} {k : SlotId} (whole : byteAt frame (headerOffset frame) = 1
      ∧ field16 frame (headerOffset frame + 6) = 10
      ∧ (byteAt frame (headerOffset frame + 14)).toNat < 16 ∧ (byteAt frame (headerOffset frame + 15)).toNat < 4)
    (cage : c.val = (byteAt frame (headerOffset frame + 14)).toNat)
    (slot : k.val = (byteAt frame (headerOffset frame + 15)).toNat) :
    heardIn frame = some ⟨⟨field48 frame (headerOffset frame + 8), c, k⟩, field16 frame (headerOffset frame + 16)⟩ := by
  have ofCage := indexOf_val (by decide) c cage
  have ofSlot := indexOf_val (by decide) k slot
  refine (if_pos ?_).trans ?_
  · simpa only [Bool.and_eq_true, decide_eq_true_eq, beq_iff_eq, and_assoc, probeLength_iff] using whole
  · rw [ofCage, ofSlot]

/-! ### The egress (R113) -/

theorem exec_fabricEgressFree (sends : (s.link j).fabricSide.sending ≠ none) : exec (.fabricEgressFree j) s = .next
    (s.withEgress j (FabricEgress.begin s.settings (s.link j).hold.service.lanesUp
      { (s.link j).fabricSide with sending := none })).settle := by
  show execFabricEgressFree j s = _
  unfold execFabricEgressFree
  exact (if_pos (Option.isSome_iff_ne_none.mpr sends)).trans rfl

theorem exec_fabricEgressFree_void (free : (s.link j).fabricSide.sending = none) :
    exec (.fabricEgressFree j) s = .next s.settle := by
  show execFabricEgressFree j s = _
  unfold execFabricEgressFree
  exact (if_neg (by rw [free]; decide)).trans rfl

variable {g : Settings} {up : Bool} {e : FabricEgress}

theorem FabricEgress.begin_urgent {f : FabricFrame} {rest : List FabricFrame} (urgent : e.urgent = f :: rest) :
    FabricEgress.begin g up { e with sending := none } = { e with sending := some (f.sentUnder g), urgent := rest } := by
  unfold FabricEgress.begin
  dsimp only
  rw [urgent]

theorem FabricEgress.begin_down (urgent : e.urgent = []) :
    FabricEgress.begin g false { e with sending := none } = ⟨none, [], [], []⟩ := by
  unfold FabricEgress.begin
  dsimp only
  rw [urgent]

theorem FabricEgress.begin_reply_first {m : ManagementFrame} {rest : List ManagementFrame} (urgent : e.urgent = [])
    (replies : e.replies = m :: rest) : FabricEgress.begin g true { e with sending := none }
      = { e with sending := some (.reply (m.sentUnder g)), replies := rest } := by
  unfold FabricEgress.begin
  dsimp only
  rw [urgent, replies]

theorem FabricEgress.begin_forward {f : List Byte} {rest : List (List Byte)} (urgent : e.urgent = []) (replies : e.replies = [])
    (forwards : e.forwards = f :: rest) : FabricEgress.begin g true { e with sending := none }
      = { e with sending := some (.forwarded f), forwards := rest } := by
  unfold FabricEgress.begin
  dsimp only
  rw [urgent, replies, forwards]

theorem FabricEgress.begin_nothing (urgent : e.urgent = []) (replies : e.replies = []) (forwards : e.forwards = []) :
    FabricEgress.begin g true { e with sending := none } = ⟨none, [], [], []⟩ := by
  unfold FabricEgress.begin
  dsimp only
  rw [urgent, replies, forwards]

theorem FabricEgress.begin_busy (sends : e.sending ≠ none) : FabricEgress.begin g up e = e := by
  obtain ⟨f, sending⟩ := Option.ne_none_iff_exists'.mp sends
  unfold FabricEgress.begin
  rw [sending]

theorem ServiceState.others (v : ServiceState) : v ≠ .pass → v ≠ .replay → v = .hold ∨ v = .shed ∨ v = .off := by
  cases v <;> decide

theorem lanesUp_of_pass_or_replay {v : ServiceState} (serves : v = .pass ∨ v = .replay) : v.lanesUp = true := by
  rcases serves with rfl | rfl <;> rfl

end

/-- Settles O50. -/
theorem moduleFramesAndFabricEgress : Obligations.ModuleFramesAndFabricEgress := by
  intro j frame s l command header probe cage slot wellFormed sent e
  have isProbe' : isProbe s.settings frame = true ↔ probe := isProbe_iff s.settings
  have offset : headerOffset frame = header := headerOffset_eq
  refine ⟨exec_frameFromModule_void, fun short hears => ?_, exec_fabricEgressFree_void, fun sends => ?_⟩
  · rw [exec_frameFromModule short hears]
    refine ⟨fun long => ?_, fun long isp torn => ?_, fun c k long isp whole ofCage ofSlot => ?_, fun long data pass replay => ?_,
      fun long data serves => ?_⟩
    · rw [State.moduleFrame_oversize long]
    · rw [State.moduleFrame_probe long (isProbe'.mpr isp), State.hearProbe, heardIn_none (by rw [offset]; exact torn)]
    · rw [State.moduleFrame_probe long (isProbe'.mpr isp), State.hearProbe,
        heardIn_some (c := c) (k := k) (by rw [offset]; exact whole) (by rw [offset]; exact ofCage) (by rw [offset]; exact ofSlot),
        offset]
      rfl
    · rw [State.moduleFrame_data long fun isp => data (isProbe'.mp isp)]
      rcases ServiceState.others l.hold.service pass replay with v | v | v <;> rw [show (s.link j).hold.service = _ from v]
    · have forwards : s.moduleFrame j frame = s.forwardFrame j frame := by
        rw [State.moduleFrame_data long fun isp => data (isProbe'.mp isp)]
        rcases serves with v | v <;> rw [show (s.link j).hold.service = _ from v]
      have up : (s.link j).hold.service.lanesUp = true := lanesUp_of_pass_or_replay serves
      rw [forwards, State.forwardFrame, State.toFabric_eq, up]
      refine ⟨fun empty => ?_, fun sends => ?_⟩
      · rw [show (s.link j).fabricSide = ⟨none, [], [], []⟩ from empty]
        rfl
      · rw [FabricEgress.begin_busy (e := { (s.link j).fabricSide with forwards := (s.link j).fabricSide.forwards ++ [frame] }) sends]
        rfl
  · rw [exec_fabricEgressFree sends]
    refine ⟨fun p rest urgent => ?_, fun m rest urgent => ?_, fun b rest urgent => ?_, fun urgent off => ?_,
      fun urgent noShed noOff => ?_⟩
    · rw [FabricEgress.begin_urgent urgent]
      rfl
    · rw [FabricEgress.begin_urgent urgent]
      rfl
    · rw [FabricEgress.begin_urgent urgent]
      rfl
    · rw [(lanesUp_eq_false_iff _).mpr off, FabricEgress.begin_down urgent]
      rfl
    · have up : (s.link j).hold.service.lanesUp = true := by
        rw [← Bool.not_eq_false, lanesUp_eq_false_iff]
        exact not_or.mpr ⟨noShed, noOff⟩
      rw [up]
      refine ⟨fun m rest replies => ?_, fun f rest replies forwards => ?_, fun replies forwards => ?_⟩
      · rw [FabricEgress.begin_reply_first urgent replies]
        rfl
      · rw [FabricEgress.begin_forward urgent replies forwards]
        rfl
      · rw [FabricEgress.begin_nothing urgent replies forwards]
        rfl

end Sys2Proof.Machine
end

section
/-! PROOFS. Recovery memory: the lookup's moves and what FORGET removes (R58 to R66, R72). -/

set_option Elab.async false

namespace Sys2Proof.Machine

theorem freshRecord_spec (n : Nat) (c : CageId) (key digest : BitVec 32) :
    (freshRecord n c key digest).key = key ∧ (freshRecord n c key digest).digest = digest
    ∧ (freshRecord n c key digest).home = c ∧ (freshRecord n c key digest).valid = false
    ∧ (freshRecord n c key digest).seeded = Bank.fill 4 false
    ∧ (freshRecord n c key digest).seeds = Bank.fill 8 (Bank.fill 5 0)
    ∧ (freshRecord n c key digest).skews = Bank.fill 4 0
    ∧ ∀ a b, (freshRecord n c key digest).laneMap.get a = (freshRecord n c key digest).laneMap.get b → a = b := by
  refine ⟨rfl, rfl, rfl, rfl, rfl, rfl, rfl, fun a b same => ?_⟩
  simp only [freshRecord, Bank.get_tabulate] at same
  exact (Config.freshLaneMap n).injective same

section
variable (m : RecoveryMemory) (c : CageId)

/-! ### What a position holds is displaced (R60, R64) -/

/-- The cache after the record that position `c` holds, where it is valid, has joined its head. -/
def RecoveryMemory.cacheAfter (here : Option CageRecord) (cache : List CageRecord) : List CageRecord :=
  match here with
  | some x => if x.valid then x :: (cache.filter fun r => decide (r.digest ≠ x.digest)).take 15 else cache
  | none => cache

theorem RecoveryMemory.displace_eq : m.displace c = { m with
    positions := m.positions.set c none, cache := RecoveryMemory.cacheAfter (m.positions.get c) m.cache } := by
  unfold RecoveryMemory.displace RecoveryMemory.cacheAfter
  cases here : m.positions.get c with
  | none =>
    have same : m.positions.set c none = m.positions := Bank.set_get_self _ _ _ here
    rw [same]
  | some x =>
    dsimp only
    split <;> rfl

theorem RecoveryMemory.place_eq (r : CageRecord) : m.place c r = { m with
    positions := m.positions.set c (some { r with home := c })
    cache := RecoveryMemory.cacheAfter (m.positions.get c) m.cache, held := m.held.set c true } := by
  unfold RecoveryMemory.place
  rw [RecoveryMemory.displace_eq]
  exact congrArg (fun b => { m with
    positions := b, cache := RecoveryMemory.cacheAfter (m.positions.get c) m.cache, held := m.held.set c true }) (Bank.set_set ..)

/-! ### Where a digest is found (R62) -/

variable {m c} {x : BitVec 32} {r : CageRecord}

theorem RecoveryMemory.find_own_of (here : m.positions.get c = some r) (digest : r.digest = x) : m.find c x = .own r := by
  unfold RecoveryMemory.find
  rw [here, Option.filter_some, if_pos (decide_eq_true digest)]

/-- Where a digest that the cage's own position does not hold is found. -/
def RecoveryMemory.findBeyond (m : RecoveryMemory) (c : CageId) (x : BitVec 32) : Found :=
  match m.cache.find? (·.digest = x) with
  | some r => .cached r
  | none =>
    match allCages.findSome? fun d =>
        if d = c then none else ((m.positions.get d).filter (·.digest = x)).map fun r => (d, r) with
    | some (d, r) => .other d r
    | none => .nowhere

theorem RecoveryMemory.find_beyond (other : ∀ r, m.positions.get c = some r → r.digest ≠ x) : m.find c x = m.findBeyond c x := by
  have empty : (m.positions.get c).filter (·.digest = x) = none := by
    rw [Option.filter_eq_none_iff]
    intro r here
    simpa using other r here
  unfold RecoveryMemory.find
  rw [empty]
  rfl

theorem RecoveryMemory.find_cached_of (other : ∀ r, m.positions.get c = some r → r.digest ≠ x)
    (cached : m.cache.find? (·.digest = x) = some r) : m.find c x = .cached r := by
  rw [RecoveryMemory.find_beyond other, RecoveryMemory.findBeyond, cached]

theorem RecoveryMemory.find_other_of {d : CageId} (other : ∀ r, m.positions.get c = some r → r.digest ≠ x)
    (uncached : m.cache.find? (·.digest = x) = none) (there : m.positions.get d = some r) (digest : r.digest = x) (ne : d ≠ c)
    (only : ∀ i, (i ≠ c ∧ ∃ r, m.positions.get i = some r ∧ r.digest = x) → i = d) : m.find c x = .other d r := by
  have found : (allCages.findSome? fun i =>
      if i = c then none else ((m.positions.get i).filter (·.digest = x)).map fun r => (i, r)) = some (d, r) := by
    cases first : allCages.findSome? fun i =>
        if i = c then none else ((m.positions.get i).filter (·.digest = x)).map fun r => (i, r) with
    | none =>
      have no := List.findSome?_eq_none_iff.mp first d (mem_allCages d)
      rw [if_neg ne, there, Option.filter_some, if_pos (decide_eq_true digest)] at no
      cases no
    | some y =>
      obtain ⟨i, -, here⟩ := List.exists_of_findSome?_eq_some first
      by_cases own : i = c
      · rw [if_pos own] at here
        cases here
      · rw [if_neg own] at here
        obtain ⟨q, held, rfl⟩ := Option.map_eq_some_iff.mp here
        obtain ⟨position, matches_⟩ := Option.filter_eq_some_iff.mp held
        obtain rfl := only i ⟨own, q, position, by simpa using matches_⟩
        rw [there] at position
        cases position
        rfl
  rw [RecoveryMemory.find_beyond other, RecoveryMemory.findBeyond, uncached]
  dsimp only
  rw [found]

theorem RecoveryMemory.find_nowhere_of (other : ∀ r, m.positions.get c = some r → r.digest ≠ x)
    (uncached : m.cache.find? (·.digest = x) = none)
    (nobody : ∀ i, ¬ (i ≠ c ∧ ∃ r, m.positions.get i = some r ∧ r.digest = x)) : m.find c x = .nowhere := by
  have empty : (allCages.findSome? fun i =>
      if i = c then none else ((m.positions.get i).filter (·.digest = x)).map fun r => (i, r)) = none := by
    rw [List.findSome?_eq_none_iff]
    intro i _
    by_cases own : i = c
    · exact if_pos own
    · rw [if_neg own, Option.map_eq_none_iff, Option.filter_eq_none_iff]
      intro r position
      simpa using fun digest => nobody i ⟨own, r, position, digest⟩
  rw [RecoveryMemory.find_beyond other, RecoveryMemory.findBeyond, uncached]
  dsimp only
  rw [empty]

/-! ### The lookup's moves (R62 to R66) -/

variable {fresh : CageRecord}

theorem RecoveryMemory.lookup_own (here : m.positions.get c = some r) (digest : r.digest = fresh.digest) :
    m.lookup c fresh = { m with
      positions := if r.key = fresh.key then m.positions else m.positions.set c (some { fresh with home := c })
      held := m.held.set c true } := by
  unfold RecoveryMemory.lookup
  rw [RecoveryMemory.find_own_of here digest]
  dsimp only
  split
  · rfl
  · rw [RecoveryMemory.place_eq]
    have empty : (m.setPosition c none).positions.get c = none := Bank.get_set_self ..
    rw [empty]
    exact congrArg (fun b => { m with positions := b, held := m.held.set c true }) (Bank.set_set ..)

variable (other : ∀ r, m.positions.get c = some r → r.digest ≠ fresh.digest)
include other

theorem RecoveryMemory.lookup_cached (cached : m.cache.find? (·.digest = fresh.digest) = some r) :
    m.lookup c fresh = { m with
      positions := m.positions.set c (some { (if r.key = fresh.key then r else fresh) with home := c })
      cache := RecoveryMemory.cacheAfter (m.positions.get c) (m.cache.filter fun r => decide (r.digest ≠ fresh.digest))
      held := m.held.set c true } := by
  unfold RecoveryMemory.lookup
  rw [RecoveryMemory.find_cached_of other cached]
  exact RecoveryMemory.place_eq ..

theorem RecoveryMemory.lookup_nowhere (uncached : m.cache.find? (·.digest = fresh.digest) = none)
    (nobody : ∀ i, ¬ (i ≠ c ∧ ∃ r, m.positions.get i = some r ∧ r.digest = fresh.digest)) :
    m.lookup c fresh = { m with
      positions := m.positions.set c (some { fresh with home := c })
      cache := RecoveryMemory.cacheAfter (m.positions.get c) m.cache, held := m.held.set c true } := by
  unfold RecoveryMemory.lookup
  rw [RecoveryMemory.find_nowhere_of other uncached nobody]
  exact RecoveryMemory.place_eq ..

variable {d : CageId} (uncached : m.cache.find? (·.digest = fresh.digest) = none)
  (there : m.positions.get d = some r) (digest : r.digest = fresh.digest) (ne : d ≠ c)
  (only : ∀ i, (i ≠ c ∧ ∃ r, m.positions.get i = some r ∧ r.digest = fresh.digest) → i = d)
include uncached there digest ne only

theorem RecoveryMemory.lookup_held (held : m.held.get d = true) : m.lookup c fresh = { m with
    positions := m.positions.set c none
    cache := RecoveryMemory.cacheAfter (m.positions.get c) m.cache, held := m.held.set c false } := by
  unfold RecoveryMemory.lookup
  rw [RecoveryMemory.find_other_of other uncached there digest ne only]
  dsimp only
  rw [if_pos held, RecoveryMemory.displace_eq]
  exact congrArg (fun b => { m with
    positions := b, cache := RecoveryMemory.cacheAfter (m.positions.get c) m.cache, held := m.held.set c false }) (Bank.set_set ..)

theorem RecoveryMemory.lookup_left (left : m.held.get d = false) : m.lookup c fresh = { m with
    positions := (m.positions.set d none).set c (some { (if r.key = fresh.key then r else fresh) with home := c })
    cache := RecoveryMemory.cacheAfter (m.positions.get c) m.cache, held := m.held.set c true } := by
  unfold RecoveryMemory.lookup
  rw [RecoveryMemory.find_other_of other uncached there digest ne only]
  dsimp only
  rw [if_neg (Bool.eq_false_iff.mp left), RecoveryMemory.place_eq]
  have same : (m.setPosition d none).positions.get c = m.positions.get c := Bank.get_set_ne _ _ _ _ ne
  rw [same]
  rfl

end

/-! ### FORGET (R72) -/

theorem holdsDigest_iff (x : BitVec 32) (p : Option CageRecord) :
    holdsDigest x p = true ↔ p.map CageRecord.digest = some x := by
  cases p <;> simp [holdsDigest]

/-- What is removed from a position that is in the list, where its record is of the digest. -/
theorem forgetPositions_eq (x : BitVec 32) (l : List CageId) (m : RecoveryMemory) :
    let n := l.foldl (fun m c => if holdsDigest x (m.positions.get c) then m.forgetPosition c else m) m
    n.cache = m.cache ∧ n.peers = m.peers
    ∧ (∀ c, (m.positions.get c).map CageRecord.digest ≠ some x →
        n.positions.get c = m.positions.get c ∧ n.held.get c = m.held.get c)
    ∧ ∀ c, c ∈ l ∨ (m.positions.get c = none ∧ m.held.get c = false) → (m.positions.get c).map CageRecord.digest = some x
        ∨ (m.positions.get c = none ∧ m.held.get c = false) → n.positions.get c = none ∧ n.held.get c = false := by
  induction l generalizing m with
  | nil =>
    refine ⟨rfl, rfl, fun _ _ => ⟨rfl, rfl⟩, fun c gone _ => ?_⟩
    exact gone.resolve_left List.not_mem_nil
  | cons d rest ih =>
    intro n
    by_cases holds : holdsDigest x (m.positions.get d) = true
    · have form : n = rest.foldl (fun m c => if holdsDigest x (m.positions.get c) then m.forgetPosition c else m)
          (m.forgetPosition d) := congrArg (fun k => rest.foldl _ k) (if_pos holds)
      obtain ⟨cache, peers, kept, gone⟩ := ih (m.forgetPosition d)
      rw [← form] at cache peers kept gone
      have at_ (c : CageId) : ((m.forgetPosition d).positions.get c = if c = d then none else m.positions.get c)
          ∧ ((m.forgetPosition d).held.get c = if c = d then false else m.held.get c) := by
        by_cases here : c = d
        · subst here
          rw [if_pos rfl, if_pos rfl]
          exact ⟨Bank.get_set_self .., Bank.get_set_self ..⟩
        · rw [if_neg here, if_neg here]
          exact ⟨Bank.get_set_ne _ _ _ _ (Ne.symm here), Bank.get_set_ne _ _ _ _ (Ne.symm here)⟩
      refine ⟨cache, peers, fun c other => ?_, fun c listed matched => ?_⟩
      · have ne : c ≠ d := fun e => other (e ▸ (holdsDigest_iff x _).mp holds)
        have here := at_ c
        rw [if_neg ne, if_neg ne] at here
        obtain ⟨position, held⟩ := kept c (by rw [here.1]; exact other)
        exact ⟨position.trans here.1, held.trans here.2⟩
      · by_cases here : c = d
        · have empty := at_ c
          rw [if_pos here, if_pos here] at empty
          exact gone c (.inr empty) (.inr empty)
        · have same := at_ c
          rw [if_neg here, if_neg here] at same
          rw [← same.1, ← same.2] at listed matched
          refine gone c ?_ matched
          exact listed.imp (fun h => (List.mem_cons.mp h).resolve_left here) id
    · have form : n = rest.foldl (fun m c => if holdsDigest x (m.positions.get c) then m.forgetPosition c else m) m :=
        congrArg (fun k => rest.foldl _ k) (if_neg holds)
      obtain ⟨cache, peers, kept, gone⟩ := ih m
      rw [← form] at cache peers kept gone
      refine ⟨cache, peers, kept, fun c listed matched => ?_⟩
      by_cases here : c = d
      · subst here
        have empty := matched.resolve_left fun e => holds ((holdsDigest_iff x _).mpr e)
        exact gone c (.inr empty) (.inr empty)
      · exact gone c (listed.imp (fun h => (List.mem_cons.mp h).resolve_left here) id) matched

/-- FORGET of a digest, wherever it stands (R72). -/
theorem RecoveryMemory.forgetDigest_spec (x : BitVec 32) (m : RecoveryMemory) :
    (m.forgetDigest x).cache = (m.cache.filter fun r => decide (r.digest ≠ x)) ∧ (m.forgetDigest x).peers = m.peers
    ∧ ∀ c, if (m.positions.get c).map CageRecord.digest = some x then
          (m.forgetDigest x).positions.get c = none ∧ (m.forgetDigest x).held.get c = false
        else (m.forgetDigest x).positions.get c = m.positions.get c ∧ (m.forgetDigest x).held.get c = m.held.get c := by
  have listed := mem_allCages
  unfold RecoveryMemory.forgetDigest
  generalize allCages = l at *
  obtain ⟨cache, peers, kept, gone⟩ := forgetPositions_eq x l m
  refine ⟨?_, peers, fun c => ?_⟩
  · rw [← cache]
    rfl
  · split
    case isTrue matched => exact gone c (.inl (listed c)) (.inl matched)
    case isFalse other => exact kept c other

theorem Bank.countP_items {n : Nat} {α : Type} (p : α → Bool) (b : Bank n α) :
    b.items.countP p = ((List.finRange n).filter fun i => p (b.get i)).length := by
  rw [Bank.items_eq, List.countP_map, List.countP_eq_length_filter]
  rfl

theorem RecoveryMemory.countDigest_eq (m : RecoveryMemory) (x : BitVec 32) : m.countDigest x
    = (allCages.filter fun c => ((m.positions.get c).map CageRecord.digest) = some x).length
      + (m.cache.filter fun r => decide (r.digest = x)).length := by
  unfold RecoveryMemory.countDigest
  rw [Bank.countP_items, List.countP_eq_length_filter]
  refine congrArg (fun l : List CageId => l.length + _) (List.filter_congr fun c _ => ?_)
  rw [Bool.eq_iff_iff, holdsDigest_iff, decide_eq_true_eq]

theorem RecoveryMemory.countAll_eq (m : RecoveryMemory) : m.countAll
    = (allCages.filter fun c => (m.positions.get c).isSome).length + m.cache.length
      + (allLinks.filter fun j => (m.peers.get j).isSome).length := by
  unfold RecoveryMemory.countAll
  rw [Bank.countP_items, Bank.countP_items]
  rfl

theorem isSome_toNat {α : Type} (p : Option α) [Decidable (p = none)] : p.isSome.toNat = if p = none then 0 else 1 := by
  cases p <;> simp

section
variable {s : State} {q : Requester} {x : BitVec 32}

/-- A FORGET that is answered with the number it removes. -/
theorem serve_forget {i : Instr} {body : List Byte} {f : State → State} (change : RecoveryMemory → RecoveryMemory) (n : Nat)
    (parts : requestParts i = some (q, 0x50, body)) (idle : s.engineIdle)
    (does : ∀ m, f (s.withEngine m) = (s.withEngine m).forget change n) (wf : i.WellFormed := by rfl) :
    serve i f s = .next ({ s with memory := change s.memory }.answered q 0x50 .done [] [BitVec.ofNat 8 n]) :=
  serve_answered (State.updMemory change) .done [] [byteOf n] parts idle (fun _ _ => rfl) does wf

theorem exec_forgetCage {c : CageId} (idle : s.engineIdle) (here : c.val = x.toNat) : exec (.forgetCage q x) s
    = .next ({ s with memory := s.memory.forgetPosition c }.answered q 0x50 .done [] [BitVec.ofNat 8 (s.memory.inPosition c)]) := by
  have index := indexOf_val (by decide) c here
  show execForgetCage q x s = _
  unfold execForgetCage
  refine serve_forget (RecoveryMemory.forgetPosition c) (s.memory.inPosition c) rfl idle fun m => ?_
  rw [index]
  exact if_neg (by have := c.isLt; omega)

theorem exec_forgetPeer {j : LinkId} (idle : s.engineIdle) (here : j.val = x.toNat) : exec (.forgetPeer q x) s
    = .next ({ s with memory := { s.memory with peers := s.memory.peers.set j none } }.answered q 0x50 .done []
      [BitVec.ofNat 8 (s.memory.peers.get j).isSome.toNat]) := by
  have index := indexOf_val (by decide) j here
  show execForgetPeer q x s = _
  unfold execForgetPeer
  refine serve_forget (fun m => { m with peers := m.peers.set j none }) (s.memory.peers.get j).isSome.toNat rfl idle fun m => ?_
  rw [index]
  exact if_neg (by have := j.isLt; omega)

theorem exec_forgetDigest (idle : s.engineIdle) : exec (.forgetDigest q x) s = .next
    ({ s with memory := s.memory.forgetDigest x }.answered q 0x50 .done [] [BitVec.ofNat 8 (s.memory.countDigest x)]) := by
  show execForgetDigest q x s = _
  unfold execForgetDigest
  exact serve_forget (RecoveryMemory.forgetDigest x) (s.memory.countDigest x) rfl idle fun m => rfl

theorem exec_forgetAll (idle : s.engineIdle) : exec (.forgetAll q) s = .next
    ({ s with memory := RecoveryMemory.empty }.answered q 0x50 .done [] [BitVec.ofNat 8 s.memory.countAll]) := by
  show execForgetAll q s = _
  unfold execForgetAll
  exact serve_forget (fun _ => RecoveryMemory.empty) s.memory.countAll rfl idle fun m => rfl

end

/-- Settles O55. -/
theorem recoveryMemoryMovesRecords : Obligations.RecoveryMemoryMovesRecords := by
  refine ⟨freshRecord_spec, ?_, ?_⟩
  · intro m c fresh here cached elsewhere chosen displacing uncached
    refine ⟨fun r position digest => RecoveryMemory.lookup_own position digest, fun other => ⟨fun r found => ?_,
      fun d r missing there only position => ?_, fun missing nobody => ?_⟩⟩
    · exact RecoveryMemory.lookup_cached other found
    · obtain ⟨ne, q, held, digest⟩ := there
      rw [position] at held
      cases held
      exact ⟨RecoveryMemory.lookup_held other missing position digest ne only,
        RecoveryMemory.lookup_left other missing position digest ne only⟩
    · exact RecoveryMemory.lookup_nowhere other missing nobody
  · intro q x s idle m left
    refine ⟨fun high => ?_, fun c here => ?_, ?_, fun high => ?_, fun j here => ?_, ?_⟩
    · show execForgetCage q x s = _
      unfold execForgetCage
      exact serve_refused .badArgument [] [] rfl idle fun m => if_pos high
    · rw [exec_forgetCage idle here, RecoveryMemory.inPosition, isSome_toNat]
      rfl
    · refine ⟨m.forgetDigest x, ?_, RecoveryMemory.forgetDigest_spec x m⟩
      rw [exec_forgetDigest idle, RecoveryMemory.countDigest_eq]
    · show execForgetPeer q x s = _
      unfold execForgetPeer
      exact serve_refused .badArgument [] [] rfl idle fun m => if_pos high
    · rw [exec_forgetPeer idle here, isSome_toNat]
    · rw [exec_forgetAll idle, RecoveryMemory.countAll_eq]
      rfl

end Sys2Proof.Machine
end

section
/-! PROOFS. Power-on reset (R1 and the reset column of every state table). -/

set_option Elab.async false

namespace Sys2Proof.Machine

theorem resetSettings_eq (straps : BitVec 4) : resetSettings straps = {
    seatingTime := 300, managementReadyTime := 250, identityReadList := [(0, 0), (0, 1), (0, 2), (0, 3)],
    serialLocation := (0, 196), pageSelectLocation := 127, lockLossConfirmTime := 100, lossIncrement := 1000,
    removalIncrement := 0, ceiling := 12000, suppressThreshold := 3000, reuseThreshold := 750, decayFactor := 57344,
    decayTick := 1000, pausable := Bank.fill 4 false, pauseTime := 65535, pauseOnHold := false,
    dscpMapEnable := false, dscpMap := Bank.fill 64 0, defaultPriority := 0,
    classMap := Bank.tabulate fun n => ⟨n.val / 2, by omega⟩, classLimit := 256, criticalLevel := 192,
    resumeLevel := 64, linkLimit := 512, poolLowMark := 512,
    managementAddress := BitVec.ofNat 48 (0x02F0A0000000 + straps.toNat), managementType := 0xA17E,
    noticeGap := 10 } := by
  have address : resetAddress straps = BitVec.ofNat 48 (0x02F0A0000000 + straps.toNat) := by
    revert straps
    decide
  have classes : resetClassMap = Bank.tabulate fun n => ⟨n.val / 2, by omega⟩ := by decide
  unfold resetSettings
  rw [address, classes]

theorem resetCage_eq (now : Moment) (time : Nat) (present alert : Bool) :
    resetCage now time present alert = freshCage now time present alert := rfl

theorem resetLink_eq (j : LinkId) : resetLink j =
    { engine := emptyEngine (if j.val % 4 = 0 then .down else .inactive), penalty := 0, suppressed := false
      hold := ⟨.off, none, .none, Bank.fill 4 none⟩, park := ⟨Bank.fill 4 [], Bank.fill 4 false⟩
      meter := idleMeter, counters := ⟨0, 0, 0, Bank.fill 9 0⟩, discardMark := false
      fabricSide := ⟨none, [], [], []⟩, moduleSide := ⟨none, []⟩, probeSent := none } := rfl

theorem factorySet_bytes : factorySet.bytes =
    [1, 1, 1, 0, 0, 1, 2, 3, 4, 5, 6, 7, 0, 0, 0, 2, 0, 0, 0, 9, 0, 0, 0, 0, 0x07, 0xD0, 0, 20, 0x05, 0xDC, 0, 200,
     0, 100, 32, 3, 0, 100, 3, 2, 0x01, 0x2C, 0x03, 0xE8, 0, 200, 0x0C, 0x35, 0, 10, 0, 1, 0, 0, 0x01, 0xF4] := by
  decide

/-- Settles O32. -/
theorem powerOnResetSetsEveryBlock : Obligations.PowerOnResetSetsEveryBlock := by
  intro present alert straps s
  have cage (c : CageId) : (State.atReset present alert straps).cage c
      = freshCage 0 300 (present.getLsbD c.val) (alert.getLsbD c.val) :=
    (Bank.get_tabulate _ c).trans (resetCage_eq ..)
  have set (n : SetId) : ((State.atReset present alert straps).sets.get n).bytes = factorySet.bytes :=
    congrArg ParameterSet.bytes (Bank.get_fill ..)
  have link (j : LinkId) : (State.atReset present alert straps).link j = resetLink j := Bank.get_tabulate ..
  have channel (h : ChannelId) : (State.atReset present alert straps).channel h = resetChannel := Bank.get_fill ..
  refine ⟨{ State.atReset present alert straps with pending := s.pending, freeCount := s.freeCount }, rfl, rfl, rfl, rfl,
    rfl, rfl, resetSettings_eq straps, cage, rfl, fun n => (set n).trans factorySet_bytes, rfl, rfl, rfl,
    fun j => (link j).trans (resetLink_eq j), rfl, rfl, rfl, rfl, rfl, rfl, rfl, rfl, rfl, channel, rfl⟩

end Sys2Proof.Machine
end

section
/-! PROOFS. ENGAGE (R4, R120). -/

set_option Elab.async false

namespace Sys2Proof.Machine

/-! ### What each turn leaves of the others -/

/-- An operation made in turn: of one thing, what came before its turn and what comes after leave what every other's turn
leaves. -/
theorem State.forEach_turn {ι : Type} {f : ι → State → State} {R : State → State → Prop} {i : ι} {l : List ι}
    (refl : ∀ s, R s s) (trans : ∀ s t u, R s t → R t u → R s u) (other : ∀ x t, x ≠ i → R t (f x t))
    (nodup : l.Nodup) (member : i ∈ l) (s : State) : ∃ t, R s t ∧ R (f i t) (s.forEach f l) := by
  have passed (l : List ι) (fresh : i ∉ l) (s : State) : R s (s.forEach f l) := by
    induction l generalizing s with
    | nil => exact refl s
    | cons x rest ih =>
      exact trans _ _ _ (other x s fun e => fresh (e ▸ List.mem_cons_self)) (ih (fun h => fresh (List.mem_cons_of_mem _ h)) _)
  induction l generalizing s with
  | nil => cases member
  | cons x rest ih =>
    obtain ⟨fresh, nodup⟩ := List.nodup_cons.mp nodup
    by_cases here : i = x
    · subst here
      exact ⟨s, refl s, passed rest fresh _⟩
    · obtain ⟨t, before, after⟩ := ih nodup ((List.mem_cons.mp member).resolve_left here) (f x s)
      exact ⟨t, trans _ _ _ (other x s (Ne.symm here)) before, after⟩

/-- What every turn keeps is kept. -/
theorem State.forEach_stays {ι : Type} {f : ι → State → State} {P : State → Prop} (turn : ∀ x t, P t → P (f x t))
    {l : List ι} {s : State} (start : P s) : P (s.forEach f l) := by
  induction l generalizing s with
  | nil => exact start
  | cons x rest ih => exact ih (turn x s start)

/-! ### A cage that others' requests pass by (R7, R11) -/

/-- Of cage `c` nothing changes but its list of requests, and those that waited or were in flight still do; time and the
configuration stand. -/
structure PassedBy (c : CageId) (s t : State) : Prop where
  cage : t.cage c = { s.cage c with busRequests := (t.cage c).busRequests }
  holds : ∀ r, s.holdsRequest c r → t.holdsRequest c r
  now : t.now = s.now
  settings : t.settings = s.settings

theorem PassedBy.refl (c : CageId) (s : State) : PassedBy c s s := ⟨rfl, fun _ => id, rfl, rfl⟩

theorem PassedBy.trans (c : CageId) (s t u : State) (h : PassedBy c s t) (g : PassedBy c t u) : PassedBy c s u :=
  ⟨by rw [g.cage, h.cage], fun r => g.holds r ∘ h.holds r, g.now.trans h.now, g.settings.trans h.settings⟩

theorem passedBy_updCage {c d : CageId} (other : d ≠ c) (f : Cage → Cage) (s : State) : PassedBy c s (s.updCage d f) := by
  have cage : (s.updCage d f).cage c = s.cage c := State.cage_updCage_ne _ _ _ _ other
  refine ⟨by rw [cage], fun r holds => ?_, rfl, rfl⟩
  unfold State.holdsRequest
  rw [cage]
  exact holds

theorem passedBy_chooseBus (c : CageId) (k : ControllerId) (s : State) : PassedBy c s (s.chooseBus k) := by
  have served := served_chooseBus k s
  refine ⟨served.cage_eq c, fun r holds => ?_, by rw [served.shape], by rw [served.shape]⟩
  by_cases own : controllerOf c = k
  · rw [← own]
    exact State.holdsRequest_chooseBus holds
  · have cage : (s.chooseBus k).cage c = s.cage c := by
      rcases served.cages c with same | ⟨_, _, _, here, _⟩
      · exact same
      · exact absurd here own
    unfold State.holdsRequest
    rw [cage, served.controllers _ own]
    exact holds

theorem passedBy_enterWaking {c d : CageId} (other : d ≠ c) (s : State) : PassedBy c s (s.enterWaking d) := by
  unfold State.enterWaking
  dsimp only
  split
  · exact .trans _ _ _ _ (passedBy_updCage other _ s)
      (.trans _ _ _ _ (passedBy_updCage other _ _) (.trans _ _ _ _ (passedBy_updCage other _ _) (passedBy_chooseBus ..)))
  · exact passedBy_updCage other _ s

/-! ### A cage that wakes (R4) -/

section
variable {c : CageId} {s : State}

/-- A cage that wakes with its ready timer. -/
def Cage.wakes (now : Moment) (ready : Timer) (m : Cage) : Cage :=
  { m with mode := .waking, visit := m.visit + 1, resetLine := false, guardOrigin := now, readyTimer := ready }

theorem State.enterWaking_waits (long : 0 < s.settings.managementReadyTime) : s.enterWaking c
    = s.updCage c (Cage.wakes s.now (some (s.inMs s.settings.managementReadyTime))) := by
  refine (if_neg (Nat.ne_of_gt long)).trans ?_
  exact congrArg (fun t => s.updCage c (Cage.wakes s.now t)) (if_neg (Nat.ne_of_gt long))

theorem State.enterWaking_reads (zero : s.settings.managementReadyTime = 0) :
    s.enterWaking c = (s.updCage c (Cage.wakes s.now none)).enterIdentifying c := by
  refine (if_pos zero).trans ?_
  exact congrArg (fun t => (s.updCage c (Cage.wakes s.now t)).enterIdentifying c) (if_pos zero)

/-- A cage that identifies as it wakes. -/
theorem State.enterWaking_reads_spec (zero : s.settings.managementReadyTime = 0) :
    (s.enterWaking c).cage c = { s.cage c with
        mode := .identifying, visit := (s.cage c).visit + 1, resetLine := false, guardOrigin := s.now, readyTimer := none
        identityKey := none, serialDigest := none, identityBytes := [], readList := s.settings.identityReadList
        serialLocation := s.settings.serialLocation, busRequests := ((s.enterWaking c).cage c).busRequests }
    ∧ (s.enterWaking c).holdsRead c .identification (s.settings.identityReadList.getD 0 (0, 0)).1
        (s.settings.identityReadList.getD 0 (0, 0)).2 1 := by
  obtain ⟨u, entered, shape, touched, cage, holds⟩ :=
    State.enterIdentifying_spec c (s.updCage c (Cage.wakes s.now none))
  rw [State.enterWaking_reads zero, entered]
  rw [State.cage_updCage_self] at cage
  exact ⟨cage, holds⟩

end

/-- One cage's turn in ENGAGE. -/
def State.wakeTurn (c : CageId) (s : State) : State := if (s.cage c).mode = CageMode.waitEngage then s.enterWaking c else s

theorem passedBy_wakeTurn {c d : CageId} (other : d ≠ c) (s : State) : PassedBy c s (s.wakeTurn d) := by
  unfold State.wakeTurn
  split
  · exact passedBy_enterWaking other s
  · exact .refl c s

theorem touches_wakeTurn (c : CageId) (s : State) : Touches Anywhere [.cages, .lines, .controllers] s (s.wakeTurn c) := by
  refine .ite (fun _ => ?_) fun _ => .refl ..
  refine .ite (fun _ => ?_) fun _ => (touches_updCage ..).mono
  exact ((touches_updCage ..).trans (touches_updCage ..) (rs := [.cages, .lines])).trans (touches_placeRead ..)

/-- One link's turn in ENGAGE: an active link that is OFF is in SHED. -/
def State.openTurn (j : LinkId) (s : State) : State :=
  if s.isActive j && (s.link j).hold.service = ServiceState.off then s.setService j .shed else s

theorem touches_openTurn {W : LinkId → Prop} {j : LinkId} (hj : W j) (s : State) :
    Touches W [.hold, .serving] s (s.openTurn j) :=
  .ite (fun _ => touches_setLinkService hj _ s) fun _ => .refl ..

theorem State.openTurn_link (j : LinkId) (s : State) : (s.openTurn j).link j
    = if s.isActive j = true ∧ (s.link j).hold.service = .off then
        { s.link j with hold := { (s.link j).hold with service := .shed } }
      else s.link j := by
  unfold State.openTurn
  simp only [Bool.and_eq_true, decide_eq_true_eq]
  split
  · exact State.link_updHold_self ..
  · rfl

theorem State.engage_eq (s : State) :
    s.engage = State.forEach State.wakeTurn allCages (State.forEach State.openTurn allLinks { s with engaged := true }) := rfl

theorem State.forEach_openTurn (s : State) (j : LinkId) : (State.forEach State.openTurn allLinks s).link j
    = if s.isActive j = true ∧ (s.link j).hold.service = .off then
        { s.link j with hold := { (s.link j).hold with service := .shed } }
      else s.link j := by
  obtain ⟨t, touched, result⟩ := State.forEach_at (fun i u => touches_openTurn (only_self i) u) allLinks_nodup (mem_allLinks j) s
  have link : t.link j = s.link j := touched.elsewhere j (by simp)
  have active : t.isActive j = s.isActive j := (SameCourse.of_cages touched.now touched.cages).active
  rw [result, State.openTurn_link, link, active]

/-! ### The cages (R4, R120) -/

section
variable {s : State} (c : CageId)

/-- Every cage, as its turn finds it and leaves it. -/
theorem State.forEach_wakeTurn : ∃ t, PassedBy c s t ∧ PassedBy c (t.wakeTurn c) (State.forEach State.wakeTurn allCages s) :=
  State.forEach_turn (PassedBy.refl c) (PassedBy.trans c) (fun _ t other => passedBy_wakeTurn other t) allCages_nodup
    (mem_allCages c) s

variable {c}

theorem State.wakeTurn_other (other : (s.cage c).mode ≠ .waitEngage) :
    (State.forEach State.wakeTurn allCages s).cage c
      = { s.cage c with busRequests := ((State.forEach State.wakeTurn allCages s).cage c).busRequests } := by
  obtain ⟨t, before, after⟩ := State.forEach_wakeTurn (s := s) c
  have mode : (t.cage c).mode ≠ .waitEngage := by rw [before.cage]; exact other
  have stays : t.wakeTurn c = t := if_neg mode
  rw [stays] at after
  exact (before.trans _ _ _ _ after).cage

theorem State.wakeTurn_waits (waits : (s.cage c).mode = .waitEngage) (long : 0 < s.settings.managementReadyTime) :
    (State.forEach State.wakeTurn allCages s).cage c = { s.cage c with
      mode := .waking, visit := (s.cage c).visit + 1, resetLine := false, guardOrigin := s.now
      readyTimer := some (s.inMs s.settings.managementReadyTime)
      busRequests := ((State.forEach State.wakeTurn allCages s).cage c).busRequests } := by
  obtain ⟨t, before, after⟩ := State.forEach_wakeTurn (s := s) c
  have mode : (t.cage c).mode = .waitEngage := by rw [before.cage]; exact waits
  have wakes : t.wakeTurn c = t.updCage c (Cage.wakes t.now (some (t.inMs t.settings.managementReadyTime))) :=
    (if_pos mode).trans (State.enterWaking_waits (by rw [before.settings]; exact long))
  have cage := after.cage
  rw [wakes, State.cage_updCage_self, State.inMs, before.cage, before.now, before.settings] at cage
  exact cage

theorem State.wakeTurn_reads (waits : (s.cage c).mode = .waitEngage) (zero : s.settings.managementReadyTime = 0) :
    (State.forEach State.wakeTurn allCages s).cage c = { s.cage c with
      mode := .identifying, visit := (s.cage c).visit + 1, resetLine := false, guardOrigin := s.now, readyTimer := none
      identityKey := none, serialDigest := none, identityBytes := [], readList := s.settings.identityReadList
      serialLocation := s.settings.serialLocation
      busRequests := ((State.forEach State.wakeTurn allCages s).cage c).busRequests }
    ∧ (State.forEach State.wakeTurn allCages s).holdsRead c .identification (s.settings.identityReadList.getD 0 (0, 0)).1
        (s.settings.identityReadList.getD 0 (0, 0)).2 1 := by
  obtain ⟨t, before, after⟩ := State.forEach_wakeTurn (s := s) c
  have mode : (t.cage c).mode = .waitEngage := by rw [before.cage]; exact waits
  have wakes : t.wakeTurn c = t.enterWaking c := if_pos mode
  obtain ⟨reads, holds⟩ := State.enterWaking_reads_spec (s := t) (c := c) (by rw [before.settings]; exact zero)
  have cage := after.cage
  have visit : ((State.forEach State.wakeTurn allCages s).cage c).visit = ((t.enterWaking c).cage c).visit := by
    rw [cage, wakes]
  rw [wakes] at cage after
  rw [before.settings] at holds
  rw [reads, before.cage, before.now, before.settings] at cage
  refine ⟨cage, ?_⟩
  rw [State.holdsRead_iff, State.readOf, visit]
  exact after.holds _ holds

theorem State.wakeTurn_quiet (long : 0 < s.settings.managementReadyTime) :
    (State.forEach State.wakeTurn allCages s).controllers = s.controllers
    ∧ ∀ c, ((State.forEach State.wakeTurn allCages s).cage c).busRequests = (s.cage c).busRequests := by
  have all := State.forEach_stays (f := State.wakeTurn) (l := allCages) (s := s)
    (P := fun t => t.settings = s.settings ∧ t.controllers = s.controllers
      ∧ ∀ c, (t.cage c).busRequests = (s.cage c).busRequests)
    (fun c t kept => by
      obtain ⟨settings, controllers, requests⟩ := kept
      unfold State.wakeTurn
      split
      · rw [State.enterWaking_waits (by rw [settings]; exact long)]
        refine ⟨settings, controllers, fun d => ?_⟩
        by_cases here : c = d
        · subst here
          rw [State.cage_updCage_self]
          exact requests c
        · rw [State.cage_updCage_ne _ _ _ _ here]
          exact requests d
      · exact ⟨settings, controllers, requests⟩)
    ⟨rfl, rfl, fun _ => rfl⟩
  exact all.2

end

theorem exec_engage (q : Requester) {s : State} (idle : s.engineIdle) :
    exec (.engage q) s = .next (State.answered q 0x11 .done [] [] (if s.engaged then s else s.engage)) := by
  show execEngage q s = _
  unfold execEngage
  refine serve_answered (fun t : State => if t.engaged then t else t.engage) .done [] [] rfl idle (fun m t => ?_) fun m => rfl
  rw [State.withEngine_engaged, State.engage_withEngine]
  split <;> rfl

/-- Settles O33. -/
theorem engageOpensService : Obligations.EngageOpensService := by
  intro q s idle
  refine ⟨fun on => ?_, fun off => ⟨s.engage, ?_, ?_⟩⟩
  · rw [exec_engage q idle, if_pos on]
  · rw [exec_engage q idle, if_neg (Bool.eq_false_iff.mp off)]
  · have linked := State.forEach_openTurn { s with engaged := true }
    have opened : Touches Anywhere [.hold, .serving] { s with engaged := true }
        (State.forEach State.openTurn allLinks { s with engaged := true }) :=
      .forEach fun j _ t => touches_openTurn trivial t
    have cage (c : CageId) : (State.forEach State.openTurn allLinks { s with engaged := true }).cage c = s.cage c := by
      rw [State.cage, opened.cages]
      rfl
    have now : (State.forEach State.openTurn allLinks { s with engaged := true }).now = s.now := opened.now
    have settings : (State.forEach State.openTurn allLinks { s with engaged := true }).settings = s.settings := opened.settings
    have form := opened.eq
    have controllers : (State.forEach State.openTurn allLinks { s with engaged := true }).controllers = s.controllers :=
      opened.controllers
    rw [State.engage_eq]
    generalize State.forEach State.openTurn allLinks { s with engaged := true } = v at *
    have woken : Touches Anywhere [.cages, .lines, .controllers] v (State.forEach State.wakeTurn allCages v) :=
      .forEach fun c _ t => touches_wakeTurn c t
    have links (j : LinkId) : (State.forEach State.wakeTurn allCages v).link j = v.link j := woken.link_eq j
    have quiet (long : 0 < v.settings.managementReadyTime) := State.wakeTurn_quiet long
    have other (c : CageId) (h : (v.cage c).mode ≠ .waitEngage) := State.wakeTurn_other h
    have waits (c : CageId) (h : (v.cage c).mode = .waitEngage) (long : 0 < v.settings.managementReadyTime) :=
      State.wakeTurn_waits h long
    have reads (c : CageId) (h : (v.cage c).mode = .waitEngage) (zero : v.settings.managementReadyTime = 0) :=
      State.wakeTurn_reads h zero
    have shape := woken.eq
    generalize State.forEach State.wakeTurn allCages v = u at *
    rw [controllers, settings] at quiet
    simp only [cage, settings, now, State.inMs] at quiet other waits reads
    refine ⟨?_, quiet, fun j => (links j).trans (linked j), other, fun c h => ⟨waits c h, reads c h⟩⟩
    rw [shape, form]
    rfl

end Sys2Proof.Machine
end

section
/-! PROOFS. Discards handed on: what they leave of the counters, the slots, the pool and what is raised (R133, R140,
R143, R167). -/

set_option Elab.async false

namespace Sys2Proof.Machine

/-- Two counts after one another are one. -/
theorem countedBy_add (a m n : Nat) : countedBy (countedBy a m) n = countedBy a (m + n) := by
  simp only [countedBy]
  split_ifs <;> omega

theorem DiscardReason.place_injective {r x : DiscardReason} (h : r.place = x.place) : r = x := by
  cases r <;> cases x <;> first | rfl | exact absurd h (by decide)

/-- From `s` to `t` discards are handed on, one after another, and blocks return to the pool: each discard is counted on its
link and kept where a slot is empty, `signals` is all that is raised, and where some parked frame left the pool-low state is
judged again. -/
structure Drained (records : List DiscardRecord) (signals : List Signal) (blocks : Nat) (fell : Bool) (s t : State) :
    Prop where
  counted : ∀ (j : LinkId) (reason : DiscardReason), (t.link j).counters.discards.get reason.place
    = countedBy ((s.link j).counters.discards.get reason.place)
      (records.filter fun r => r.reason = reason && r.link = j).length
  slotA : t.slotA = s.slotA.or records.head?
  slotB : t.slotB = s.slotB.or (if s.slotA = none then (records.drop 1).head? else records.head?)
  raised : t.raised = s.raised ++ signals
  pool : t.poolFree = s.poolFree + blocks
  poolLow : t.poolLow = if fell = true ∧ s.settings.poolLowMark ≤ t.poolFree then false else s.poolLow
  settings : t.settings = s.settings
  still : fell = false → blocks = 0

/-- The signals of discards: each is handed to the notice unit (R171). -/
abbrev discardsOf (records : List DiscardRecord) : List Signal := records.map fun r => Signal.discard r.link

namespace Drained

variable {r r' : List DiscardRecord} {g g' : List Signal} {b b' : Nat} {f f' : Bool} {s t u : State}

/-- Nothing that a discard changes has changed. -/
theorem of_same (counters : ∀ j, (t.link j).counters.discards = (s.link j).counters.discards) (slotA : t.slotA = s.slotA)
    (slotB : t.slotB = s.slotB) (raised : t.raised = s.raised) (pool : t.poolFree = s.poolFree)
    (poolLow : t.poolLow = s.poolLow) (settings : t.settings = s.settings) : Drained [] [] 0 false s t where
  counted j reason := by rw [counters]; rfl
  slotA := by simp [slotA]
  slotB := by simp [slotB]
  raised := by simp [raised]
  pool := pool
  poolLow := by simp [poolLow]
  settings := settings
  still _ := rfl

theorem refl (s : State) : Drained [] [] 0 false s s := of_same (fun _ => rfl) rfl rfl rfl rfl rfl rfl

/-- An operation that touches none of it. -/
theorem of_touches {W : LinkId → Prop} {ps : List Part} (h : Touches W ps s t) (counters : .counters ∉ ps := by decide)
    (slotA : .slotA ∉ ps := by decide) (slotB : .slotB ∉ ps := by decide) (raised : .raised ∉ ps := by decide)
    (pool : .poolFree ∉ ps := by decide) (poolLow : .poolLow ∉ ps := by decide) (settings : .settings ∉ ps := by decide) :
    Drained [] [] 0 false s t :=
  of_same (fun j => congrArg Counters.discards (h.counters j counters)) (h.slotA slotA) (h.slotB slotB) (h.raised raised)
    (h.poolFree pool) (h.poolLow poolLow) (h.settings settings)

theorem trans (h : Drained r g b f s t) (k : Drained r' g' b' f' t u) :
    Drained (r ++ r') (g ++ g') (b + b') (f || f') s u where
  counted j reason := by
    rw [k.counted, h.counted, countedBy_add, List.filter_append, List.length_append]
  slotA := by
    rw [k.slotA, h.slotA]
    cases s.slotA <;> cases r <;> simp
  slotB := by
    rw [k.slotB, h.slotB, h.slotA]
    cases s.slotA <;> cases s.slotB <;> rcases r with _ | ⟨x, _ | ⟨y, r⟩⟩ <;> simp
  raised := by rw [k.raised, h.raised, List.append_assoc]
  pool := by rw [k.pool, h.pool, Nat.add_assoc]
  poolLow := by
    rw [k.poolLow, h.poolLow, h.settings]
    cases f' with
    | false =>
      have same : u.poolFree = t.poolFree := by rw [k.pool, k.still rfl, Nat.add_zero]
      simp [same]
    | true =>
      have grown : t.poolFree ≤ u.poolFree := by rw [k.pool]; exact Nat.le_add_right ..
      by_cases high : s.settings.poolLowMark ≤ u.poolFree
      · simp [high]
      · simp [high, show ¬ s.settings.poolLowMark ≤ t.poolFree from fun h => high (Nat.le_trans h grown)]
  settings := k.settings.trans h.settings
  still none := by
    obtain ⟨first, second⟩ := Bool.or_eq_false_iff.mp none
    rw [h.still first, k.still second]

/-- The discards are told link by link. -/
theorem allDiscarded (h : Drained r g b f s t) (handed : g.filter Signal.isDiscard = discardsOf r) :
    AllDiscarded r s t where
  counted := h.counted
  slotA := h.slotA
  slotB := h.slotB
  handed := by rw [h.raised, List.filter_append, handed]

theorem discarded {j : LinkId} (h : Drained r g b f s t) (own : ∀ x ∈ r, x.link = j) : Discarded j r s t where
  counted reason := by
    rw [h.counted]
    congr 2
    exact List.filter_congr fun x hx => by simp [own x hx]
  slotA := h.slotA
  slotB := h.slotB

end Drained

theorem discardsOf_filter (r : List DiscardRecord) : (discardsOf r).filter Signal.isDiscard = discardsOf r :=
  List.filter_eq_self.mpr fun x hx => by
    obtain ⟨_, _, rfl⟩ := List.mem_map.mp hx
    rfl

/-! ### One discard -/

section
variable (reason : DiscardReason) (j : LinkId) (cls : Option ClassId) (length : Nat) (s : State)

/-- The record of a discard made now. -/
def State.discardRecord : DiscardRecord := ⟨reason, j, cls, length, s.stamp⟩

/-- A counter one higher. -/
abbrev Counters.withDiscard (reason : DiscardReason) (c : Counters) : Counters :=
  { c with discards := c.discards.set reason.place (saturate (c.discards.get reason.place + 1)) }

theorem State.link_discard (i : LinkId) :
    (s.discard reason j cls length).link i = (s.updCounters j (Counters.withDiscard reason)).link i := rfl

/-- A discard changes its link's discard counters alone. -/
theorem State.discard_link : (s.discard reason j cls length).link j = { s.link j with
    counters := { (s.link j).counters with discards := ((s.discard reason j cls length).link j).counters.discards } } := by
  rw [State.link_discard, State.updCounters, State.link_updLink_self]

theorem State.discard_counted (i : LinkId) (x : DiscardReason) :
    ((s.discard reason j cls length).link i).counters.discards.get x.place
    = countedBy ((s.link i).counters.discards.get x.place) (if reason = x ∧ j = i then 1 else 0) := by
  rw [State.link_discard, State.updCounters]
  by_cases here : j = i
  · subst here
    rw [State.link_updLink_self, Bank.get_set]
    by_cases own : reason = x
    · subst own
      simp [countedBy, saturate]
    · rw [if_neg fun e => own (DiscardReason.place_injective e), if_neg fun e => own e.1]
      rfl
  · rw [State.link_updLink_ne _ _ _ _ here, if_neg fun e => here e.2]
    rfl

/-- A discard is handed on. -/
theorem drained_discard : Drained [s.discardRecord reason j cls length] [.discard j] 0 false s
    (s.discard reason j cls length) where
  counted i x := by
    rw [State.discard_counted]
    congr 1
    by_cases own : reason = x <;> by_cases here : j = i <;> simp [State.discardRecord, own, here]
  slotA := by
    change (if s.slotA.isNone then _ else _) = _
    cases s.slotA <;> rfl
  slotB := by
    change (if s.slotA.isSome && s.slotB.isNone then _ else _) = _
    cases s.slotA <;> cases s.slotB <;> rfl
  raised := rfl
  pool := rfl
  poolLow := by simp [State.discard, State.signal, State.updCounters, State.updLink]
  settings := rfl
  still _ := rfl

end

end Sys2Proof.Machine
end

section
/-! PROOFS. Parked frames leaving: one class and one link flushed (R126, R133, R139 to R141, R143). -/

set_option Elab.async false

namespace Sys2Proof.Machine

theorem State.releasesByLevel_iff (s : State) (j : LinkId) : s.releasesByLevel j = true ↔ s.levelReleases j := by
  simp [State.releasesByLevel]

/-! ### The occupancy falls (R126, R139) -/

section
variable (j : LinkId) (k : ClassId) (s : State)

theorem State.tellOccupancy_link : (s.tellOccupancy j k).link j = { s.link j with
    hold := { (s.link j).hold with
      paused := if s.levelReleases j ∧ s.occupancy j k ≤ s.settings.resumeLevel then (s.link j).hold.paused.set k none
        else (s.link j).hold.paused }
    fabricSide := ((s.tellOccupancy j k).link j).fabricSide } := by
  unfold State.tellOccupancy State.releaseIfLow
  by_cases level : s.levelReleases j
  · rw [if_pos ((s.releasesByLevel_iff j).mpr level)]
    by_cases low : s.occupancy j k ≤ s.settings.resumeLevel
    · rw [if_pos low, if_pos ⟨level, low⟩, s.releaseClass_link j k]
    · rw [if_neg low, if_neg fun h => low h.2]
  · rw [if_neg fun h => level ((s.releasesByLevel_iff j).mp h), if_neg fun h => level h.1]

/-- A class's critical mark is judged by the occupancy. -/
theorem State.criticalFell_link :
    (if s.occupancy j k ≤ s.settings.resumeLevel then s.setCritical j k false else s).link j = { s.link j with
      park := { (s.link j).park with
        critical := if s.occupancy j k ≤ s.settings.resumeLevel then (s.link j).park.critical.set k false
          else (s.link j).park.critical } } := by
  split
  · rw [State.setCritical, State.link_updLink_self]
  · rfl

theorem State.occupancyFell_link : (s.occupancyFell j k).link j = { s.link j with
    park := { (s.link j).park with
      critical := if s.occupancy j k ≤ s.settings.resumeLevel then (s.link j).park.critical.set k false
        else (s.link j).park.critical }
    hold := { (s.link j).hold with
      paused := if s.levelReleases j ∧ s.occupancy j k ≤ s.settings.resumeLevel then (s.link j).hold.paused.set k none
        else (s.link j).hold.paused }
    fabricSide := ((s.occupancyFell j k).link j).fabricSide } := by
  have marked := s.criticalFell_link j k
  have settings : (if s.occupancy j k ≤ s.settings.resumeLevel then s.setCritical j k false else s).settings = s.settings := by
    split <;> rfl
  unfold State.occupancyFell
  generalize (if s.occupancy j k ≤ s.settings.resumeLevel then s.setCritical j k false else s) = t at marked settings
  have occupancy : t.occupancy j k = s.occupancy j k := State.occupancy_of_fifos (by rw [marked]) k
  have level : t.levelReleases j ↔ s.levelReleases j := by rw [State.levelReleases, marked, settings]
  rw [t.tellOccupancy_link j k]
  simp only [occupancy, settings, level, marked]

theorem State.occupancyFell_released : (s.link j).Released s.settings ((s.occupancyFell j k).link j) := by
  have marked := s.criticalFell_link j k
  have settings : (if s.occupancy j k ≤ s.settings.resumeLevel then s.setCritical j k false else s).settings = s.settings := by
    split <;> rfl
  unfold State.occupancyFell
  generalize (if s.occupancy j k ≤ s.settings.resumeLevel then s.setCritical j k false else s) = t at marked settings
  have told := State.tellOccupancy_released (j := j) (s := t) k
  rw [settings] at told
  exact (Link.Released.of_same (by rw [marked]) (by rw [marked])).trans told

end

/-! ### The pool (R133, R140) -/

theorem State.poolRose_poolLow (s : State) :
    s.poolRose.poolLow = if s.settings.poolLowMark ≤ s.poolFree then false else s.poolLow := by
  unfold State.poolRose
  split <;> rfl

theorem State.link_poolRose (s : State) (j : LinkId) : s.poolRose.link j = s.link j := by
  unfold State.poolRose
  split <;> rfl

/-- Frames that leave return their blocks, the discards among them are handed on, and then the pool is judged. -/
theorem Drained.returned {W V : LinkId → Prop} {ps qs : List Part} {s t u v : State} {r : List DiscardRecord}
    {g : List Signal} {b : Nat} (before : Touches W ps s t) (pool : t.poolFree = s.poolFree + b)
    (told : Drained r g 0 false t u) (after : Touches V qs u v)
    (first : [.counters, .slotA, .slotB, .raised, .poolLow, .settings].all (· ∉ ps) := by decide)
    (second : [.counters, .slotA, .slotB, .raised, .poolFree, .poolLow, .settings].all (· ∉ qs) := by decide) :
    Drained r g b true s v.poolRose := by
  simp only [List.all_cons, List.all_nil, Bool.and_true, Bool.and_eq_true, decide_eq_true_eq] at first second
  obtain ⟨counters, slotA, slotB, raised, low, settings⟩ := first
  obtain ⟨counters', slotA', slotB', raised', free', low', settings'⟩ := second
  have rose := touches_poolRose (W := Anywhere) v
  have marks : v.settings = s.settings := (after.settings settings').trans (told.settings.trans (before.settings settings))
  have held : v.poolFree = s.poolFree + b := by rw [after.poolFree free', told.pool, pool, Nat.add_zero]
  refine ⟨fun j x => ?_, ?_, ?_, ?_, ?_, ?_, ?_, fun h => absurd h (by decide)⟩
  · rw [rose.counters j, after.counters j counters', told.counted j x, before.counters j counters]
  · rw [rose.slotA, after.slotA slotA', told.slotA, before.slotA slotA]
  · rw [rose.slotB, after.slotB slotB', told.slotB, before.slotB slotB, before.slotA slotA]
  · rw [rose.raised, after.raised raised', told.raised, before.raised raised]
  · rw [rose.poolFree, held]
  · rw [rose.poolFree, State.poolRose_poolLow, marks, after.poolLow low', told.poolLow, before.poolLow low]
    simp
  · rw [rose.settings, marks]

/-! ### One class flushed (R141) -/

/-- The discard records of the frames parked in one class. -/
def State.classRecords (s : State) (reason : DiscardReason) (j : LinkId) (k : ClassId) : List DiscardRecord :=
  ((s.link j).park.fifos.get k).map fun f => ⟨reason, j, some k, f.length, BitVec.ofNat 32 (s.now / 3125)⟩

theorem State.flushRecords_eq (s : State) (reason : DiscardReason) (j : LinkId) :
    s.flushRecords reason j = [3, 2, 1, 0].flatMap (s.classRecords reason j) := rfl

section
variable {reason : DiscardReason} {j : LinkId}

/-- Frames discarded one after another. -/
theorem drained_frames (k : ClassId) (l : List ParkedFrame) (s : State) :
    Drained (l.map fun f => s.discardRecord reason j (some k) f.length) (l.map fun _ => .discard j) 0 false s
      (s.forEach (fun f => State.discard reason j (some k) f.length) l) := by
  induction l generalizing s with
  | nil => exact .refl s
  | cons f rest ih =>
    have first := drained_discard reason j (some k) f.length s
    have stamp : (s.discard reason j (some k) f.length).stamp = s.stamp := rfl
    have later := ih (s.discard reason j (some k) f.length)
    simp only [State.discardRecord, stamp] at later
    exact first.trans later

theorem State.forEach_discard_link (k : ClassId) (l : List ParkedFrame) (s : State) :
    (s.forEach (fun f => State.discard reason j (some k) f.length) l).link j = { s.link j with
      counters := { (s.link j).counters with discards :=
        ((s.forEach (fun f => State.discard reason j (some k) f.length) l).link j).counters.discards } } := by
  induction l generalizing s with
  | nil => rfl
  | cons f rest ih => rw [State.forEach_cons, ih, s.discard_link reason j (some k) f.length]

/-- The classes `l` of link `j` have been flushed, from `s` to `t`. -/
structure ClassesFlushed (reason : DiscardReason) (j : LinkId) (l : List ClassId) (s t : State) : Prop where
  fifos : ∀ k, (t.link j).park.fifos.get k = if k ∈ l then [] else (s.link j).park.fifos.get k
  critical : ∀ k, (t.link j).park.critical.get k
    = if k ∈ l ∧ (s.link j).park.fifos.get k ≠ [] then false else (s.link j).park.critical.get k
  paused : ∀ k, (t.link j).hold.paused.get k
    = if k ∈ l ∧ (s.link j).park.fifos.get k ≠ [] ∧ s.levelReleases j then none else (s.link j).hold.paused.get k
  rest : t.link j = { s.link j with
    hold := { (s.link j).hold with paused := (t.link j).hold.paused }
    park := (t.link j).park
    counters := { (s.link j).counters with discards := (t.link j).counters.discards }
    fabricSide := (t.link j).fabricSide }
  released : (s.link j).Released s.settings (t.link j)
  drained : Drained (l.flatMap (s.classRecords reason j)) (discardsOf (l.flatMap (s.classRecords reason j)))
    (l.map (s.occupancy j)).sum (l.any fun k => decide ((s.link j).park.fifos.get k ≠ [])) s t
  now : t.now = s.now

theorem ClassesFlushed.refl (s : State) : ClassesFlushed reason j [] s s where
  fifos _ := rfl
  critical _ := by simp
  paused _ := by simp
  rest := rfl
  released := .refl ..
  drained := .refl s
  now := rfl

theorem ClassesFlushed.level {l : List ClassId} {s t : State} (h : ClassesFlushed reason j l s t) :
    t.levelReleases j ↔ s.levelReleases j := by
  rw [State.levelReleases, h.rest, h.drained.settings]

theorem ClassesFlushed.trans {l m : List ClassId} {s t u : State} (h : ClassesFlushed reason j l s t)
    (k : ClassesFlushed reason j m t u) (apart : ∀ c ∈ m, c ∉ l) : ClassesFlushed reason j (l ++ m) s u := by
  have fifo {c : ClassId} (hc : c ∈ m) : (t.link j).park.fifos.get c = (s.link j).park.fifos.get c := by
    rw [h.fifos, if_neg (apart c hc)]
  have records : m.flatMap (t.classRecords reason j) = m.flatMap (s.classRecords reason j) :=
    List.flatMap_congr fun c hc => by rw [State.classRecords, State.classRecords, fifo hc, h.now]
  have blocks : (m.map (t.occupancy j)).sum = (m.map (s.occupancy j)).sum := by
    exact congrArg List.sum (List.map_congr_left fun c hc => congrArg blocksIn (fifo hc))
  have some : (m.any fun c => decide ((t.link j).park.fifos.get c ≠ []))
      = m.any fun c => decide ((s.link j).park.fifos.get c ≠ []) :=
    Bool.eq_iff_iff.mpr (by
      simp only [List.any_eq_true]
      exact exists_congr fun c => and_congr_right fun hc => by rw [fifo hc])
  have told := k.released
  have drained := h.drained.trans k.drained
  rw [records, blocks, some] at drained
  rw [h.drained.settings] at told
  refine ⟨fun c => ?_, fun c => ?_, fun c => ?_, ?_, h.released.trans told, ?_, k.now.trans h.now⟩
  · rw [k.fifos, h.fifos]
    by_cases hl : c ∈ l <;> by_cases hm : c ∈ m <;> simp [hl, hm]
  · rw [k.critical, h.critical, h.fifos]
    by_cases hl : c ∈ l <;> by_cases hm : c ∈ m <;> simp [hl, hm]
  · rw [k.paused, h.paused, h.fifos]
    simp only [h.level]
    by_cases hl : c ∈ l <;> by_cases hm : c ∈ m <;> simp [hl, hm]
  · rw [k.rest, h.rest]
  · simpa only [List.flatMap_append, List.map_append, List.sum_append, List.any_append] using drained

/-- One class is flushed. -/
theorem classesFlushed_flushClass (k : ClassId) (s : State) :
    ClassesFlushed reason j [k] s (s.flushClass reason j k) := by
  unfold State.flushClass
  split
  · next empty =>
    have empty : (s.link j).park.fifos.get k = [] := empty
    refine ⟨fun c => ?_, fun c => ?_, fun c => ?_, rfl, .refl .., ?_, rfl⟩
    · by_cases e : c = k <;> simp [e, empty]
    · by_cases e : c = k <;> simp [e, empty]
    · by_cases e : c = k <;> simp [e, empty]
    · simpa [State.classRecords, empty, State.occupancy, blocksIn] using Drained.refl s
  · next f rest filled =>
    have filled : (s.link j).park.fifos.get k = f :: rest := filled
    have before : Touches (Only j) [.fifos, .poolFree] s { s.setFifo j k [] with
        poolFree := s.poolFree + blocksIn (f :: rest) } :=
      (touches_setFifo (only_self j) k [] s).trans (touches_poolFree _ _)
    have emptied : ({ s.setFifo j k [] with poolFree := s.poolFree + blocksIn (f :: rest) } : State).link j
        = { s.link j with park := { (s.link j).park with fifos := (s.link j).park.fifos.set k [] } } := by
      change (s.setFifo j k []).link j = _
      rw [State.setFifo, State.link_updLink_self]
    have pool : ({ s.setFifo j k [] with poolFree := s.poolFree + blocksIn (f :: rest) } : State).poolFree
        = s.poolFree + s.occupancy j k := by rw [State.occupancy, filled]
    have stamp : ({ s.setFifo j k [] with poolFree := s.poolFree + blocksIn (f :: rest) } : State).stamp = s.stamp := rfl
    generalize ({ s.setFifo j k [] with poolFree := s.poolFree + blocksIn (f :: rest) } : State) = t
      at before emptied pool stamp
    have told := drained_frames (reason := reason) (j := j) k (f :: rest) t
    have counted := t.forEach_discard_link (reason := reason) (j := j) k (f :: rest)
    have clock : (t.forEach (fun g => State.discard reason j (some k) g.length) (f :: rest)).now = t.now :=
      (Touches.forEach (W := Only j) (ps := [.counters, .slotA, .slotB, .raised]) fun g _ v =>
        touches_discard (only_self j) reason (some k) g.length v).now
    simp only [State.discardRecord, stamp] at told
    simp only
    generalize t.forEach (fun g => State.discard reason j (some k) g.length) (f :: rest) = u at told counted clock
    have fell := u.occupancyFell_link j k
    have after := touches_occupancyFell (only_self j) k u
    have due := u.occupancyFell_released j k
    have settings : u.settings = s.settings := told.settings.trans before.settings
    have gone : u.occupancy j k = 0 := by
      rw [State.occupancy, counted, emptied]
      simp [blocksIn]
    have level : u.levelReleases j ↔ s.levelReleases j := by rw [State.levelReleases, counted, emptied, settings]
    simp only [gone, Nat.zero_le, and_true, level, if_true] at fell
    rw [counted, emptied] at fell
    have shown : (u.occupancyFell j k).poolRose.link j = (u.occupancyFell j k).link j := State.link_poolRose ..
    refine ⟨fun c => ?_, fun c => ?_, fun c => ?_, ?_, ?_, ?_, ?_⟩
    · rw [shown, fell, Bank.get_set]
      by_cases e : k = c <;> simp [e, eq_comm]
    · rw [shown, fell, Bank.get_set]
      by_cases e : k = c
      · subst e; simp [filled]
      · simp [e, Ne.symm e]
    · rw [shown, fell]
      by_cases hl : s.levelReleases j
      · rw [if_pos hl, Bank.get_set]
        by_cases e : k = c
        · subst e; simp [filled, hl]
        · simp [e, Ne.symm e]
      · simp [hl]
    · rw [shown, fell]
    · rw [shown]
      refine .trans (.of_same ?_ ?_) (settings ▸ due)
      · rw [counted, emptied]
      · rw [counted, emptied]
    · have handed := Drained.returned before pool told after
      simpa [State.classRecords, filled, State.occupancy, State.stamp, State.microseconds, microsecond, Function.comp_def] using handed
    · rw [(touches_poolRose (W := Only j) _).now, after.now, clock, before.now]

theorem classesFlushed_forEach {l : List ClassId} (nodup : l.Nodup) (s : State) :
    ClassesFlushed reason j l s (s.forEach (State.flushClass reason j) l) := by
  induction l generalizing s with
  | nil => exact .refl s
  | cons k rest ih =>
    obtain ⟨fresh, nodup⟩ := List.nodup_cons.mp nodup
    exact (classesFlushed_flushClass k s).trans (ih nodup _) fun c hc e => fresh (List.mem_singleton.mp e ▸ hc)

end

end Sys2Proof.Machine
end

section
/-! PROOFS. A link flushed, and the entries to SHED and HOLD (R115 to R117, R124, R126, R141). -/

set_option Elab.async false

namespace Sys2Proof.Machine

/-! ### A link flushed (R141) -/

/-- Link `j` has been flushed, from `s` to `t`. -/
structure LinkFlushed (reason : DiscardReason) (j : LinkId) (s t : State) : Prop where
  fifos : (t.link j).park.fifos = Bank.fill 4 []
  critical : ∀ k, (t.link j).park.critical.get k
    = if (s.link j).park.fifos.get k = [] then (s.link j).park.critical.get k else false
  paused : ∀ k, (t.link j).hold.paused.get k
    = if (s.link j).park.fifos.get k ≠ [] ∧ s.levelReleases j then none else (s.link j).hold.paused.get k
  rest : t.link j = { s.link j with
    hold := { (s.link j).hold with paused := (t.link j).hold.paused }
    park := (t.link j).park
    counters := { (s.link j).counters with discards := (t.link j).counters.discards }
    fabricSide := (t.link j).fabricSide }
  released : (s.link j).Released s.settings (t.link j)
  drained : Drained (s.flushRecords reason j) (discardsOf (s.flushRecords reason j)) (s.link j).park.occupancy
    (!(s.link j).park.isEmpty) s t

section
variable {reason : DiscardReason} {j : LinkId} {s t : State}

theorem mem_descending (k : ClassId) : k ∈ ([3, 2, 1, 0] : List ClassId) := by
  revert k
  decide

theorem State.sum_occupancy (s : State) (j : LinkId) :
    (([3, 2, 1, 0] : List ClassId).map (s.occupancy j)).sum = (s.link j).park.occupancy := by
  simp only [ParkState.occupancy, State.occupancy, List.map_cons, List.map_nil, List.sum_cons, List.sum_nil,
    show List.finRange 4 = [0, 1, 2, 3] from rfl]
  omega

theorem ParkState.isEmpty_iff (p : ParkState) : p.isEmpty = true ↔ ∀ k, p.fifos.get k = [] := by
  simp [ParkState.isEmpty]

theorem ParkState.any_filled (p : ParkState) :
    (([3, 2, 1, 0] : List ClassId).any fun k => decide (p.fifos.get k ≠ [])) = !p.isEmpty := by
  rw [Bool.eq_iff_iff, Bool.not_eq_true', ← Bool.not_eq_true, p.isEmpty_iff, List.any_eq_true]
  simp only [mem_descending, true_and, decide_eq_true_eq, not_forall, ne_eq]

theorem linkFlushed_flushLink (reason : DiscardReason) (j : LinkId) (s : State) :
    LinkFlushed reason j s (s.flushLink reason j) := by
  have h := classesFlushed_forEach (reason := reason) (j := j) (l := [3, 2, 1, 0]) (by decide) s
  have drained := h.drained
  rw [s.sum_occupancy j, (s.link j).park.any_filled, ← State.flushRecords_eq] at drained
  unfold State.flushLink
  generalize s.forEach (State.flushClass reason j) [3, 2, 1, 0] = t at h drained ⊢
  refine ⟨Bank.eq_of_get _ _ fun k => ?_, fun k => ?_, fun k => ?_, h.rest, h.released, drained⟩
  · rw [h.fifos, if_pos (mem_descending k), Bank.get_fill]
  · rw [h.critical]
    by_cases e : (s.link j).park.fifos.get k = []
    · rw [if_neg fun h => h.2 e, if_pos e]
    · rw [if_pos ⟨mem_descending k, e⟩, if_neg e]
  · rw [h.paused]
    simp only [mem_descending k, true_and]

theorem LinkFlushed.park (h : LinkFlushed reason j s t) :
    (t.link j).park = ⟨Bank.fill 4 [], (t.link j).park.critical⟩ := by
  rw [← h.fifos]

theorem State.flushRecords_link (s : State) (reason : DiscardReason) (j : LinkId) :
    ∀ r ∈ s.flushRecords reason j, r.link = j := by
  intro r hr
  obtain ⟨k, _, hr⟩ := List.mem_flatMap.mp hr
  obtain ⟨f, _, rfl⟩ := List.mem_map.mp hr
  rfl

theorem State.flushRecords_of_same (links : t.link j = s.link j) (now : t.now = s.now) (reason : DiscardReason) :
    t.flushRecords reason j = s.flushRecords reason j := by
  rw [State.flushRecords, State.flushRecords, links, now]

/-- A flush, by what it leaves at the end. -/
theorem LinkFlushed.flushed (h : LinkFlushed reason j s t) : Flushed reason j s t where
  emptied k := by rw [h.fifos, Bank.get_fill]
  critical := h.critical
  pool := h.drained.pool
  poolLow := by
    rw [h.drained.poolLow]
    simp
  discarded := h.drained.discarded (s.flushRecords_link reason j)

end

/-! ### Classes paused one after another (R124) -/

/-- From a link to its later self classes are paused alone: each that is paused and that some priority maps to has its frame,
nothing else goes toward the switch, and the pause frames that were due still are. -/
structure Link.Pausing (g : Settings) (l m : Link) : Prop where
  rises : ∀ k, m.hold.paused.get k = l.hold.paused.get k
    ∨ l.hold.paused.get k = none ∧ (m.hold.paused.get k).isSome
  told : ∀ k, l.hold.paused.get k = none → (m.hold.paused.get k).isSome → prioritiesOf g k ≠ 0 →
    m.fabricSide.holdsPause ⟨prioritiesOf g k, g.pauseTime⟩
  silent : (∀ k, prioritiesOf g k = 0 ∨ m.hold.paused.get k = l.hold.paused.get k) → m.fabricSide = l.fabricSide
  held : ∀ p : PauseFrame, p.Current g → l.fabricSide.holdsPause p → m.fabricSide.holdsPause p
  kept : l.fabricSide.Kept m.fabricSide

theorem PauseFrame.current_pausing (g : Settings) (v : BitVec 8) : PauseFrame.Current g ⟨v, g.pauseTime⟩ := by
  unfold PauseFrame.Current PauseFrame.sentUnder
  split <;> simp_all

namespace Link.Pausing

variable {g : Settings} {l m n : Link}

theorem of_same (paused : m.hold.paused = l.hold.paused) (fabric : m.fabricSide = l.fabricSide) : l.Pausing g m where
  rises k := .inl (by rw [paused])
  told k free after _ := by rw [paused] at after; simp [free] at after
  silent _ := fabric
  held _ _ h := fabric ▸ h
  kept := fabric ▸ .refl _

theorem trans (h : l.Pausing g m) (k : m.Pausing g n) : l.Pausing g n where
  rises c := by
    rcases k.rises c with same | ⟨free, later⟩
    · rw [same]
      exact h.rises c
    · rcases h.rises c with same | ⟨_, between⟩
      · exact .inr ⟨same ▸ free, later⟩
      · simp [free] at between
  told c before after mapped := by
    by_cases between : m.hold.paused.get c = none
    · exact k.told c between after mapped
    · exact k.held _ (PauseFrame.current_pausing ..)
        (h.told c before (Option.isSome_iff_ne_none.mpr between) mapped)
  silent same := by
    have first c : prioritiesOf g c = 0 ∨ m.hold.paused.get c = l.hold.paused.get c := by
      refine (same c).imp_right fun e => (h.rises c).elim id fun ⟨_, between⟩ => ?_
      rcases k.rises c with later | ⟨free, _⟩
      · rw [← later, e]
      · simp [free] at between
    have second c : prioritiesOf g c = 0 ∨ n.hold.paused.get c = m.hold.paused.get c := by
      rcases first c with zero | e
      · exact .inl zero
      · exact (same c).imp_right fun e' => e'.trans e.symm
    exact (k.silent second).trans (h.silent first)
  held p current waits := k.held p current (h.held p current waits)
  kept := h.kept.trans k.kept

end Link.Pausing

section
variable (j : LinkId) (k : ClassId) (s : State)

theorem Layout.quantum_eq (l : Layout) : l.quantum = l.slots * 4 := by
  cases l <;> rfl

theorem State.refreshEnd_eq : s.now + s.refreshInterval j = s.refreshEnd j := by
  rw [State.refreshInterval, State.refreshEnd, Layout.quantum_eq]

/-- A class paused changes its pause state and the egress alone. -/
theorem State.pauseIfPausable_link : (s.pauseIfPausable j k).link j = { s.link j with
    hold := { (s.link j).hold with
      paused := if s.settings.pausable.get k = true ∧ (s.link j).hold.paused.get k = none
        then (s.link j).hold.paused.set k (some (s.refreshEnd j)) else (s.link j).hold.paused }
    fabricSide := ((s.pauseIfPausable j k).link j).fabricSide } := by
  unfold State.pauseIfPausable State.isPaused
  by_cases due : s.settings.pausable.get k = true ∧ (s.link j).hold.paused.get k = none
  · rw [if_pos (by simp [due]), if_pos due, State.pauseClass, State.setPaused, State.link_updHold_self,
      s.sendClassPause_link j k, State.refreshEnd_eq]
  · rw [if_neg (by simpa using due), if_neg due]

theorem State.pauseIfPausable_pausing : (s.link j).Pausing s.settings ((s.pauseIfPausable j k).link j) := by
  by_cases due : s.settings.pausable.get k = true ∧ (s.link j).hold.paused.get k = none
  · have result : (s.pauseIfPausable j k).link j = { (s.sendClassPause j k s.settings.pauseTime).link j with
        hold := { (s.link j).hold with paused := (s.link j).hold.paused.set k (some (s.refreshEnd j)) } } := by
      unfold State.pauseIfPausable State.isPaused
      rw [if_pos (by simp [due]), State.pauseClass, State.setPaused, State.link_updHold_self,
        s.sendClassPause_link j k, State.refreshEnd_eq]
    refine ⟨fun c => ?_, fun c before after mapped => ?_, fun same => ?_, fun p current waits => ?_, ?_⟩
    · rw [result]
      by_cases e : k = c
      · subst e
        exact .inr ⟨due.2, by simp⟩
      · exact .inl (Bank.get_set_ne _ _ _ _ e)
    · rw [result] at after ⊢
      have e : k = c := by
        by_contra e
        rw [Bank.get_set_ne _ _ _ _ e] at after
        simp [before] at after
      subst e
      exact s.sendClassPause_holds j k _ (PauseFrame.current_pausing ..) mapped
    · have unmapped : prioritiesOf s.settings k = 0 := by
        refine (same k).resolve_right fun e => ?_
        rw [result, due.2] at e
        simp at e
      rw [result, s.sendClassPause_unmapped j k _ unmapped]
    · rw [result]
      exact s.sendClassPause_held j k _ current waits
    · rw [result]
      exact s.sendClassPause_kept j k _
  · have still : s.pauseIfPausable j k = s := by
      unfold State.pauseIfPausable State.isPaused
      rw [if_neg (by simpa using due)]
    rw [still]
    exact .of_same rfl rfl

variable {j s}

theorem State.forEach_pausing (l : List ClassId) :
    (s.link j).Pausing s.settings ((s.forEach (State.pauseIfPausable j) l).link j) := by
  induction l generalizing s with
  | nil => exact .of_same rfl rfl
  | cons k rest ih =>
    have later := ih (s := s.pauseIfPausable j k)
    rw [(touches_pauseIfPausable (only_self j) k s).settings] at later
    exact (s.pauseIfPausable_pausing j k).trans later

/-- The classes `l` paused where they are pausable and released. -/
theorem State.forEach_pauseIfPausable (l : List ClassId) : (s.forEach (State.pauseIfPausable j) l).link j = { s.link j with
      hold := { (s.link j).hold with paused := ((s.forEach (State.pauseIfPausable j) l).link j).hold.paused }
      fabricSide := ((s.forEach (State.pauseIfPausable j) l).link j).fabricSide }
    ∧ ∀ n, ((s.forEach (State.pauseIfPausable j) l).link j).hold.paused.get n
      = if n ∈ l ∧ s.settings.pausable.get n = true ∧ (s.link j).hold.paused.get n = none then some (s.refreshEnd j)
        else (s.link j).hold.paused.get n := by
  induction l generalizing s with
  | nil => exact ⟨rfl, fun n => by simp⟩
  | cons k rest ih =>
    have first := s.pauseIfPausable_link j k
    have touched := touches_pauseIfPausable (only_self j) k s
    have refresh : (s.pauseIfPausable j k).refreshEnd j = s.refreshEnd j := by
      unfold State.refreshEnd State.linkLayout State.cage
      rw [touched.now, touched.settings, touched.cages]
    obtain ⟨shape, paused⟩ := ih (s := s.pauseIfPausable j k)
    rw [State.forEach_cons]
    refine ⟨by rw [shape, first], fun n => ?_⟩
    rw [paused, refresh, touched.settings, first]
    by_cases due : s.settings.pausable.get k = true ∧ (s.link j).hold.paused.get k = none
    · by_cases e : k = n
      · subst e
        simp [due]
      · simp [due, Bank.get_set, e, Ne.symm e]
    · by_cases e : n = k
      · subst e
        simp [due]
      · simp [due, e]

end

end Sys2Proof.Machine
end

section
/-! PROOFS. The service a link loses: SHED, HOLD and what its pauses do (R115, R116, R124, R126, R141, R155). -/

set_option Elab.async false

namespace Sys2Proof.Machine

section
variable {reason : DiscardReason} {j : LinkId} {s t u : State}

/-! ### Flushed and released -/

theorem State.releaseLink_link (j : LinkId) (s : State) : (s.releaseLink j).link j = { s.link j with
    hold := { (s.link j).hold with paused := Bank.fill 4 none }
    fabricSide := ((s.releaseLink j).link j).fabricSide } := by
  have shape (l : List ClassId) (t : State) : (t.forEach (State.releaseClass j) l).link j = { t.link j with
      hold := { (t.link j).hold with paused := ((t.forEach (State.releaseClass j) l).link j).hold.paused }
      fabricSide := ((t.forEach (State.releaseClass j) l).link j).fabricSide } := by
    induction l generalizing t with
    | nil => rfl
    | cons k rest ih => rw [State.forEach_cons, ih, t.releaseClass_link j k]
  have paused := State.releaseLink_paused (j := j) (s := s)
  unfold State.releaseLink at paused ⊢
  rw [shape, paused]

/-- Link `j` has been flushed and every class of it released, from `s` to `t`. -/
structure LinkCleared (reason : DiscardReason) (j : LinkId) (s t : State) : Prop where
  link : t.link j = { s.link j with
    hold := { (s.link j).hold with paused := Bank.fill 4 none }
    park := ⟨Bank.fill 4 [], (t.link j).park.critical⟩
    counters := { (s.link j).counters with discards := (t.link j).counters.discards }
    fabricSide := (t.link j).fabricSide }
  critical : ∀ k, (t.link j).park.critical.get k
    = if (s.link j).park.fifos.get k = [] then (s.link j).park.critical.get k else false
  released : (s.link j).Released s.settings (t.link j)
  drained : Drained (s.flushRecords reason j) (discardsOf (s.flushRecords reason j)) (s.link j).park.occupancy
    (!(s.link j).park.isEmpty) s t

theorem linkCleared (reason : DiscardReason) (j : LinkId) (s : State) :
    LinkCleared reason j s ((s.flushLink reason j).releaseLink j) := by
  have flushed := linkFlushed_flushLink reason j s
  generalize s.flushLink reason j = u at flushed
  have link := u.releaseLink_link j
  have quiet := Drained.of_touches (touches_releaseLink (only_self j) u)
  have released := State.releaseLink_released (j := j) (s := u)
  rw [flushed.drained.settings] at released
  refine ⟨?_, fun k => ?_, flushed.released.trans released, ?_⟩
  · rw [link, flushed.rest, flushed.park]
  · rw [link]
    exact flushed.critical k
  · have both := flushed.drained.trans quiet
    rwa [List.append_nil, List.append_nil, Nat.add_zero, Bool.or_false] at both

/-- What is flushed and released stands as well where the link was changed before in what a flush does not read. -/
theorem LinkCleared.after {W : LinkId → Prop} {ps : List Part} (touched : Touches W ps s t)
    (h : LinkCleared reason j t u) (park : (t.link j).park = (s.link j).park := by rfl)
    (paused : (t.link j).hold.paused = (s.link j).hold.paused := by rfl)
    (fabric : (t.link j).fabricSide = (s.link j).fabricSide := by rfl)
    (quiet : [.counters, .slotA, .slotB, .raised, .poolFree, .poolLow, .settings, .now].all (· ∉ ps) := by decide) :
    (∀ k, (u.link j).park.critical.get k
      = if (s.link j).park.fifos.get k = [] then (s.link j).park.critical.get k else false)
    ∧ (s.link j).Released s.settings (u.link j)
    ∧ Drained (s.flushRecords reason j) (discardsOf (s.flushRecords reason j)) (s.link j).park.occupancy
      (!(s.link j).park.isEmpty) s u := by
  simp only [List.all_cons, List.all_nil, Bool.and_true, Bool.and_eq_true, decide_eq_true_eq] at quiet
  obtain ⟨counters, slotA, slotB, raised, free, low, settings, now⟩ := quiet
  have records : t.flushRecords reason j = s.flushRecords reason j := by
    rw [State.flushRecords, State.flushRecords, park, touched.now now]
  have drained := (Drained.of_touches touched counters slotA slotB raised free low settings).trans h.drained
  rw [records, park, List.nil_append, List.nil_append, Nat.zero_add, Bool.false_or] at drained
  refine ⟨fun k => ?_, ?_, drained⟩
  · rw [h.critical, park]
  · exact (Link.Released.of_same paused fabric).trans (touched.settings settings ▸ h.released)

theorem Link.Released.sent (h : (s.link j).Released s.settings (t.link j)) : ReleasesSent j s t :=
  ⟨h.told, h.silent⟩

/-! ### SHED (R115, R117) -/

/-- A hold given up: its service state and its timer. -/
abbrev HoldState.shed (h : HoldState) : HoldState := { h with service := .shed, holdTimer := none }

theorem State.shed_eq (j : LinkId) (s : State) :
    s.shed j = (((s.updHold j HoldState.shed).flushLink .expired j).releaseLink j) := rfl

/-- Link `j` has entered SHED, from `s` to `t`. -/
structure LinkShed (j : LinkId) (s t : State) : Prop where
  link : t.link j = { s.link j with
    hold := ⟨.shed, none, (s.link j).hold.lastLoss, Bank.fill 4 none⟩
    park := ⟨Bank.fill 4 [], (t.link j).park.critical⟩
    counters := { (s.link j).counters with discards := (t.link j).counters.discards }
    fabricSide := (t.link j).fabricSide }
  critical : ∀ k, (t.link j).park.critical.get k
    = if (s.link j).park.fifos.get k = [] then (s.link j).park.critical.get k else false
  released : (s.link j).Released s.settings (t.link j)
  drained : Drained (s.flushRecords .expired j) (discardsOf (s.flushRecords .expired j)) (s.link j).park.occupancy
    (!(s.link j).park.isEmpty) s t

theorem linkShed_shed (j : LinkId) (s : State) : LinkShed j s (s.shed j) := by
  rw [State.shed_eq]
  have touched := touches_updHold (only_self j) HoldState.shed s
  have link : (s.updHold j HoldState.shed).link j = { s.link j with hold := (s.link j).hold.shed } :=
    State.link_updHold_self ..
  generalize s.updHold j HoldState.shed = t at touched link
  have cleared := linkCleared .expired j t
  obtain ⟨critical, released, drained⟩ := cleared.after touched (by rw [link]) (by rw [link]) (by rw [link])
  exact ⟨by rw [cleared.link, link], critical, released, drained⟩

theorem LinkShed.flushed (h : LinkShed j s t) : Flushed .expired j s t where
  emptied k := by rw [h.link, Bank.get_fill]
  critical := h.critical
  pool := h.drained.pool
  poolLow := by
    rw [h.drained.poolLow]
    simp
  discarded := h.drained.discarded (s.flushRecords_link _ j)

/-! ### HOLD (R115, R116, R124) -/

/-- A hold begun. -/
abbrev HoldState.begun (m : Moment) (h : HoldState) : HoldState := { h with service := .hold, holdTimer := some m }

/-- Link `j` has entered HOLD, from `s` to `t`. -/
structure LinkHeld (holdOff : Nat) (j : LinkId) (s t : State) : Prop where
  link : t.link j = { s.link j with
    hold := ⟨.hold, some (s.now + holdOff * 3125000), (s.link j).hold.lastLoss, (t.link j).hold.paused⟩
    fabricSide := (t.link j).fabricSide }
  paused : ∀ k, (t.link j).hold.paused.get k
    = if s.settings.pauseOnHold = true ∧ s.settings.pausable.get k = true ∧ (s.link j).hold.paused.get k = none
      then some (s.refreshEnd j) else (s.link j).hold.paused.get k
  pausing : (s.link j).Pausing s.settings (t.link j)

theorem linkHeld_startHold (n : Nat) (j : LinkId) (s : State) : LinkHeld n j s (s.startHold j n) := by
  have link : (s.updHold j (HoldState.begun (s.inMs n))).link j
      = { s.link j with hold := (s.link j).hold.begun (s.inMs n) } := State.link_updHold_self ..
  have touched := touches_updHold (only_self j) (HoldState.begun (s.inMs n)) s
  have refresh : (s.updHold j (HoldState.begun (s.inMs n))).refreshEnd j = s.refreshEnd j := rfl
  change LinkHeld n j s (if s.settings.pauseOnHold = true then
    (s.updHold j (HoldState.begun (s.inMs n))).forEach (State.pauseIfPausable j) allClasses
    else s.updHold j (HoldState.begun (s.inMs n)))
  generalize s.updHold j (HoldState.begun (s.inMs n)) = t at link touched refresh
  have begun : (s.link j).Pausing s.settings (t.link j) := .of_same (by rw [link]) (by rw [link])
  by_cases on : s.settings.pauseOnHold = true
  · rw [if_pos on]
    obtain ⟨shape, paused⟩ := State.forEach_pauseIfPausable (j := j) (s := t) allClasses
    have pausing := State.forEach_pausing (j := j) (s := t) allClasses
    rw [touched.settings] at pausing paused
    refine ⟨?_, fun k => ?_, begun.trans pausing⟩
    · rw [shape, link]
      rfl
    · rw [paused, refresh, link]
      simp [mem_allClasses, on]
  · rw [if_neg on]
    exact ⟨by rw [link]; rfl, fun k => by rw [link]; simp [on], begun⟩

end

end Sys2Proof.Machine
end

section
/-! PROOFS. The loss path of one link (R107, R114, R115). -/

set_option Elab.async false

namespace Sys2Proof.Machine

section
variable {j : LinkId} {s t u : State}

/-! ### The service state (R115, R155) -/

/-- What the loss path reads of link `j` as it takes its service state, from `s` to `t`. -/
structure SameService (j : LinkId) (s t : State) : Prop where
  course : SameCourse j s t
  settings : t.settings = s.settings
  service : (t.link j).hold.service = (s.link j).hold.service
  paused : (t.link j).hold.paused = (s.link j).hold.paused
  park : (t.link j).park = (s.link j).park
  fabric : (t.link j).fabricSide = (s.link j).fabricSide
  discards : (t.link j).counters.discards = (s.link j).counters.discards

theorem SameService.of_link (course : SameCourse j s t) (settings : t.settings = s.settings)
    (link : t.link j = s.link j) : SameService j s t :=
  ⟨course, settings, by rw [link], by rw [link], by rw [link], by rw [link], by rw [link]⟩

theorem SameService.sheds (h : SameService j s t) : t.shedsAtLoss j ↔ s.shedsAtLoss j := by
  rw [State.shedsAtLoss, State.shedsAtLoss, h.service, h.course.set]

theorem SameService.refreshEnd (h : SameService j s t) : t.refreshEnd j = s.refreshEnd j := by
  rw [State.refreshEnd, State.refreshEnd, h.course.now, h.settings, h.course.layout]

theorem SameService.pausedAfterLoss (h : SameService j s t) (k : ClassId) : t.pausedAfterLoss j k = s.pausedAfterLoss j k := by
  simp only [State.pausedAfterLoss, h.service, h.paused, h.course.set, h.settings, h.refreshEnd]

theorem SameService.records (h : SameService j s t) (reason : DiscardReason) :
    t.flushRecords reason j = s.flushRecords reason j := by
  rw [State.flushRecords, State.flushRecords, h.park, h.course.now]

theorem LossPauses.of_same {v : State} (h : LossPauses j t u) (base : SameService j s t)
    (paused : (v.link j).hold.paused = (u.link j).hold.paused) (fabric : (v.link j).fabricSide = (u.link j).fabricSide)
    (park : (v.link j).park = (u.link j).park) (discards : (v.link j).counters.discards = (u.link j).counters.discards) :
    LossPauses j s v where
  paused k := by rw [paused, h.paused, base.pausedAfterLoss]
  pausing k free due mapped := by
    rw [← base.settings] at mapped ⊢
    rw [fabric]
    exact h.pausing k (base.paused ▸ free) (base.pausedAfterLoss k ▸ due) mapped
  releasing k due free mapped := by
    rw [← base.settings] at mapped ⊢
    rw [fabric]
    exact h.releasing k (base.paused ▸ due) (base.pausedAfterLoss k ▸ free) mapped
  silent same := by
    rw [fabric, ← base.fabric]
    refine h.silent fun k => ?_
    rw [base.settings, base.pausedAfterLoss, base.paused]
    exact same k
  shed sheds k := by
    rw [park, ← base.park]
    exact h.shed (base.sheds.mpr sheds) k
  kept stays := by
    rw [park, discards, ← base.park, ← base.discards]
    exact h.kept fun sheds => stays (base.sheds.mp sheds)

/-- Link `j`'s service has been lost, from `s` to `t`. -/
structure ServiceLost (j : LinkId) (s t : State) : Prop where
  service : (t.link j).hold.service = serviceAfterLoss (s.link j).hold.service (s.linkSet j).holdOff
  timer : (t.link j).hold.holdTimer
    = holdTimerAfterLoss s.now (s.link j).hold.service (s.linkSet j).holdOff (s.link j).hold.holdTimer
  meter : (t.link j).meter = match (s.link j).hold.service with
    | .pass | .replay => idleMeter
    | .hold | .shed | .off => (s.link j).meter
  pauses : LossPauses j s t
  link : t.link j = { s.link j with
    hold := { (t.link j).hold with lastLoss := (s.link j).hold.lastLoss }
    park := (t.link j).park
    meter := (t.link j).meter
    counters := { (s.link j).counters with discards := (t.link j).counters.discards }
    fabricSide := (t.link j).fabricSide }
  kept : (s.link j).fabricSide.Kept (t.link j).fabricSide
  drained : Drained (if s.shedsAtLoss j then s.flushRecords .expired j else [])
    (discardsOf (if s.shedsAtLoss j then s.flushRecords .expired j else []))
    (if s.shedsAtLoss j then (s.link j).park.occupancy else 0)
    (decide (s.shedsAtLoss j ∧ (s.link j).park.isEmpty = false)) s t

/-- Found in PASS or REPLAY, a link is shed at once or held, its meter stopped. -/
theorem State.loseService_serving (serving : (s.link j).hold.service = .pass ∨ (s.link j).hold.service = .replay) :
    s.loseService j = if (s.linkSet j).holdOff = 0 then (s.stopMeter j).shed j
      else (s.stopMeter j).startHold j (s.linkSet j).holdOff := by
  unfold State.loseService
  rcases serving with h | h <;> rw [h]

theorem State.loseService_resting (pass : (s.link j).hold.service ≠ .pass) (replay : (s.link j).hold.service ≠ .replay) :
    s.loseService j = s := by
  unfold State.loseService
  cases h : (s.link j).hold.service
  case pass => exact absurd h pass
  case replay => exact absurd h replay
  all_goals rfl

theorem serviceLost_loseService (j : LinkId) (s : State) : ServiceLost j s (s.loseService j) := by
  by_cases serving : (s.link j).hold.service = .pass ∨ (s.link j).hold.service = .replay
  · rw [State.loseService_serving serving]
    have touched := touches_updMeter (only_self j) (fun _ => stoppedMeter) s
    have link : (s.stopMeter j).link j = { s.link j with meter := stoppedMeter } := State.link_updLink_self ..
    have quiet := Drained.of_touches touched
    have now : (s.stopMeter j).now = s.now := touched.now
    have settings : (s.stopMeter j).settings = s.settings := touched.settings
    have refresh : (s.stopMeter j).refreshEnd j = s.refreshEnd j := rfl
    have records : (s.stopMeter j).flushRecords .expired j = s.flushRecords .expired j := by
      rw [State.flushRecords, State.flushRecords, link, now]
    change Drained [] [] 0 false s (s.stopMeter j) at quiet
    clear touched
    generalize s.stopMeter j = t at link quiet now settings refresh records
    by_cases off : (s.linkSet j).holdOff = 0
    · rw [if_pos off]
      have sheds : s.shedsAtLoss j := ⟨serving, off⟩
      have shed := linkShed_shed j t
      generalize t.shed j = u at shed
      have lost k : s.pausedAfterLoss j k = none := by
        unfold State.pausedAfterLoss
        rcases serving with h | h <;> rw [h] <;> exact if_pos off
      have drained := quiet.trans shed.drained
      have released : (s.link j).Released s.settings (u.link j) :=
        .trans (.of_same (m := t.link j) (by rw [link]) (by rw [link])) (settings ▸ shed.released)
      rw [List.nil_append, List.nil_append, Nat.zero_add, Bool.false_or, records, link] at drained
      refine ⟨?_, ?_, ?_, ⟨fun k => ?_, fun k free due => ?_, fun k due free => ?_, fun same => ?_, fun _ k => ?_,
        fun h => absurd sheds h⟩, ?_, released.kept, ?_⟩
      · rw [shed.link]
        rcases serving with h | h <;> rw [h] <;> simp [serviceAfterLoss, off]
      · rw [shed.link]
        rcases serving with h | h <;> rw [h] <;> simp [holdTimerAfterLoss, off]
      · rw [shed.link, link]
        rcases serving with h | h <;> rw [h] <;> rfl
      · rw [shed.link, lost, Bank.get_fill]
      · simp [lost] at due
      · exact released.told k due (by rw [shed.link, Bank.get_fill])
      · refine released.silent fun k => (same k).imp_right fun e => ?_
        rw [shed.link, Bank.get_fill, ← e, lost]
      · refine ⟨by rw [shed.link, Bank.get_fill], ?_⟩
        rw [shed.critical, link]
      · rw [shed.link, link]
      · rw [if_pos sheds, if_pos sheds]
        simpa [sheds] using drained
    · rw [if_neg off]
      have stays : ¬ s.shedsAtLoss j := fun h => off h.2
      have held := linkHeld_startHold (s.linkSet j).holdOff j t
      have same := (touches_startHold (only_self j) (s.linkSet j).holdOff t)
      have quiet := quiet.trans (Drained.of_touches same)
      generalize t.startHold j (s.linkSet j).holdOff = u at held quiet
      have lost k : s.pausedAfterLoss j k = (u.link j).hold.paused.get k := by
        rw [held.paused, settings, refresh, link]
        unfold State.pausedAfterLoss
        rcases serving with h | h <;> rw [h] <;> exact if_neg off
      have pausing : (s.link j).Pausing s.settings (u.link j) :=
        .trans (.of_same (m := t.link j) (by rw [link]) (by rw [link])) (settings ▸ held.pausing)
      refine ⟨?_, ?_, ?_, ⟨fun k => (lost k).symm, fun k free due mapped => ?_, fun k due free => ?_, fun same => ?_,
        fun h => absurd h stays, fun _ => ?_⟩, ?_, pausing.kept, ?_⟩
      · rw [held.link]
        rcases serving with h | h <;> rw [h] <;> simp [serviceAfterLoss, off]
      · rw [held.link, now]
        rcases serving with h | h <;> rw [h] <;> simp [holdTimerAfterLoss, off]
      · rw [held.link, link]
        rcases serving with h | h <;> rw [h] <;> rfl
      · exact pausing.told k free (lost k ▸ due) mapped
      · rcases pausing.rises k with e | ⟨e, _⟩
        · rw [lost, e] at free
          simp [free] at due
        · simp [e] at due
      · exact pausing.silent fun k => (same k).imp_right fun e => by rw [← lost, e]
      · rw [held.link, link]
        exact ⟨rfl, rfl⟩
      · rw [held.link, link]
      · rw [if_neg stays, if_neg stays]
        simpa [stays] using quiet
  · obtain ⟨pass, replay⟩ := not_or.mp serving
    rw [State.loseService_resting pass replay]
    have stays : ¬ s.shedsAtLoss j := fun h => serving h.1
    have lost k : s.pausedAfterLoss j k = (s.link j).hold.paused.get k := by
      unfold State.pausedAfterLoss
      cases h : (s.link j).hold.service
      case pass => exact absurd h pass
      case replay => exact absurd h replay
      all_goals rfl
    refine ⟨?_, ?_, ?_, ⟨fun k => (lost k).symm, fun k free due => ?_, fun k due free => ?_, fun _ => rfl,
      fun h => absurd h stays, fun _ => ⟨rfl, rfl⟩⟩, rfl, .refl _, ?_⟩
    · cases h : (s.link j).hold.service
      case pass => exact absurd h pass
      case replay => exact absurd h replay
      all_goals rfl
    · cases h : (s.link j).hold.service
      case pass => exact absurd h pass
      case replay => exact absurd h replay
      all_goals rfl
    · cases h : (s.link j).hold.service
      case pass => exact absurd h pass
      case replay => exact absurd h replay
      all_goals rfl
    · simp [lost, free] at due
    · simp [← lost, free] at due
    · rw [if_neg stays, if_neg stays]
      simpa [stays] using Drained.refl s

end

end Sys2Proof.Machine
end

section
/-! PROOFS. The loss path of one link: penalty, recovery state, service and what is told (R107, R114, R115). -/

set_option Elab.async false

namespace Sys2Proof.Machine

section
variable {j : LinkId} {s t u : State}

/-! ### The penalty (R107) -/

/-- The penalty that an increment leaves. -/
abbrev State.penalized (s : State) (j : LinkId) (n : Nat) : Nat := min s.settings.ceiling ((s.link j).penalty + n)

/-- An increment added to a link's penalty, and the flag that it may set. -/
structure Penalized (n : Nat) (j : LinkId) (s t : State) : Prop where
  link : t.link j = { s.link j with
    penalty := s.penalized j n
    suppressed := (s.link j).suppressed || decide (s.settings.suppressThreshold ≤ s.penalized j n) }
  drained : Drained [] (if decide (s.settings.suppressThreshold ≤ s.penalized j n) && !(s.link j).suppressed
    then [.event ⟨.suppressed, j.val, 0⟩] else []) 0 false s t

theorem penalized_addPenalty (n : Nat) (j : LinkId) (s : State) : Penalized n j s (s.addPenalty j n) := by
  unfold State.addPenalty raisedPenalty
  have touched := touches_setPenalty (only_self j) (fun _ => s.penalized j n) s
  have link : (s.updLink j fun l => { l with penalty := s.penalized j n }).link j
      = { s.link j with penalty := s.penalized j n } := State.link_updLink_self ..
  have quiet := Drained.of_touches touched
  change Penalized n j s (if (decide (s.settings.suppressThreshold ≤ s.penalized j n) && !(s.link j).suppressed) = true
    then ((s.updLink j fun l => { l with penalty := s.penalized j n }).updLink j fun l =>
      { l with suppressed := true }).raise .suppressed j.val
    else s.updLink j fun l => { l with penalty := s.penalized j n })
  generalize (s.updLink j fun l => { l with penalty := s.penalized j n }) = t at link quiet
  by_cases due : (decide (s.settings.suppressThreshold ≤ s.penalized j n) && !(s.link j).suppressed) = true
  · rw [if_pos due]
    have suppressed : (decide (s.settings.suppressThreshold ≤ s.penalized j n)) = true := (Bool.and_eq_true _ _ ▸ due).1
    constructor
    · change (t.updLink j fun l => { l with suppressed := true }).link j = _
      rw [State.link_updLink_self, link, suppressed, Bool.or_true]
    · rw [if_pos due]
      have set := Drained.of_touches (touches_setSuppressed (only_self j) true t)
      have told : Drained [] [.event ⟨.suppressed, j.val, 0⟩] 0 false (t.updLink j fun l => { l with suppressed := true })
          ((t.updLink j fun l => { l with suppressed := true }).raise .suppressed j.val) :=
        { Drained.refl (t.updLink j fun l => { l with suppressed := true }) with raised := rfl }
      exact (quiet.trans set).trans told
  · rw [if_neg due]
    constructor
    · rw [link]
      by_cases high : s.settings.suppressThreshold ≤ s.penalized j n
      · have already : (s.link j).suppressed = true := by simpa [high] using due
        simp [already]
      · simp [high]
    · rw [if_neg due]
      exact quiet

/-! ### The engine (R78, R114) -/

theorem LinkEngine.down_eq (e : LinkEngine) : e.down = { emptyEngine .down with
    epoch := e.epoch, measuredSkew := e.measuredSkew, lastFailure := e.lastFailure } := rfl

/-- The recovery state that a cause leaves (R114). -/
def LossCause.leads : LossCause → RecoveryState
  | .signal | .errors => .adapting
  | .gate | .removed | .restart | .none => .down

/-- Link `j`'s engine after a loss, from `s` to `t`. -/
structure EngineLost (cause : LossCause) (j : LinkId) (s t : State) : Prop where
  recovered : (t.link j).engine.recovery = cause.leads
  rested : cause.leads = .down → (t.link j).engine = { emptyEngine .down with
    epoch := (s.link j).engine.epoch
    measuredSkew := (s.link j).engine.measuredSkew
    lastFailure := (s.link j).engine.lastFailure }
  begun : cause.leads = .adapting → AttemptBegun none 0 (s.link j).engine.lastFailure j s t

theorem engineLost_lossRecovery (cause : LossCause) (j : LinkId) (s : State) :
    EngineLost cause j s (s.lossRecovery j cause)
    ∧ (s.lossRecovery j cause).link j = { s.link j with engine := ((s.lossRecovery j cause).link j).engine } := by
  have adapts : EngineLost cause j s (s.enterAdapting j none 0) ∨ cause.leads = .down := by
    cases cause
    case signal | errors =>
      have begun := s.enterAdapting_engine (j := j) none 0
      refine .inl ⟨?_, nofun, fun _ => begun⟩
      unfold AttemptBegun at begun
      rw [begun]
      rfl
    all_goals exact .inr rfl
  have downs : (s.toDown j).link j = { s.link j with engine := (s.link j).engine.down } :=
    State.link_updEngine_self ..
  have rests (leads : cause.leads = .down) : EngineLost cause j s (s.toDown j) := by
    refine ⟨?_, fun _ => ?_, fun h => by rw [leads] at h; nomatch h⟩
    · rw [downs, leads]
      rfl
    · rw [downs]
      rfl
  unfold State.lossRecovery
  cases cause
  case signal | errors => exact ⟨adapts.resolve_right nofun, s.enterAdapting_rest (j := j) none 0⟩
  all_goals exact ⟨rests rfl, by rw [downs]⟩

/-! ### The loss path (R114) -/

/-- The increment of a cause, added where it has one. -/
def State.addIncrement (j : LinkId) (increment : Option Nat) (s : State) : State :=
  match increment with
  | some n => s.addPenalty j n
  | none => s

/-- A loss marked on its link. -/
abbrev Link.lossMarked (cause : LossCause) (l : Link) : Link :=
  { l with
    hold := { l.hold with lastLoss := cause }
    counters := { l.counters with losses := saturate (l.counters.losses + 1) } }

theorem State.lossPath_eq (cause : LossCause) (j : LinkId) (s : State) : s.lossPath cause j
    = (((((s.updLink j (Link.lossMarked cause)).addIncrement j (s.settings.incrementOf cause)).lossRecovery j
      cause).loseService j).raise .linkLost j.val cause.code) := by
  unfold State.lossPath State.addIncrement
  cases s.settings.incrementOf cause <;> rfl

/-- The signals of a loss before its service is lost. -/
def State.suppressSignals (s : State) (cause : LossCause) (j : LinkId) : List Signal :=
  if s.suppressesAtLoss cause j && !(s.link j).suppressed then [.event ⟨.suppressed, j.val, 0⟩] else []

/-- A link whose loss is marked and whose penalty is raised. -/
theorem State.addIncrement_loss (cause : LossCause) (settings : t.settings = s.settings)
    (link : t.link j = (s.link j).lossMarked cause) :
    (t.addIncrement j (s.settings.incrementOf cause)).link j = { (s.link j).lossMarked cause with
      penalty := s.settings.penaltyAfter cause (s.link j).penalty
      suppressed := (s.link j).suppressed || s.suppressesAtLoss cause j }
    ∧ Drained [] (s.suppressSignals cause j) 0 false t (t.addIncrement j (s.settings.incrementOf cause)) := by
  have raised (n : Nat) (penalty : s.settings.penaltyAfter cause (s.link j).penalty
        = min s.settings.ceiling ((s.link j).penalty + n))
      (suppresses : s.suppressesAtLoss cause j = decide (s.settings.suppressThreshold
        ≤ min s.settings.ceiling ((s.link j).penalty + n))) :
      (t.addPenalty j n).link j = { (s.link j).lossMarked cause with
        penalty := s.settings.penaltyAfter cause (s.link j).penalty
        suppressed := (s.link j).suppressed || s.suppressesAtLoss cause j }
      ∧ Drained [] (s.suppressSignals cause j) 0 false t (t.addPenalty j n) := by
    obtain ⟨after, drained⟩ := penalized_addPenalty n j t
    have same : t.penalized j n = min s.settings.ceiling ((s.link j).penalty + n) := by
      rw [State.penalized, settings, link]
    rw [same, settings, link] at after drained
    rw [after, State.suppressSignals, penalty, suppresses]
    exact ⟨rfl, drained⟩
  cases cause
  case restart | none =>
    refine ⟨link.trans ?_, .refl t⟩
    simp [Settings.penaltyAfter, State.suppressesAtLoss]
  all_goals exact raised _ rfl rfl

/-- Link `j` has taken the loss path, from `s` to `t`, with all that it tells. -/
structure LinkLost (cause : LossCause) (j : LinkId) (s t : State) : Prop where
  lost : LostTo cause cause.leads j s t
  pauses : LossPauses j s t
  begun : cause.leads = .adapting → AttemptBegun none 0 (s.link j).engine.lastFailure j s t
  kept : (s.link j).fabricSide.Kept (t.link j).fabricSide
  drained : Drained (if s.shedsAtLoss j then s.flushRecords .expired j else []) (s.lossSignals cause j)
    (if s.shedsAtLoss j then (s.link j).park.occupancy else 0)
    (decide (s.shedsAtLoss j ∧ (s.link j).park.isEmpty = false)) s t
  link : t.link j = { s.link j with
    engine := (t.link j).engine
    penalty := (t.link j).penalty
    suppressed := (t.link j).suppressed
    hold := (t.link j).hold
    park := (t.link j).park
    meter := (t.link j).meter
    counters := { (s.link j).counters with
      losses := (t.link j).counters.losses, discards := (t.link j).counters.discards }
    fabricSide := (t.link j).fabricSide }

/-- A raised event is told beside what was drained. -/
theorem Drained.raise {r : List DiscardRecord} {g : List Signal} {b : Nat} {f : Bool} (h : Drained r g b f s t)
    (kind : EventKind) (source detail : Nat) :
    Drained r (g ++ [.event ⟨kind, source, detail⟩]) b f s (t.raise kind source detail) :=
  { h with
    raised := by
      change t.raised ++ [_] = _
      rw [h.raised, List.append_assoc] }

theorem linkLost_lossPath (cause : LossCause) (j : LinkId) (s : State) : LinkLost cause j s (s.lossPath cause j) := by
  rw [State.lossPath_eq]
  have link : (s.updLink j (Link.lossMarked cause)).link j = (s.link j).lossMarked cause := State.link_updLink_self ..
  have touched : Touches (Only j) [.hold, .serving, .counters] s (s.updLink j (Link.lossMarked cause)) :=
    touches_updLink s (only_self j) fun l p => by cases p <;> simp [Part.SameLink]
  have counted (i : LinkId) : ((s.updLink j (Link.lossMarked cause)).link i).counters.discards
      = (s.link i).counters.discards := by
    by_cases e : j = i
    · subst e
      rw [State.link_updLink_self]
    · rw [State.link_updLink_ne _ _ _ _ e]
  have quiet : Drained [] [] 0 false s (s.updLink j (Link.lossMarked cause)) :=
    .of_same counted touched.slotA touched.slotB touched.raised touched.poolFree touched.poolLow touched.settings
  generalize s.updLink j (Link.lossMarked cause) = a at link touched quiet
  obtain ⟨penalty, told⟩ := State.addIncrement_loss cause touched.settings link
  have raised : Touches (Only j) [.penalty, .suppressed, .raised] a (a.addIncrement j (s.settings.incrementOf cause)) := by
    unfold State.addIncrement
    split
    · exact touches_addPenalty (only_self j) _ a
    · exact .refl ..
  have quiet := quiet.trans told
  have touched := touched.trans raised (rs := [.hold, .serving, .counters, .penalty, .suppressed, .raised])
  clear link
  generalize a.addIncrement j (s.settings.incrementOf cause) = b at penalty quiet touched
  clear told raised
  obtain ⟨engine, rest⟩ := engineLost_lossRecovery cause j b
  have quiet := quiet.trans (Drained.of_touches (touches_lossRecovery (only_self j) cause b))
  have recovered := touches_lossRecovery (only_self j) cause b
  have touched := touched.trans recovered
    (rs := [.hold, .serving, .counters, .penalty, .suppressed, .raised, .engine, .attempt])
  have courseB : SameCourse j s b := .of_cages (by rw [← recovered.now, touched.now]) (by rw [← recovered.cages, touched.cages])
  generalize b.lossRecovery j cause = c at engine rest quiet touched recovered
  have course : SameCourse j s c := .of_cages touched.now touched.cages
  have base : SameService j s c := ⟨course, touched.settings, by rw [rest, penalty], by rw [rest, penalty],
    by rw [rest, penalty], by rw [rest, penalty], by rw [rest, penalty]⟩
  have serviced := serviceLost_loseService j c
  generalize c.loseService j = d at serviced
  have shown : (d.raise .linkLost j.val cause.code).link j = d.link j := rfl
  have epoch : (b.link j).engine = (s.link j).engine := by rw [penalty]
  have drained := (quiet.trans serviced.drained).raise .linkLost j.val cause.code
  have signals : [] ++ s.suppressSignals cause j ++ [] ++ discardsOf (if c.shedsAtLoss j then c.flushRecords .expired j else [])
      ++ [.event ⟨.linkLost, j.val, cause.code⟩] = s.lossSignals cause j := by
    unfold State.lossSignals State.suppressSignals
    simp only [base.sheds, base.records]
    split_ifs <;> simp [discardsOf]
  rw [signals] at drained
  simp only [List.nil_append, Nat.zero_add, Bool.false_or, base.sheds, base.records, base.park] at drained
  have here : (d.link j).engine = (c.link j).engine := by rw [serviced.link]
  refine ⟨⟨?_, ?_, ?_, ?_, ?_, ?_, ?_, fun leads => ?_, ?_, ?_⟩, ?_, fun leads => ?_, ?_, drained, ?_⟩
  · rw [shown, serviced.link, rest, penalty]
  · rw [shown, serviced.link, rest, penalty]
    rfl
  · rw [shown, here, engine.recovered]
  · rw [shown, serviced.service, base.service, course.set]
  · rw [shown, serviced.timer, base.service, course.set, course.now, rest, penalty]
  · rw [shown, serviced.link, rest, penalty]
  · rw [shown, serviced.link, rest, penalty]
  · rw [shown, here, engine.rested leads, epoch]
  · rw [shown, serviced.meter, base.service, rest, penalty] <;> (cases (s.link j).hold.service <;> rfl)
  · rw [drained.raised]
    simp [State.lossSignals]
  · exact serviced.pauses.of_same base (by rw [shown]) (by rw [shown]) (by rw [shown]) (by rw [shown])
  · have begun := engine.begun leads
    rw [epoch] at begun
    exact begun.of_course courseB (by rw [epoch]) (by rw [epoch]) (by rw [shown, here])
  · rw [shown, ← base.fabric]
    exact serviced.kept
  · rw [shown, serviced.link, rest, penalty]

end

end Sys2Proof.Machine
end

section
/-! PROOFS. Losses of several links, and a loss of lock (R88, R89, R114). -/

set_option Elab.async false

namespace Sys2Proof.Machine

/-! ### Discards of one thing after another -/

/-- Turns taken one after another hand on what each hands on, where each finds what it would find first. -/
theorem Drained.forEach {ι : Type} {f : ι → State → State} {records : ι → List DiscardRecord} {signals : ι → List Signal}
    {blocks : ι → Nat} {fell : ι → Bool} {found : ι → State → Prop}
    (turn : ∀ i t, found i t → Drained (records i) (signals i) (blocks i) (fell i) t (f i t))
    (other : ∀ i x t, i ≠ x → found i t → found i (f x t)) {l : List ι} (nodup : l.Nodup) {s : State}
    (start : ∀ i ∈ l, found i s) :
    Drained (l.flatMap records) (l.flatMap signals) (l.map blocks).sum (l.any fell) s (s.forEach f l) := by
  induction l generalizing s with
  | nil => exact .refl s
  | cons x rest ih =>
    obtain ⟨fresh, nodup⟩ := List.nodup_cons.mp nodup
    have first := turn x s (start x (by simp))
    have later := ih nodup (s := f x s) fun i hi => other i x s (fun e => fresh (e ▸ hi)) (start i (by simp [hi]))
    simpa only [List.flatMap_cons, List.map_cons, List.sum_cons, List.any_cons, State.forEach_cons] using first.trans later

theorem List.flatMap_ite {α β : Type} (p : α → Prop) [DecidablePred p] (f : α → List β) (l : List α) :
    (l.flatMap fun x => if p x then f x else []) = (l.filter fun x => p x).flatMap f := by
  induction l with
  | nil => rfl
  | cons x rest ih =>
    by_cases h : p x <;> simp [h, ih]

theorem List.sum_map_ite {α : Type} (p : α → Prop) [DecidablePred p] (f : α → Nat) (l : List α) :
    (l.map fun x => if p x then f x else 0).sum = ((l.filter fun x => p x).map f).sum := by
  induction l with
  | nil => rfl
  | cons x rest ih =>
    by_cases h : p x <;> simp [h, ih]

/-! ### Losses told -/

section
variable {j : LinkId} {s t : State} {cause : LossCause}

/-- What the loss paths of several links hand on, one after another. -/
abbrev Drained.losses (cause : LossCause) (js : List LinkId) (front : List Signal) (s t : State) : Prop :=
  Drained (js.flatMap fun j => if s.shedsAtLoss j then s.flushRecords .expired j else [])
    (front ++ js.flatMap (s.lossSignals cause)) (js.map fun j => if s.shedsAtLoss j then (s.link j).park.occupancy else 0).sum
    (js.any fun j => decide (s.shedsAtLoss j ∧ (s.link j).park.isEmpty = false)) s t

theorem State.lossSignals_discards (s : State) (cause : LossCause) (j : LinkId) :
    (s.lossSignals cause j).filter Signal.isDiscard
      = discardsOf (if s.shedsAtLoss j then s.flushRecords .expired j else []) := by
  unfold State.lossSignals
  rw [List.filter_append, List.filter_append]
  have first : (if s.suppressesAtLoss cause j && !(s.link j).suppressed
      then [Signal.event ⟨.suppressed, j.val, 0⟩] else []).filter Signal.isDiscard = [] := by
    split <;> rfl
  have last : [Signal.event ⟨.linkLost, j.val, cause.code⟩].filter Signal.isDiscard = [] := rfl
  rw [first, last, List.append_nil, List.nil_append]
  split
  · exact discardsOf_filter _
  · rfl

theorem lossesTold_of_drained {js : List LinkId} {front : List Signal} (quiet : front.filter Signal.isDiscard = [])
    (h : Drained.losses cause js front s t) : LossesTold cause js front s t where
  raised := by rw [h.raised, List.append_assoc]
  discarded := by
    rw [← List.flatMap_ite]
    refine h.allDiscarded ?_
    rw [List.filter_append, quiet, List.nil_append, List.filter_flatMap, discardsOf, List.map_flatMap]
    exact List.flatMap_congr fun j _ => s.lossSignals_discards cause j
  pool := by rw [h.pool, List.sum_map_ite]
  poolLow := by
    rw [h.poolLow]
    simp only [List.any_eq_true, decide_eq_true_eq]

theorem LinkLost.told (h : LinkLost cause j s t) : LossesTold cause [j] [] s t := by
  refine lossesTold_of_drained rfl ?_
  unfold Drained.losses
  simpa only [List.flatMap_cons, List.flatMap_nil, List.append_nil, List.nil_append, List.map_cons, List.map_nil,
    List.sum_cons, List.sum_nil, Nat.add_zero, List.any_cons, List.any_nil, Bool.or_false] using h.drained

/-! ### A loss of lock is confirmed (R89) -/

theorem lossConfirmed_confirmLoss (j : LinkId) (s : State) : LossConfirmed j s (s.confirmLoss j) := by
  have touched := touches_confirmLoss (only_self j) s
  refine ⟨fun early => ?_, fun late => ?_, fun i other => touched.elsewhere i other, touched.eq⟩
  · have failed : s.confirmLoss j = s.attemptFailed j .lockLost := by
      unfold State.confirmLoss
      rcases early with h | h <;> rw [h]
    rw [failed]
    exact ⟨attemptEnded_attemptFailed j _ s, State.attemptFailed_raised _, State.attemptFailed_rest _⟩
  · have lost : s.confirmLoss j = s.lossPath .signal j := by
      unfold State.confirmLoss
      rcases late with h | h | h <;> rw [h]
    rw [lost]
    have h := linkLost_lossPath .signal j s
    exact ⟨h.lost, h.pauses, h.told, h.begun rfl⟩

/-- An engine without some lock, with its timer unless it runs (R88). -/
theorem State.lockLost_updEngine (f : LinkEngine → LinkEngine)
    (timer : (f (s.link j).engine).lockLossTimer = (s.link j).engine.lockLossTimer) :
    (s.updEngine j f).lockLost j = if (s.link j).engine.lockLossTimer.isSome then s.updEngine j f
      else if s.settings.lockLossConfirmTime = 0 then (s.updEngine j f).confirmLoss j
      else s.updEngine j fun e => { f e with
        lockLossTimer := some (s.now + s.settings.lockLossConfirmTime * microsecond) } := by
  have read : ((s.updEngine j f).link j).engine.lockLossTimer = (s.link j).engine.lockLossTimer := by
    rw [State.link_updEngine_self]
    exact timer
  unfold State.lockLost
  rw [read, State.updEngine_updEngine]
  rfl

theorem exec_lossOfLock (what : LockLoss) : exec (.lossOfLock j what) s = .next (s.loseLock j what).settle := rfl

theorem State.loseLock_unwatched (what : LockLoss) (void : ¬ (s.link j).engine.recovery.watchesLock = true) :
    s.loseLock j what = s := by
  unfold State.loseLock
  exact if_pos (by simpa using void)

theorem State.loseLock_marker {n : LaneId} (watched : (s.link j).engine.recovery.watchesLock = true) :
    s.loseLock j (.marker n) = if (s.link j).engine.markerLock.get n then
      (s.updEngine j fun e => { e with markerLock := e.markerLock.set n false, fecLock := false }).lockLost j else s := by
  unfold State.loseLock
  exact if_neg (by simp [watched])

theorem State.loseLock_fec (watched : (s.link j).engine.recovery.watchesLock = true) :
    s.loseLock j .fec = if (s.link j).engine.fecLock then
      (s.updEngine j fun e => { e with fecLock := false }).lockLost j else s := by
  unfold State.loseLock
  exact if_neg (by simp [watched])

/-- A loss of a lock that is held: the timer starts, or runs, or the loss is confirmed at once (R88). -/
theorem lossOfLock_cases {what : LockLoss} {held : Bool} {f : LinkEngine → LinkEngine}
    (timer : (f (s.link j).engine).lockLossTimer = (s.link j).engine.lockLossTimer)
    (form : (s.link j).engine.recovery.watchesLock = true →
      s.loseLock j what = if held then (s.updEngine j f).lockLost j else s) :
    (¬ (s.link j).engine.recovery.watchesLock = true ∨ held = false → exec (.lossOfLock j what) s = .next s.settle)
    ∧ ((s.link j).engine.recovery.watchesLock = true → held = true → (s.link j).engine.lockLossTimer ≠ none →
      exec (.lossOfLock j what) s = .next (s.updEngine j f).settle)
    ∧ ((s.link j).engine.recovery.watchesLock = true → held = true → (s.link j).engine.lockLossTimer = none →
      0 < s.settings.lockLossConfirmTime → exec (.lossOfLock j what) s = .next (s.updEngine j fun e => { f e with
        lockLossTimer := some (s.now + s.settings.lockLossConfirmTime * 3125) }).settle)
    ∧ ((s.link j).engine.recovery.watchesLock = true → held = true → (s.link j).engine.lockLossTimer = none →
      s.settings.lockLossConfirmTime = 0 → ∃ u : State, exec (.lossOfLock j what) s = .next u.settle
        ∧ LossConfirmed j (s.updEngine j f) u) := by
  rw [exec_lossOfLock]
  have lost := State.lockLost_updEngine (j := j) (s := s) f timer
  refine ⟨fun void => ?_, fun watched isHeld runs => ?_, fun watched isHeld free later => ?_,
    fun watched isHeld free now => ⟨_, rfl, ?_⟩⟩
  · by_cases watched : (s.link j).engine.recovery.watchesLock = true
    · rw [form watched, void.resolve_left (not_not.mpr watched), if_neg Bool.false_ne_true]
    · rw [State.loseLock_unwatched what watched]
  · rw [form watched, if_pos isHeld, lost, if_pos (Option.isSome_iff_ne_none.mpr runs)]
  · rw [form watched, if_pos isHeld, lost, if_neg (by simp [free]), if_neg (Nat.pos_iff_ne_zero.mp later)]
    rfl
  · rw [form watched, if_pos isHeld, lost, if_neg (by simp [free]), if_pos now]
    exact lossConfirmed_confirmLoss j _

end

/-- Settles O39. -/
theorem lossOfLockIsConfirmed : Obligations.LossOfLockIsConfirmed := by
  intro j n s m l e watched confirm loses
  refine ⟨?_, ?_, fun stopped => ?_, fun runs _ => ⟨_, ?_, lossConfirmed_confirmLoss j _⟩⟩
  · exact lossOfLock_cases (j := j) (s := s) (what := .marker n) (held := e.markerLock.get n) rfl State.loseLock_marker
  · exact lossOfLock_cases (j := j) (s := s) (what := .fec) (held := e.fecLock) rfl State.loseLock_fec
  · show (s.onExpiry e.lockLossTimer _).answer = _
    rw [stopped]
    rfl
  · show (s.onExpiry e.lockLossTimer _).answer = _
    rw [runs]
    rfl

end Sys2Proof.Machine
end

section
/-! PROOFS. The end of a window (R92 to R98, R107). -/

set_option Elab.async false

namespace Sys2Proof.Machine

section
variable {j : LinkId} {s t u : State}

/-! ### The window counted (R93, R94) -/

/-- The runs and the marginal mark after a verdict. -/
theorem LinkEngine.countVerdict_eq (e : LinkEngine) (v : Verdict) : e.countVerdict v = { e with
    passRun := if v = .fail then 0 else min 255 (e.passRun + 1)
    failRun := if v = .fail then min 15 (e.failRun + 1) else 0
    cleanRun := if v = .pass then min 255 (e.cleanRun + 1) else 0
    marginal := if v = .marginal then true else if v = .fail then false else e.marginal } := by
  cases v <;> rfl

/-- The verdict of the window that link `j` is in. -/
def State.verdictAt (s : State) (j : LinkId) : Verdict × VerdictReason :=
  verdictOf (s.linkSet j) (s.link j).engine.codewords (s.link j).engine.corrected (s.link j).engine.uncorrectable

/-- The engine after its window has ended, before the verdict acts. -/
def State.windowedEngine (s : State) (j : LinkId) : LinkEngine :=
  let e := (s.link j).engine
  let v := s.verdictAt j
  { e with
    lastWindow := some ⟨e.codewords, e.corrected, e.uncorrectable, v.1, v.2⟩, codewords := 0, corrected := 0
    uncorrectable := 0, windowTimer := some (s.now + (s.linkSet j).windowLength * 3125000)
    passRun := if v.1 = .fail then 0 else min 255 (e.passRun + 1)
    failRun := if v.1 = .fail then min 15 (e.failRun + 1) else 0
    cleanRun := if v.1 = .pass then min 255 (e.cleanRun + 1) else 0
    marginal := if v.1 = .marginal then true else if v.1 = .fail then false else e.marginal }

/-- The state after link `j`'s window has ended, before the verdict acts. -/
def State.windowed (s : State) (j : LinkId) : State :=
  { s with links := s.links.set j { s.link j with engine := s.windowedEngine j }, raised := s.raised ++ [.windowEnd j] }

theorem State.windowEnd_eq (j : LinkId) (s : State) : s.windowEnd j = (s.windowed j).applyVerdict j (s.verdictAt j).1 := by
  unfold State.windowEnd
  simp only [LinkEngine.countVerdict_eq]
  rfl

theorem State.link_windowed (j : LinkId) (s : State) :
    (s.windowed j).link j = { s.link j with engine := s.windowedEngine j } := Bank.get_set_self ..

theorem State.link_windowed_ne {i : LinkId} (other : i ≠ j) : (s.windowed j).link i = s.link i :=
  Bank.get_set_ne _ _ _ _ (Ne.symm other)

theorem sameCourse_windowed (j : LinkId) (s : State) : SameCourse j s (s.windowed j) := .of_cages rfl rfl

/-! ### The verdict's branches (R95 to R98) -/

/-- The link is in an attempt that a window judges. -/
abbrev LinkEngine.tried (e : LinkEngine) : Prop :=
  e.recovery = .qualifying ∨ e.recovery = .peerHold ∨ e.recovery = .damped

/-- The fail run has reached its limit. -/
abbrev State.failing (s : State) (j : LinkId) : Prop :=
  (s.verdictAt j).1 = .fail ∧ (s.linkSet j).failRunLimit ≤ (s.windowedEngine j).failRun

/-- The pass run completes qualification. -/
abbrev State.qualified (s : State) (j : LinkId) : Prop :=
  (s.link j).engine.recovery = .qualifying ∧ (s.verdictAt j).1 ≠ .fail
    ∧ (s.linkSet j).passRunNeeded ≤ (s.windowedEngine j).passRun

/-- The clean run clears the degraded flag. -/
abbrev State.recovers (s : State) (j : LinkId) : Prop :=
  (s.link j).engine.recovery = .up ∧ (s.verdictAt j).1 = .pass ∧ (s.link j).engine.degraded = true
    ∧ (s.linkSet j).passRunNeeded ≤ (s.windowedEngine j).cleanRun

theorem State.windowEnd_form (j : LinkId) (s : State) : s.windowEnd j = match (s.link j).engine.recovery with
    | .qualifying => if s.failing j then (s.windowed j).qualFailed j
      else if (s.verdictAt j).1 ≠ .fail ∧ (s.linkSet j).passRunNeeded ≤ (s.windowedEngine j).passRun
        then (s.windowed j).completeQualification j else s.windowed j
    | .peerHold | .damped => if s.failing j then (s.windowed j).qualFailed j else s.windowed j
    | .up => if s.failing j then (s.windowed j).lossPath .errors j
      else if (s.verdictAt j).1 = .pass ∧ (s.link j).engine.degraded = true
        ∧ (s.linkSet j).passRunNeeded ≤ (s.windowedEngine j).cleanRun then (s.windowed j).clearDegraded j
      else s.windowed j
    | .inactive | .down | .adapting | .aligning | .failed => s.windowed j := by
  have recovery : (s.windowedEngine j).recovery = (s.link j).engine.recovery := rfl
  have degraded : (s.windowedEngine j).degraded = (s.link j).engine.degraded := rfl
  rw [State.windowEnd_eq]
  unfold State.applyVerdict
  simp only [State.link_windowed, (sameCourse_windowed j s).set, recovery, degraded, Bool.and_eq_true,
    decide_eq_true_eq, and_assoc] <;> rfl

theorem State.windowEnd_failing (tried : (s.link j).engine.tried) (failing : s.failing j) :
    s.windowEnd j = (s.windowed j).qualFailed j := by
  rw [State.windowEnd_form]
  rcases tried with h | h | h <;> rw [h] <;> exact if_pos failing

theorem State.windowEnd_qualified (done : s.qualified j) : s.windowEnd j = (s.windowed j).completeQualification j := by
  obtain ⟨recovery, verdict, run⟩ := done
  rw [State.windowEnd_form, recovery]
  exact (if_neg fun h => verdict h.1).trans (if_pos ⟨verdict, run⟩)

theorem State.windowEnd_errors (up : (s.link j).engine.recovery = .up) (failing : s.failing j) :
    s.windowEnd j = (s.windowed j).lossPath .errors j := by
  rw [State.windowEnd_form, up]
  exact if_pos failing

theorem State.windowEnd_recovers (cleared : s.recovers j) : s.windowEnd j = (s.windowed j).clearDegraded j := by
  obtain ⟨up, pass, degraded, run⟩ := cleared
  rw [State.windowEnd_form, up]
  exact (if_neg fun h => nomatch h.1.symm.trans pass).trans (if_pos ⟨pass, degraded, run⟩)

theorem State.windowEnd_else (attempt : ¬ ((s.link j).engine.tried ∧ s.failing j)) (done : ¬ s.qualified j)
    (lost : ¬ ((s.link j).engine.recovery = .up ∧ s.failing j)) (cleared : ¬ s.recovers j) :
    s.windowEnd j = s.windowed j := by
  rw [State.windowEnd_form]
  cases h : (s.link j).engine.recovery
  case qualifying =>
    exact (if_neg fun f => attempt ⟨.inl h, f⟩).trans (if_neg fun f => done ⟨h, f⟩)
  case peerHold => exact if_neg fun f => attempt ⟨.inr (.inl h), f⟩
  case damped => exact if_neg fun f => attempt ⟨.inr (.inr h), f⟩
  case up => exact (if_neg fun f => lost ⟨h, f⟩).trans (if_neg fun f => cleared ⟨h, f⟩)
  all_goals rfl

/-! ### A qualification failure (R96, R107) -/

theorem AttemptEnded.of_same {cause : FailureCause} (h : AttemptEnded cause j t u) (course : SameCourse j s t)
    (engine : (t.link j).engine = (s.link j).engine) : AttemptEnded cause j s u where
  fallback warm := by
    have begun := h.fallback (engine ▸ warm)
    rw [engine] at begun
    exact begun.of_course course (by rw [engine]) (by rw [engine]) rfl
  retried cold left := by
    have begun := h.retried (engine ▸ cold) (by rw [engine, course.set]; exact left)
    rw [engine] at begun
    exact begun.of_course course (by rw [engine]) (by rw [engine]) rfl
  failed cold gone := by
    rw [← engine]
    exact h.failed (engine ▸ cold) (by rw [engine, course.set]; exact gone)

theorem State.attemptEvents_of_same (course : SameCourse j s t) (engine : (t.link j).engine = (s.link j).engine) :
    t.attemptEvents j = s.attemptEvents j := by
  rw [State.attemptEvents, State.attemptEvents, engine, course.set]

/-- A failed qualification adds the loss increment, and then the attempt fails. -/
theorem State.qualFailed_spec (j : LinkId) (s : State) :
    AttemptEnded .qualFailed j s (s.qualFailed j)
    ∧ (s.qualFailed j).link j = { s.link j with
        engine := ((s.qualFailed j).link j).engine
        penalty := s.penalized j s.settings.lossIncrement
        suppressed := (s.link j).suppressed
          || decide (s.settings.suppressThreshold ≤ s.penalized j s.settings.lossIncrement) }
    ∧ (s.qualFailed j).raised = s.raised ++ [.event ⟨.qualFailed, j.val, 0⟩]
        ++ (if s.settings.suppressThreshold ≤ s.penalized j s.settings.lossIncrement ∧ (s.link j).suppressed = false
          then [.event ⟨.suppressed, j.val, 0⟩] else [])
        ++ s.attemptEvents j := by
  have penalized := penalized_addPenalty s.settings.lossIncrement j (s.raise .qualFailed j.val)
  have touched := touches_addPenalty (only_self j) s.settings.lossIncrement (s.raise .qualFailed j.val)
  have link : (s.raise .qualFailed j.val).link j = s.link j := rfl
  have settings : (s.raise .qualFailed j.val).settings = s.settings := rfl
  have told : (s.raise .qualFailed j.val).raised = s.raised ++ [.event ⟨.qualFailed, j.val, 0⟩] := rfl
  have course : SameCourse j s ((s.raise .qualFailed j.val).addPenalty j s.settings.lossIncrement) :=
    .of_cages touched.now touched.cages
  obtain ⟨shape, drained⟩ := penalized
  have raised := drained.raised
  rw [State.penalized, link, settings] at shape raised
  unfold State.qualFailed
  generalize (s.raise .qualFailed j.val).addPenalty j s.settings.lossIncrement = t at shape raised course
  have engine : (t.link j).engine = (s.link j).engine := by rw [shape]
  refine ⟨(attemptEnded_attemptFailed j _ t).of_same course engine, ?_, ?_⟩
  · rw [State.attemptFailed_rest, shape]
  · rw [State.attemptFailed_raised, raised, told, State.attemptEvents_of_same course engine]
    simp

/-! ### The degraded flag cleared (R98, R153) -/

/-- A meter whose link is degraded no more. -/
def Meter.recovered (line : Nat) (next : Moment) (m : Meter) : Meter :=
  if m.mode = .stopped then m
  else { m with
    degraded := false, rateCeiling := line, rampTimer := if m.rampTimer = none then some next else m.rampTimer }

theorem State.clearDegraded_eq (j : LinkId) (s : State) : s.clearDegraded j = { s with
    links := s.links.set j { s.link j with
      engine := { (s.link j).engine with degraded := false }
      meter := Meter.recovered ((s.linkLayout j).lanesPerLink * 6250) (s.inMs (s.linkSet j).rampStep)
        (s.link j).meter }
    raised := s.raised ++ [.event ⟨.degraded, j.val, 0⟩] } := by
  have form (m : Meter) (line : Nat) (next : Moment) : (if m.mode = .stopped then m
      else { m with degraded := false, rateCeiling := line, rampTimer := m.rampTimer.or (some next) })
      = m.recovered line next := by
    unfold Meter.recovered
    cases m.rampTimer <;> rfl
  have merged := State.updLink_updLink j (fun l => { l with engine := { l.engine with degraded := false } })
    (fun l => { l with
      meter := Meter.recovered ((s.linkLayout j).lanesPerLink * 6250) (s.inMs (s.linkSet j).rampStep) l.meter }) s
  unfold State.clearDegraded State.meterRecovered
  simp only [form]
  exact congrArg (fun t : State => { t with raised := s.raised ++ [Signal.event ⟨.degraded, j.val, 0⟩] }) merged

end

/-- Settles O41. -/
theorem windowEndAppliesVerdict : Obligations.WindowEndAppliesVerdict := by
  intro j s
  refine ⟨fun stopped => ?_, ?_⟩
  · exact congrArg (fun t => Host.Outcome.next (State.settle t)) (State.onExpiry_none (State.windowEnd j) s stopped)
  intro m runs now l e p v passes fails clean ended base tried failing done cleared
  have exec_eq : exec (.windowTimerExpiry j) s = .next (State.windowEnd j { s with now := max s.now m }).settle :=
    congrArg (fun t => Host.Outcome.next (State.settle t)) (State.onExpiry_some (State.windowEnd j) s runs)
  have at_ : base = State.windowed { s with now := max s.now m } j := rfl
  have others (u : State) (same : ∀ i, i ≠ j → u.link i = base.link i) (i : LinkId) (other : i ≠ j) :
      u.link i = s.link i := (same i other).trans (State.link_windowed_ne (s := { s with now := max s.now m }) other)
  have here : base.link j = { l with engine := ended } := State.link_windowed j { s with now := max s.now m }
  rw [exec_eq]
  refine ⟨fun attempt limit => ?_, fun complete => ?_, fun up limit => ?_, fun recovers => ?_,
    fun first second third fourth => ?_⟩
  · rw [State.windowEnd_failing (s := { s with now := max s.now m }) attempt limit, ← at_]
    have touched := touches_qualFailed (only_self j) base
    obtain ⟨ends, link, raised⟩ := State.qualFailed_spec j base
    have penalty : ((base.qualFailed j).link j).penalty = min s.settings.ceiling (l.penalty + s.settings.lossIncrement) := by
      rw [link, State.penalized, here]
    have events : base.attemptEvents j = s.attemptEvents j := by
      rw [State.attemptEvents, State.attemptEvents, here]
      rfl
    refine ⟨_, rfl, ends, penalty, ?_, ?_, ?_, others _ fun i other => touched.elsewhere i other, touched.eq⟩
    · rw [penalty, link, State.penalized, here]
    · rw [raised, penalty, State.penalized, here, events]
      simp [base, List.append_assoc]
    · rw [link, here]
  · rw [State.windowEnd_qualified (s := { s with now := max s.now m }) complete, ← at_]
  · rw [State.windowEnd_errors (s := { s with now := max s.now m }) up limit, ← at_]
    have touched := touches_lossPath (only_self j) .errors base
    have lost := linkLost_lossPath .errors j base
    have begun := lost.begun rfl
    rw [show (base.link j).engine.lastFailure = e.lastFailure by rw [here]] at begun
    exact ⟨_, rfl, lost.lost, lost.pauses, lost.told, begun, others _ fun i other => touched.elsewhere i other, touched.eq⟩
  · rw [State.windowEnd_recovers (s := { s with now := max s.now m }) recovers, ← at_, State.clearDegraded_eq]
    have links : base.links.set j { base.link j with
        engine := { (base.link j).engine with degraded := false }
        meter := Meter.recovered ((base.linkLayout j).lanesPerLink * 6250) (base.inMs (base.linkSet j).rampStep)
          (base.link j).meter }
        = s.links.set j { l with
          engine := { ended with degraded := false }
          meter := l.meter.recovered ((s.linkLayout j).lanesPerLink * 6250) (now + p.rampStep * 3125000) } := by
      rw [here]
      exact Bank.set_set ..
    have raised : base.raised ++ [.event ⟨.degraded, j.val, 0⟩]
        = s.raised ++ [Signal.windowEnd j, Signal.event ⟨.degraded, j.val, 0⟩] := List.append_assoc ..
    rw [links, raised]
    rfl
  · rw [State.windowEnd_else (s := { s with now := max s.now m }) first second third fourth, ← at_]

end Sys2Proof.Machine
end

section
/-! PROOFS. The links of a cage that leaves SERVING (R49, R114). -/

set_option Elab.async false

namespace Sys2Proof.Machine

section
variable {j : LinkId} {c : CageId} {s t u : State} {cause : LossCause}

/-! ### The loss path, found elsewhere as it would be found here -/

/-- What the loss path reads of link `j` is the same in two states, but for its egress toward the switch. -/
structure SameLoss (j : LinkId) (s t : State) : Prop where
  course : SameCourse j s t
  settings : t.settings = s.settings
  link : t.link j = { s.link j with fabricSide := (t.link j).fabricSide }

theorem SameLoss.of_link (course : SameCourse j s t) (settings : t.settings = s.settings) (link : t.link j = s.link j) :
    SameLoss j s t := ⟨course, settings, by rw [link]⟩

theorem SameLoss.sheds (h : SameLoss j s t) : t.shedsAtLoss j ↔ s.shedsAtLoss j := by
  rw [State.shedsAtLoss, State.shedsAtLoss, h.link, h.course.set]

theorem SameLoss.records (h : SameLoss j s t) (reason : DiscardReason) :
    t.flushRecords reason j = s.flushRecords reason j := by
  rw [State.flushRecords, State.flushRecords, h.link, h.course.now]

theorem SameLoss.suppresses (h : SameLoss j s t) (cause : LossCause) :
    t.suppressesAtLoss cause j = s.suppressesAtLoss cause j := by
  unfold State.suppressesAtLoss
  rw [h.link, h.settings]

theorem SameLoss.lossSignals (h : SameLoss j s t) (cause : LossCause) :
    t.lossSignals cause j = s.lossSignals cause j := by
  have suppressed : (t.link j).suppressed = (s.link j).suppressed := by rw [h.link]
  simp only [State.lossSignals, h.suppresses, h.sheds, h.records, suppressed]

theorem SameLoss.park (h : SameLoss j s t) : (t.link j).park = (s.link j).park := by
  rw [h.link]

theorem SameLoss.departs (h : SameLoss j s t) : t.departs c j ↔ s.departs c j := by
  rw [State.departs, State.departs, h.link, h.course.active]

theorem LostTo.of_same {v : State} {recovery : RecoveryState} (h : LostTo cause recovery j t u) (base : SameLoss j s t)
    (link : v.link j = u.link j) (told : .event ⟨.linkLost, j.val, cause.code⟩ ∈ v.raised) :
    LostTo cause recovery j s v where
  lastLoss := by rw [link, h.lastLoss]
  losses := by rw [link, h.losses, base.link]
  recovered := by rw [link, h.recovered]
  service := by rw [link, h.service, base.link, base.course.set]
  timer := by rw [link, h.timer, base.link, base.course.set, base.course.now]
  penalty := by rw [link, h.penalty, base.link, base.settings]
  suppressed := by rw [link, h.suppressed, base.suppresses, base.link]
  rested leads := by rw [link, h.rested leads, base.link]
  meter := by
    rw [link, h.meter, base.link]
  told := told

/-- What losses hand on, found elsewhere as here, after what was raised in between. -/
theorem Drained.losses.of_same {js : List LinkId} {front : List Signal} (h : Drained.losses cause js [] t u)
    (base : ∀ j ∈ js, SameLoss j s t) (before : Drained [] front 0 false s t) : Drained.losses cause js front s u := by
  have both := before.trans h
  unfold Drained.losses at h ⊢
  have records : (js.flatMap fun j => if t.shedsAtLoss j then t.flushRecords .expired j else [])
      = js.flatMap fun j => if s.shedsAtLoss j then s.flushRecords .expired j else [] :=
    List.flatMap_congr fun j hj => by simp only [(base j hj).sheds, (base j hj).records]
  have signals : js.flatMap (t.lossSignals cause) = js.flatMap (s.lossSignals cause) :=
    List.flatMap_congr fun j hj => (base j hj).lossSignals cause
  have blocks : (js.map fun j => if t.shedsAtLoss j then (t.link j).park.occupancy else 0)
      = js.map fun j => if s.shedsAtLoss j then (s.link j).park.occupancy else 0 :=
    List.map_congr_left fun j hj => by simp only [(base j hj).sheds, (base j hj).park]
  have fell : (js.any fun j => decide (t.shedsAtLoss j ∧ (t.link j).park.isEmpty = false))
      = js.any fun j => decide (s.shedsAtLoss j ∧ (s.link j).park.isEmpty = false) :=
    Bool.eq_iff_iff.mpr (by
      simp only [List.any_eq_true]
      exact exists_congr fun j => and_congr_right fun hj => by simp only [(base j hj).sheds, (base j hj).park])
  rw [records, signals, blocks, fell] at both
  simpa only [List.nil_append, Nat.zero_add, Bool.false_or] using both

/-! ### The departure (R49, R114) -/

/-- The links that take the loss path as their cage leaves SERVING, by ascending slot. -/
def State.leavers (s : State) (c : CageId) : List LinkId := (linksOf c).filter fun j => s.departs c j

theorem State.mem_leavers : j ∈ s.leavers c ↔ s.departs c j := by
  rw [State.leavers, List.mem_filter, mem_linksOf, decide_eq_true_eq]
  exact and_iff_right_of_imp fun h => h.1

theorem State.leavers_nodup (s : State) (c : CageId) : (s.leavers c).Nodup := (linksOf_nodup c).filter _

theorem RecoveryState.isWorking_iff_ne (r : RecoveryState) : r.isWorking = true ↔ r ≠ .inactive ∧ r ≠ .down := by
  cases r <;> simp [RecoveryState.isWorking]

theorem State.departs_iff : s.departs c j ↔ j ∈ s.activeLinks c ∧ (s.link j).engine.recovery.isWorking = true := by
  rw [State.mem_activeLinks, RecoveryState.isWorking_iff_ne, State.departs, and_assoc]

theorem State.leavers_eq (s : State) (c : CageId) :
    s.leavers c = (s.activeLinks c).filter fun j => (s.link j).engine.recovery.isWorking := by
  rw [State.leavers, State.activeLinks, List.filter_filter]
  refine List.filter_congr fun j hj => ?_
  rw [Bool.eq_iff_iff, decide_eq_true_eq, State.departs_iff, State.mem_activeLinks, Bool.and_eq_true]
  exact ⟨fun h => ⟨h.2, h.1.2⟩, fun h => ⟨⟨mem_linksOf.mp hj, h.2⟩, h.1⟩⟩

theorem State.departBy_leaves (leaves : (s.link j).engine.recovery.isWorking = true) :
    s.departBy cause j = s.lossPath cause j := if_pos leaves

theorem State.departBy_stays (stays : ¬ (s.link j).engine.recovery.isWorking = true) : s.departBy cause j = s :=
  if_neg stays

theorem SameLoss.of_touches (h : Touches (· ≠ j) lossParts s t) : SameLoss j s t :=
  .of_link (.of_cages h.now h.cages) h.settings (h.elsewhere j (by simp))

/-- What the links that leave hand on, one after another. -/
theorem State.departLinks_drained (cause : LossCause) (c : CageId) (s : State) :
    Drained.losses cause (s.leavers c) [] s (s.departLinks c cause) := by
  have turn (i : LinkId) (t : State) (found : Touches (· ≠ i) lossParts s t) :
      Drained (if (s.link i).engine.recovery.isWorking = true then
          if s.shedsAtLoss i then s.flushRecords .expired i else [] else [])
        (if (s.link i).engine.recovery.isWorking = true then s.lossSignals cause i else [])
        (if (s.link i).engine.recovery.isWorking = true then
          if s.shedsAtLoss i then (s.link i).park.occupancy else 0 else 0)
        (decide ((s.link i).engine.recovery.isWorking = true ∧ s.shedsAtLoss i ∧ (s.link i).park.isEmpty = false))
        t (t.departBy cause i) := by
    have same := SameLoss.of_touches found
    have link := found.elsewhere i (by simp)
    by_cases leaves : (s.link i).engine.recovery.isWorking = true
    · have drained := (linkLost_lossPath cause i t).drained
      rw [State.departBy_leaves (link ▸ leaves)]
      simp only [same.sheds, same.records, same.lossSignals, same.park] at drained
      simpa only [leaves, if_true, true_and] using drained
    · rw [State.departBy_stays (link ▸ leaves)]
      simpa only [leaves, if_false, false_and, decide_false, Bool.false_eq_true] using Drained.refl t
  have all := Drained.forEach (found := fun i t => Touches (· ≠ i) lossParts s t) turn
    (fun i x t ne found => found.trans ((touches_departBy (only_self x) cause t).widen fun k hk => hk ▸ Ne.symm ne))
    (s.activeLinks_nodup c) (s := s) fun i _ => .refl ..
  unfold Drained.losses
  rw [State.leavers_eq]
  have fell : ((s.activeLinks c).filter fun j => (s.link j).engine.recovery.isWorking).any
        (fun j => decide (s.shedsAtLoss j ∧ (s.link j).park.isEmpty = false))
      = (s.activeLinks c).any fun j => decide ((s.link j).engine.recovery.isWorking = true ∧ s.shedsAtLoss j
        ∧ (s.link j).park.isEmpty = false) := by
    rw [List.any_filter]
    congr 1
    funext j
    rw [Bool.eq_iff_iff]
    simp only [Bool.and_eq_true, decide_eq_true_eq]
  simp only [List.flatMap_ite, List.sum_map_ite, Bool.decide_eq_true] at all ⊢
  rw [fell, List.nil_append]
  exact all

/-- Of a link that leaves, what its loss path leaves. -/
theorem State.departLinks_lost (cause : LossCause) (departs : s.departs c j) :
    LostTo cause cause.leads j s (s.departLinks c cause) ∧ LossPauses j s (s.departLinks c cause)
    ∧ (s.departLinks c cause).link j = { s.link j with
        engine := ((s.departLinks c cause).link j).engine
        penalty := ((s.departLinks c cause).link j).penalty
        suppressed := ((s.departLinks c cause).link j).suppressed
        hold := ((s.departLinks c cause).link j).hold
        park := ((s.departLinks c cause).link j).park
        meter := ((s.departLinks c cause).link j).meter
        counters := { (s.link j).counters with
          losses := ((s.departLinks c cause).link j).counters.losses
          discards := ((s.departLinks c cause).link j).counters.discards }
        fabricSide := ((s.departLinks c cause).link j).fabricSide } := by
  obtain ⟨member, works⟩ := State.departs_iff.mp departs
  have told : .event ⟨.linkLost, j.val, cause.code⟩ ∈ (s.departLinks c cause).raised := by
    rw [(s.departLinks_drained cause c).raised, List.nil_append]
    refine List.mem_append_right _ (List.mem_flatMap.mpr ⟨j, State.mem_leavers.mpr departs, ?_⟩)
    simp [State.lossSignals]
  obtain ⟨t, found, result⟩ := State.forEach_at (f := State.departBy cause)
    (fun i t => touches_departBy (only_self i) cause t) (s.activeLinks_nodup c) member s
  have same := SameLoss.of_touches found
  have link := found.elsewhere j (by simp)
  rw [State.departBy_leaves (link ▸ works)] at result
  have lost := linkLost_lossPath cause j t
  have final : (s.departLinks c cause).link j = (t.lossPath cause j).link j := result
  refine ⟨lost.lost.of_same same final told, lost.pauses.of_same (.of_link same.course same.settings link)
    (by rw [final]) (by rw [final]) (by rw [final]) (by rw [final]), ?_⟩
  rw [final, ← link]
  exact lost.link

/-- The replies that wait for a link's egress stay as its cage's links leave. -/
theorem State.departLinks_kept (cause : LossCause) (c : CageId) (j : LinkId) (s : State) :
    (s.link j).fabricSide.Kept ((s.departLinks c cause).link j).fabricSide := by
  refine State.forEach_stays (f := State.departBy cause) (P := fun t => (s.link j).fabricSide.Kept (t.link j).fabricSide)
    (fun i t kept => kept.trans ?_) (.refl _)
  by_cases leaves : (t.link i).engine.recovery.isWorking = true
  · rw [State.departBy_leaves leaves]
    by_cases own : j = i
    · exact own ▸ (linkLost_lossPath cause j t).kept
    · rw [(touches_lossPath (only_self i) cause t).elsewhere j own]
      exact .refl _
  · rw [State.departBy_stays leaves]
    exact .refl _

/-- A link that does not leave is as it was. -/
theorem State.departLinks_stays (cause : LossCause) (stays : ¬ s.departs c j) :
    (s.departLinks c cause).link j = s.link j := by
  by_cases member : j ∈ s.activeLinks c
  · obtain ⟨t, found, result⟩ := State.forEach_at (f := State.departBy cause)
      (fun i t => touches_departBy (only_self i) cause t) (s.activeLinks_nodup c) member s
    have link := found.elsewhere j (by simp)
    rw [State.departBy_stays fun works => stays (State.departs_iff.mpr ⟨member, link ▸ works⟩), link] at result
    exact result
  · have touched : Touches (fun i => i ≠ j) lossParts s (s.departLinks c cause) :=
      .forEach fun i hi t => (touches_departBy (only_self i) cause t).widen fun k hk e => member (e ▸ hk ▸ hi)
    exact touched.elsewhere j (by simp)

end

end Sys2Proof.Machine
end

section
/-! PROOFS. The gate closed by a flag read, an alert and a request (R12, R40, R51 to R55, R114). -/

set_option Elab.async false

namespace Sys2Proof.Machine

section
variable {c : CageId} {mode : CageMode} {event : Option EventKind} {s : State}

/-! ### The gate (R53, R54) -/

theorem Transaction.void_eq (x : Transaction) :
    x.void = { x with discarded := decide (x.request.requester ≠ .passThrough) || x.discarded } := by
  unfold Transaction.void Transaction.isMonitors
  cases x.request.requester <;> simp

theorem sameLoss_shutGate (j : LinkId) : SameLoss j s (s.shutGate c mode event) := by
  have shape := State.shutGate_shape (s := s) (c := c) (mode := mode) (event := event)
  have links : (s.shutGate c mode event).link j = s.link j := by
    rw [shape]
    rfl
  have kept : ((s.shutGate c mode event).cage (cageOf j)).fabricLayout = (s.cage (cageOf j)).fabricLayout
      ∧ ((s.shutGate c mode event).cage (cageOf j)).workingCopy = (s.cage (cageOf j)).workingCopy := by
    by_cases own : cageOf j = c
    · rw [own, State.shutGate_cage]
      exact ⟨rfl, rfl⟩
    · rw [State.shutGate_cage_ne own]
      exact ⟨rfl, rfl⟩
  refine .of_link ⟨by rw [shape], kept.1, ?_⟩ (by rw [shape]) links
  rw [State.linkSet, State.linkSet, State.workingSet, State.workingSet, kept.2]

theorem Drained.of_raised {t : State} {g : List Signal} (h : t = { s with
    cages := t.cages, controllers := t.controllers, raised := s.raised ++ g }) : Drained [] g 0 false s t := by
  rw [h]
  exact { Drained.refl s with
    raised := rfl }

theorem gateSignals_quiet (c : CageId) (event : Option EventKind) :
    (gateSignals c event).filter Signal.isDiscard = [] := by
  cases event <;> rfl

/-- The gate of a cage has closed (R53, R54). -/
theorem gateClosed_closeGate (c : CageId) (mode : CageMode) (event : Option EventKind) (s : State) :
    GateClosed mode (gateSignals c event) c s (s.closeGate c mode event) := by
  rw [State.closeGate_eq]
  have same (j : LinkId) := sameLoss_shutGate (s := s) (c := c) (mode := mode) (event := event) j
  have shape := State.shutGate_shape (s := s) (c := c) (mode := mode) (event := event)
  have own := State.shutGate_cage (s := s) (c := c) (mode := mode) (event := event)
  have others (d : CageId) (ne : d ≠ c) := State.shutGate_cage_ne (s := s) (mode := mode) (event := event) ne
  have controller := State.shutGate_controller (s := s) (c := c) (mode := mode) (event := event)
  have controllers (k : ControllerId) (ne : k ≠ controllerOf c) :=
    State.shutGate_controller_ne (s := s) (mode := mode) (event := event) ne
  have marked : (s.controller (controllerOf c)).markFor c Transaction.void = { s.controller (controllerOf c) with
      inFlight := (s.controller (controllerOf c)).inFlight.map fun x : Transaction =>
        if x.request.cage = c then { x with discarded := decide (x.request.requester ≠ .passThrough) || x.discarded }
        else x } := by
    unfold Controller.markFor
    simp only [Transaction.void_eq]
  have before : Drained [] (gateSignals c event) 0 false s (s.shutGate c mode event) := .of_raised shape
  have links (j : LinkId) : (s.shutGate c mode event).link j = s.link j := by
    rw [shape]
    rfl
  rw [marked] at controller
  generalize s.shutGate c mode event = t at same shape own others controller controllers before links
  by_cases serving : (s.cage c).mode = .serving
  · rw [if_pos serving]
    have touched := touches_departLinks c .gate t
    have drained := (t.departLinks_drained .gate c).of_same
      (fun j _ => same j) before
    have leavers : t.leavers c = s.losers c := by
      rw [State.losers, if_pos serving, State.leavers]
      exact List.filter_congr fun j _ => by simp only [(same j).departs]
    have departs (j : LinkId) : t.departs c j ↔ s.departs c j := (same j).departs
    rw [leavers] at drained
    refine ⟨?_, ?_, fun _ j leaves => ?_, fun j stays => ?_, lossesTold_of_drained (gateSignals_quiet c event) drained,
      fun d ne => ?_, fun k ne => ?_, ?_⟩
    · rw [State.cage, touched.cages]
      exact own
    · rw [State.controller, touched.controllers]
      exact controller
    · obtain ⟨lost, pauses, _⟩ := State.departLinks_lost .gate ((departs j).mpr leaves)
      have told : .event ⟨.linkLost, j.val, LossCause.gate.code⟩ ∈ (t.departLinks c .gate).raised := lost.told
      exact ⟨lost.of_same (same j) rfl told,
        pauses.of_same (.of_link (same j).course (same j).settings (links j)) rfl rfl rfl rfl⟩
    · rw [State.departLinks_stays .gate fun h => (stays.resolve_left (not_not.mpr serving)) ((departs j).mp h), links]
    · rw [State.cage, touched.cages]
      exact others d ne
    · rw [State.controller, touched.controllers]
      exact controllers k ne
    · have final := touched.eq
      have cages := touched.cages
      have controllers := touched.controllers
      generalize t.departLinks c .gate = u at final cages controllers
      refine final.trans ?_
      rw [cages, controllers, shape]
      rfl
  · rw [if_neg serving]
    have losers : s.losers c = [] := if_neg serving
    refine ⟨own, controller, fun h => absurd h serving, fun j _ => links j, ?_, others, controllers, ?_⟩
    · rw [losers]
      refine lossesTold_of_drained (gateSignals_quiet c event) ?_
      unfold Drained.losses
      simpa using before
    · rw [shape]

end

/-! ### Flag bytes (R52) -/

theorem trips_iff (mask : Bank 4 Byte) (data : List Byte) :
    trips mask.items data = true ↔ ∃ n : Fin 4, data.getD n.val 0 &&& mask.get n ≠ 0 := by
  have spread : mask.items = [mask.get 0, mask.get 1, mask.get 2, mask.get 3] := Bank.items_eq mask
  have some_of (p : Fin 4 → Prop) : (∃ n, p n) ↔ p 0 ∨ p 1 ∨ p 2 ∨ p 3 := by
    simp only [Fin.exists_fin_succ, Fin.exists_fin_zero, or_false]
    rfl
  rw [trips, spread, some_of]
  rcases data with _ | ⟨a, _ | ⟨b, _ | ⟨c, _ | ⟨d, rest⟩⟩⟩⟩ <;> simp [BitVec.and_comm]

/-- Settles O30. -/
theorem gateRequestsCloseAndReopen : Obligations.GateRequestsCloseAndReopen := by
  intro q cage s idle
  refine ⟨fun high => ⟨?_, ?_⟩, fun c here => ?_⟩
  · exact serve_refused .badArgument [] [] rfl idle fun m => if_pos high
  · exact serve_refused .badArgument [] [] rfl idle fun m => if_pos high
  intro mode
  have low : ¬ 15 < cage.toNat := by
    have := c.isLt
    omega
  have named : indexOf 16 cage.toNat = c := by
    rw [← here]
    exact indexOf_val _ c rfl
  have onCage (f : CageId → State → State) (t : State) : State.onCage cage f t = f c t := by
    rw [State.onCage, if_neg low, named]
  refine ⟨fun closes => ⟨s.closeGate c .forcedOff none, ?_, gateClosed_closeGate c .forcedOff none s⟩, fun tripped => ?_,
    fun h1 h2 h3 => ?_, fun reopens => ⟨s.enterPowering c, ?_, poweringEntered_enterPowering c s⟩, fun h1 h2 => ?_⟩
  · refine serve_answered (State.closeGate c .forcedOff none) .done [] [] rfl idle
      (fun m t => State.closeGate_withEngine ..) fun m => ?_
    rw [onCage]
    unfold State.forceGateOff
    rcases closes with h | h <;> rw [show ((s.withEngine m).cage c).mode = _ from h]
  · refine serve_answered (State.updCage c fun m => { m with mode := .forcedOff }) .done [] [] rfl idle
      (fun _ _ => rfl) fun m => ?_
    rw [onCage]
    unfold State.forceGateOff
    rw [show ((s.withEngine m).cage c).mode = _ from tripped]
  · refine serve_refused .wrongState [] [] rfl idle fun m => ?_
    rw [onCage]
    unfold State.forceGateOff
    have same : ((s.withEngine m).cage c).mode = mode := rfl
    cases h : ((s.withEngine m).cage c).mode
    case powering => exact absurd (same ▸ h) h1
    case serving => exact absurd (same ▸ h) h2
    case tripped => exact absurd (same ▸ h) h3
    all_goals rfl
  · refine serve_answered (State.enterPowering c) .done [] [] rfl idle (fun m t => State.enterPowering_withEngine ..)
      fun m => ?_
    rw [onCage]
    unfold State.reArmGate
    rcases reopens with h | h <;> rw [show ((s.withEngine m).cage c).mode = _ from h]
  · refine serve_refused .wrongState [] [] rfl idle fun m => ?_
    rw [onCage]
    unfold State.reArmGate
    have same : ((s.withEngine m).cage c).mode = mode := rfl
    cases h : ((s.withEngine m).cage c).mode
    case tripped => exact absurd (same ▸ h) h1
    case forcedOff => exact absurd (same ▸ h) h2
    all_goals rfl

end Sys2Proof.Machine
end

section
/-! PROOFS. Alerts and flag reads (R51, R52). -/

set_option Elab.async false

namespace Sys2Proof.Machine

section
variable {c : CageId} {s : State} {data : List Byte}

theorem State.flagsEnded_done (serves : (s.cage c).mode = .powering ∨ (s.cage c).mode = .serving) :
    s.flagsEnded c .done data = if (s.cage c).alertEnable = true ∧ trips (s.workingSet c).tripMask.items data = true
      then (s.updCage c fun m => { m with flagRequested := false }).trip c
      else (s.updCage c fun m => { m with flagRequested := false }).flagsClear c := by
  have alert : ¬ (!(s.cage c).mode.servesAlerts) = true := by simp [(servesAlerts_iff _).mpr serves]
  have kept : ((s.updCage c fun m => { m with flagRequested := false }).cage c).alertEnable = (s.cage c).alertEnable := by
    rw [State.cage_updCage_self]
  have set : (s.updCage c fun m => { m with flagRequested := false }).workingSet c = s.workingSet c := by
    rw [State.workingSet, State.cage_updCage_self]
    rfl
  unfold State.flagsEnded
  rw [if_neg alert]
  simp only [kept, set, decide_true, Bool.true_and, Bool.and_eq_true]

end

/-- Settles O24. -/
theorem flagReadTrips : Obligations.FlagReadTrips := by
  intro k data s x visit flies read length monitor kept c present serves here page ended trips
  have cage : (s.endedWith k x x.pageRead).cage c = { s.cage c with lastPage := page } := State.endedWith_cage page
  have set : (s.endedWith k x x.pageRead).workingSet c = s.workingSet c := State.endedWith_workingSet page
  have mode : ((s.endedWith k x x.pageRead).cage c).mode = .powering ∨ ((s.endedWith k x x.pageRead).cage c).mode = .serving := by
    rw [cage]
    exact serves
  have onlyBus := State.onlyBusOf_endedWith (k := k) (s := s) (x := x) x.pageRead here
  have runs := exec_monitorRead flies read length monitor kept present
  have tripped : trips ↔ ((s.endedWith k x x.pageRead).cage c).alertEnable = true
      ∧ Machine.trips ((s.endedWith k x x.pageRead).workingSet c).tripMask.items data = true := by
    rw [cage, set, trips_iff]
  have ends : (s.endedWith k x x.pageRead).updCage c (fun m => { m with flagRequested := false }) = ended :=
    State.endedWith_updCage ..
  rw [State.monitorTakes, State.flagsEnded_done mode] at runs
  rw [runs]
  refine ⟨fun trip => ?_, fun quiet idle => ?_, fun quiet marked enabled => ?_⟩
  · rw [if_pos (tripped.mp trip), ends]
    exact ⟨_, rfl, gateClosed_closeGate c .tripped (some .gateTripped) ended⟩
  · rw [if_neg (mt tripped.mpr quiet), State.flagsClear_done (by rw [cage]; exact idle)]
    refine congrArg (fun t => Host.Outcome.next (State.settle (State.chooseBus k t))) ?_
    exact State.endedWith_updCage ..
  · rw [if_neg (mt tripped.mpr quiet),
      State.flagsClear_again (by rw [cage]; exact marked) (by rw [cage]; exact enabled)]
    obtain ⟨shape, touched, asks, holds⟩ := flagsAsked_readFlags c ((s.endedWith k x x.pageRead).flagsTaken c)
    have taken : ((s.endedWith k x x.pageRead).flagsTaken c).cage c = { s.cage c with
        lastPage := page, flagRequested := false, readAgain := false } := by
      rw [State.flagsTaken, State.cage_updCage_self, cage]
    have sameSet : ((s.endedWith k x x.pageRead).flagsTaken c).workingSet c = s.workingSet c := by
      rw [State.workingSet, taken]
      rfl
    rw [sameSet] at holds
    rw [taken] at asks
    have again := State.readFlags_chooseBus c ((s.endedWith k x x.pageRead).flagsTaken c)
    rw [here] at again
    exact ⟨_, congrArg (fun t => Host.Outcome.next (State.settle t)) again, shape,
      touched.after (onlyBus.trans (onlyBusOf_updCage ..)), asks, holds⟩

/-- Settles O29. -/
theorem alertsAskForFlags : Obligations.AlertsAskForFlags := by
  intro c s m p seen counts
  have cage : seen.cage c = { m with alert := true } := Bank.get_set_self ..
  have set : seen.workingSet c = p := by
    rw [State.workingSet, cage]
    rfl
  have runs (low : m.alert = false) : exec (.alertAssertion c) s = .next (seen.alerted c).settle := by
    show execAlertAssertion c s = _
    unfold execAlertAssertion
    exact if_neg (Bool.eq_false_iff.mp low)
  have enabled (h : counts) : (seen.cage c).alertEnable = true := by rw [cage]; exact h.1
  have serves (h : counts) : (seen.cage c).mode.servesAlerts = true := by
    rw [cage]
    exact (servesAlerts_iff _).mpr h.2
  refine ⟨?_, fun high => ?_, fun low void => ?_, fun low h short => ⟨_, runs low, ?_⟩, fun low h long asked => ?_,
    fun low h long idle => ⟨_, runs low, ?_⟩⟩
  · rfl
  · show execAlertAssertion c s = _
    unfold execAlertAssertion
    exact if_pos high
  · rw [runs low, State.alerted_off]
    rw [cage]
    by_cases on : m.alertEnable = true
    · refine .inr (Bool.eq_false_iff.mpr fun h => void ⟨on, (servesAlerts_iff _).mp h⟩)
    · exact .inl (Bool.eq_false_iff.mpr on)
  · rw [State.alerted_trips (enabled h) (serves h) (set ▸ short)]
    exact gateClosed_closeGate c .tripped (some .gateTripped) seen
  · rw [runs low, State.alerted_again (enabled h) (serves h) (set ▸ long) (by rw [cage]; exact asked)]
    refine congrArg (fun t => Host.Outcome.next (State.settle t)) ?_
    rw [State.updCage_eq, cage]
    exact congrArg (fun b : Bank 16 Cage => ({ s with cages := b } : State)) (Bank.set_set ..)
  · rw [State.alerted_asks (enabled h) (serves h) (set ▸ long) (by rw [cage]; exact idle)]
    obtain ⟨shape, touched, asks, holds⟩ := flagsAsked_readFlags c seen
    rw [cage] at asks
    rw [set] at holds
    exact ⟨shape, touched.after (onlyBusOf_updCage c (fun m => { m with alert := true }) s), asks, holds⟩

end Sys2Proof.Machine
end

section
/-! PROOFS. Holds that end, extend and are flushed, pauses refreshed, and the end of a replay (R117, R118, R125, R154,
R156). -/

set_option Elab.async false

namespace Sys2Proof.Machine

/-! ### The end of a replay (R154) -/

section
variable {j : LinkId} {s t : State}

theorem State.replayDone_iff : ((s.link j).meter.mode = .unmetered && (s.link j).park.isEmpty) = true ↔ s.replayDone j := by
  rw [Bool.and_eq_true, decide_eq_true_eq, ParkState.isEmpty_iff]

theorem State.endReplay_else (goes : ¬ s.replayDone j) : s.endReplay j = s :=
  if_neg (mt State.replayDone_iff.mp goes)

theorem State.endReplay_eq (done : s.replayDone j) :
    s.endReplay j = ((s.setService j .pass).releaseLink j).stopMeter j := if_pos (State.replayDone_iff.mpr done)

/-- A replay that ends (R154): the link in PASS, its meter STOPPED, every class released. -/
theorem State.endReplay_link (done : s.replayDone j) : (s.endReplay j).link j = { s.link j with
      hold := { (s.link j).hold with service := .pass, paused := Bank.fill 4 none }
      meter := idleMeter
      fabricSide := ((s.endReplay j).link j).fabricSide }
    ∧ (s.link j).Released s.settings ((s.endReplay j).link j) := by
  rw [State.endReplay_eq done]
  have passes : (s.setService j .pass).link j = { s.link j with hold := { (s.link j).hold with service := .pass } } :=
    State.link_updHold_self ..
  have settings : (s.setService j .pass).settings = s.settings := rfl
  generalize s.setService j .pass = a at passes settings
  have released := a.releaseLink_link j
  have sent := State.releaseLink_released (j := j) (s := a)
  generalize a.releaseLink j = b at released sent
  have stopped : (b.stopMeter j).link j = { b.link j with meter := idleMeter } := State.link_updLink_self ..
  refine ⟨by rw [stopped, released, passes], ?_⟩
  refine .trans (.trans (.of_same (m := a.link j) ?_ ?_) (settings ▸ sent)) (.of_same ?_ ?_)
  · rw [passes]
  · rw [passes]
  · rw [stopped]
  · rw [stopped]

theorem replayEnded_endReplay (done : s.replayDone j) : ReplayEnded j s (s.endReplay j) := by
  obtain ⟨link, released⟩ := State.endReplay_link done
  have touched := touches_endReplay (only_self j) s
  exact ⟨link, released.sent, fun i other => touched.elsewhere i other, touched.eq⟩

end

/-! ### FLUSH-PARK (R126, R141, R154, R156) -/

section
variable (j : LinkId) (s : State)

/-- What FLUSH-PARK leaves of its link, from `s` to `u`. -/
structure ParkFlushed (j : LinkId) (s u : State) : Prop where
  flushed : Flushed .flushed j s u
  releases : ReleasesSent j s u
  raised : u.raised = s.raised ++ discardsOf (s.flushRecords .flushed j)
  ends : (s.link j).meter.mode = .unmetered → (u.link j).hold.service = .pass ∧ (u.link j).meter = idleMeter
    ∧ ∀ k, (u.link j).hold.paused.get k = none
  goes : (s.link j).meter.mode ≠ .unmetered → (u.link j).hold.service = (s.link j).hold.service
    ∧ (u.link j).meter = (s.link j).meter ∧ ∀ k, (u.link j).hold.paused.get k
      = if (s.link j).park.fifos.get k ≠ [] ∧ s.levelReleases j then none else (s.link j).hold.paused.get k
  link : u.link j = { s.link j with
    hold := { (s.link j).hold with service := (u.link j).hold.service, paused := (u.link j).hold.paused }
    meter := (u.link j).meter
    park := (u.link j).park
    counters := { (s.link j).counters with discards := (u.link j).counters.discards }
    fabricSide := (u.link j).fabricSide }

variable {j s} in
/-- A flush of a replay that it ends. -/
theorem LinkFlushed.ended {t u : State} (flushed : LinkFlushed .flushed j s t) (unmetered : (s.link j).meter.mode = .unmetered)
    (link : u.link j = { t.link j with
      hold := { (t.link j).hold with service := .pass, paused := Bank.fill 4 none }
      meter := idleMeter
      fabricSide := (u.link j).fabricSide })
    (released : (t.link j).Released t.settings (u.link j)) (quiet : Drained [] [] 0 false t u) : ParkFlushed j s u := by
  have handed := flushed.drained.trans quiet
  rw [List.append_nil, List.append_nil, Nat.add_zero, Bool.or_false] at handed
  rw [flushed.drained.settings] at released
  have sent : (s.link j).Released s.settings (u.link j) := flushed.released.trans released
  have rest := flushed.rest
  refine ⟨⟨fun k => ?_, fun k => ?_, handed.pool, ?_, handed.discarded (s.flushRecords_link _ j)⟩, sent.sent,
    handed.raised, fun _ => ⟨by rw [link], by rw [link], fun k => by rw [link, Bank.get_fill]⟩,
    fun h => absurd unmetered h, ?_⟩
  · rw [link, flushed.fifos, Bank.get_fill]
  · rw [link]
    exact flushed.critical k
  · rw [handed.poolLow]
    simp
  · rw [link, rest]

theorem parkFlushed_flushPark : ParkFlushed j s ((s.flushLink .flushed j).endReplay j) := by
  have flushed := linkFlushed_flushLink .flushed j s
  generalize s.flushLink .flushed j = t at flushed
  have mode : (t.link j).meter.mode = (s.link j).meter.mode := by rw [flushed.rest]
  by_cases ends : (s.link j).meter.mode = .unmetered
  · obtain ⟨link, released⟩ := State.endReplay_link (s := t) (j := j) ⟨mode.trans ends, fun k => by
      rw [flushed.fifos, Bank.get_fill]⟩
    exact flushed.ended ends link released (.of_touches (touches_endReplay (only_self j) t))
  · rw [State.endReplay_else fun done => ends (mode.symm.trans done.1)]
    exact ⟨flushed.flushed, flushed.released.sent, flushed.drained.raised, fun h => absurd h ends,
      fun _ => ⟨by rw [flushed.rest], by rw [flushed.rest], flushed.paused⟩, by rw [flushed.rest]⟩

theorem touches_flushPark : Touches (Only j) (storeParts ++ [.serving, .meter]) s ((s.flushLink .flushed j).endReplay j) :=
  (touches_flushLink (only_self j) .flushed s).trans (touches_endReplay (only_self j) _)

end

/-! ### A hold expired (R117) -/

/-- What an expired hold leaves, from `s` to `u`. -/
structure HoldExpired (j : LinkId) (s u : State) : Prop where
  link : u.link j = { s.link j with
    hold := ⟨.shed, none, (s.link j).hold.lastLoss, Bank.fill 4 none⟩
    park := (u.link j).park
    counters := { (s.link j).counters with discards := (u.link j).counters.discards }
    fabricSide := (u.link j).fabricSide }
  flushed : Flushed .expired j s u
  releases : ReleasesSent j s u
  raised : u.raised = s.raised ++ (s.flushRecords .expired j).map (fun _ => .discard j)
    ++ [.event ⟨.holdExpired, j.val, 0⟩]
  others : ∀ i, i ≠ j → u.link i = s.link i
  shape : u = { s with
    links := u.links, poolFree := u.poolFree, poolLow := u.poolLow, slotA := u.slotA, slotB := u.slotB
    raised := u.raised }

theorem discardsOf_flushRecords (s : State) (reason : DiscardReason) (j : LinkId) :
    discardsOf (s.flushRecords reason j) = (s.flushRecords reason j).map fun _ => .discard j :=
  List.map_congr_left fun r hr => by rw [s.flushRecords_link reason j r hr]

theorem holdExpired_holdExpired (j : LinkId) (s : State) : HoldExpired j s (s.holdExpired j) := by
  have shed := linkShed_shed j s
  have touched := touches_shed (only_self j) s
  unfold State.holdExpired
  generalize s.shed j = t at shed touched
  have drained := shed.drained
  have flushed := shed.flushed
  refine ⟨?_, ⟨flushed.emptied, flushed.critical, flushed.pool, flushed.poolLow,
    ⟨flushed.discarded.counted, flushed.discarded.slotA, flushed.discarded.slotB⟩⟩,
    ⟨shed.released.told, shed.released.silent⟩,
    ?_, touched.elsewhere, ?_⟩
  · have link : (t.raise .holdExpired j.val).link j = t.link j := rfl
    rw [link, shed.link]
  · rw [← discardsOf_flushRecords]
    exact congrArg (· ++ [_]) drained.raised
  · exact (touched.trans (touches_raise .holdExpired j.val 0 t) (rs := storeParts ++ [.serving])).eq

/-! ### A pause refreshed (R125) -/

theorem State.pauseClass_spec (j : LinkId) (k : ClassId) (s : State) :
    (s.pauseClass j k).link j = { s.link j with
      hold := { (s.link j).hold with paused := (s.link j).hold.paused.set k (some (s.refreshEnd j)) }
      fabricSide := ((s.pauseClass j k).link j).fabricSide }
    ∧ (prioritiesOf s.settings k ≠ 0 →
        ((s.pauseClass j k).link j).fabricSide.holdsPause ⟨prioritiesOf s.settings k, s.settings.pauseTime⟩)
    ∧ (prioritiesOf s.settings k = 0 → ((s.pauseClass j k).link j).fabricSide = (s.link j).fabricSide) := by
  have link : (s.pauseClass j k).link j = { (s.sendClassPause j k s.settings.pauseTime).link j with
      hold := { (s.link j).hold with paused := (s.link j).hold.paused.set k (some (s.refreshEnd j)) } } := by
    unfold State.pauseClass
    rw [State.setPaused, State.link_updHold_self, s.sendClassPause_link j k, State.refreshEnd_eq]
  refine ⟨?_, fun mapped => ?_, fun unmapped => ?_⟩
  · rw [link, s.sendClassPause_link j k]
  · rw [link]
    exact s.sendClassPause_holds j k _ (PauseFrame.current_pausing ..) mapped
  · rw [link, s.sendClassPause_unmapped j k _ unmapped]

/-! ### Requests on a link -/

theorem State.onLink_high {link : Byte} (high : 63 < link.toNat) (f : LinkId → State → State) (s : State) :
    State.onLink link f s = s.respond .badArgument := if_pos high

theorem State.onLink_named {link : Byte} {j : LinkId} (named : j.val = link.toNat) (f : LinkId → State → State)
    (s : State) : State.onLink link f s = f j s := by
  have low : ¬ 63 < link.toNat := by
    have := j.isLt
    omega
  have index : indexOf 64 link.toNat = j := by
    rw [← named]
    exact indexOf_val _ j rfl
  rw [State.onLink, if_neg low, index]

/-- A hold lengthened by a time, to a limit (R118). -/
def State.lengthenBy (j : LinkId) (longest : Moment) (clamped : Bool) (time : Nat) (s : State) : State :=
  let limited := (s.link j).hold.holdTimer.any fun m => decide (longest < m + time)
  let t := s.updHold j fun h => { h with holdTimer := h.holdTimer.map fun m => min longest (m + time) }
  t.respond (if clamped || limited then .adjusted else .done) (if clamped then [1] else [])
    (t.timerBytes (t.link j).hold.holdTimer)

theorem State.lengthenHold_eq (j : LinkId) (n : Nat) (s : State) : s.lengthenHold j n
    = s.lengthenBy j (s.inMs holdLimit) (!inRange 1 holdLimit n) (clamp 1 holdLimit n * millisecond) := rfl

theorem State.timerBytes_updHold (j : LinkId) (f : HoldState → HoldState) (t : Timer) (s : State) :
    (s.updHold j f).timerBytes t = s.timerBytes t := by
  unfold State.timerBytes State.remainingMs
  rw [show (s.updHold j f).now = s.now from rfl]

/-- A running hold lengthened. -/
theorem State.lengthenBy_eq {j : LinkId} {m longest : Moment} {clamped : Prop} [Decidable clamped] {time : Nat} {s : State}
    (runs : (s.link j).hold.holdTimer = some m) : s.lengthenBy j longest (decide clamped) time
      = State.respond (if clamped ∨ longest < m + time then .adjusted else .done) (if clamped then [1] else [])
        (s.timerBytes (some (min longest (m + time))))
        { s with links := s.links.set j { s.link j with
          hold := { (s.link j).hold with holdTimer := some (min longest (m + time)) } } } := by
  have held : (s.updHold j fun h => { h with holdTimer := h.holdTimer.map fun m => min longest (m + time) })
      = { s with links := s.links.set j { s.link j with
          hold := { (s.link j).hold with holdTimer := some (min longest (m + time)) } } } := by
    have shape (h : HoldState) (timer : h.holdTimer = some m) : { h with
        holdTimer := h.holdTimer.map fun m => min longest (m + time) }
        = { h with holdTimer := some (min longest (m + time)) } := by
      rw [timer]
      rfl
    exact congrArg (fun h => ({ s with links := s.links.set j { s.link j with hold := h } } : State)) (shape _ runs)
  have read : ((s.updHold j fun h => { h with holdTimer := h.holdTimer.map fun m => min longest (m + time) }).link
      j).hold.holdTimer = some (min longest (m + time)) := by
    rw [State.link_updHold_self, runs]
    rfl
  unfold State.lengthenBy
  simp only [read, State.timerBytes_updHold, runs, Option.any_some, Bool.or_eq_true, decide_eq_true_eq]
  rw [held]

theorem inRange_decide (n : Nat) : (!inRange 1 holdLimit n) = decide (n < 1 ∨ 2000 < n) := by
  by_cases h : n < 1 ∨ 2000 < n
  · rw [decide_eq_true h, Bool.not_eq_true', Bool.eq_false_iff, ne_eq, inRange_iff]
    exact fun both => h.elim (fun low => by omega) fun high => Nat.not_lt_of_le both.2 high
  · obtain ⟨low, high⟩ := not_or.mp h
    rw [decide_eq_false h, Bool.not_eq_false']
    exact inRange_iff.mpr ⟨Nat.le_of_not_lt low, Nat.le_of_not_lt high⟩

/-! ### The requests (R118, R156) -/

section
variable {q : Requester} {link : Byte} {extension : BitVec 16} {j : LinkId} {s : State} (idle : s.engineIdle)
include idle

theorem exec_extendHold_high (high : 63 < link.toNat) :
    exec (.extendHold q link extension) s = .next (s.answered q 0x40 .badArgument [] []) :=
  serve_refused .badArgument [] [] rfl idle fun _ => State.onLink_high high ..

theorem exec_flushPark_high (high : 63 < link.toNat) :
    exec (.flushPark q link) s = .next (s.answered q 0x45 .badArgument [] []) :=
  serve_refused .badArgument [] [] rfl idle fun _ => State.onLink_high high ..

variable (named : j.val = link.toNat)
include named

theorem exec_extendHold {o : RequestOutcome} (form : ∀ m, (s.withEngine m).extendHold extension.toNat j
    = (s.withEngine m).respond o) : exec (.extendHold q link extension) s = .next (s.answered q 0x40 o [] []) :=
  serve_refused o [] [] rfl idle fun m => (State.onLink_named named ..).trans (form m)

theorem exec_extendHold_held {m : Moment} (holds : (s.link j).hold.service = .hold)
    (runs : (s.link j).hold.holdTimer = some m) (longest lengthened : Moment)
    (far : s.now + 2000 * 3125000 = longest) (longer : m + max 1 (min 2000 extension.toNat) * 3125000 = lengthened) :
    exec (.extendHold q link extension) s = .next (({ s with
      links := s.links.set j { s.link j with
        hold := { (s.link j).hold with holdTimer := some (min longest lengthened) } } } : State).answered q 0x40
      (if (extension.toNat < 1 ∨ 2000 < extension.toNat) ∨ longest < lengthened then .adjusted else .done)
      (if extension.toNat < 1 ∨ 2000 < extension.toNat then [1] else [])
      (s.timerBytes (some (min longest lengthened)))) := by
  have limit (t : State) (now : t.now = s.now) : t.inMs holdLimit = longest := by
    rw [← far, ← now]
    rfl
  have time : m + clamp 1 holdLimit extension.toNat * millisecond = lengthened := by
    rw [← longer, millisecond, clamp, holdLimit]
  refine serve_answered (State.updHold j fun h => { h with holdTimer := some (min longest lengthened) }) _ _ _ rfl idle
    (fun _ _ => rfl) fun e => ?_
  have service : ((s.withEngine e).link j).hold.service = .hold := holds
  have timer : ((s.withEngine e).link j).hold.holdTimer = some m := runs
  have bytes (t : Timer) : (s.withEngine e).timerBytes t = s.timerBytes t := by
    rw [State.timerBytes, State.timerBytes, State.remainingMs, State.remainingMs, State.withEngine_now]
  rw [State.onLink_named named]
  unfold State.extendHold
  rw [service]
  show State.lengthenHold j extension.toNat (s.withEngine e) = _
  rw [State.lengthenHold_eq, limit (s.withEngine e) rfl, inRange_decide, State.lengthenBy_eq timer, time, bytes]
  rfl

theorem exec_flushPark : exec (.flushPark q link) s = .next (((s.flushLink .flushed j).endReplay j).answered q 0x45
    .done [] (bytesOf 2 (s.link j).park.frames ++ bytesOf 2 (s.link j).park.occupancy)) := by
  refine serve_answered (fun t => (t.flushLink .flushed j).endReplay j) .done [] _ rfl idle (fun m t => ?_) fun m => ?_
  · rw [State.flushLink_withEngine, State.endReplay_withEngine]
  · rw [State.onLink_named named]
    rfl

end

/-- Settles O45. -/
theorem holdsEndExtendAndFlush : Obligations.HoldsEndExtendAndFlush := by
  refine ⟨fun j s => ⟨fun stopped => ?_, fun m runs => ?_⟩, fun j k s => ⟨fun stopped => ?_, fun m runs => ?_⟩,
    fun q link extension s idle => ⟨fun high => ⟨?_, ?_⟩, fun j named => ?_⟩⟩
  · exact congrArg (fun t => Host.Outcome.next (State.settle t)) (State.onExpiry_none (State.holdExpired j) s stopped)
  · have step : exec (.holdTimerExpiry j) s = .next (State.holdExpired j { s with now := max s.now m }).settle :=
      congrArg (fun t => Host.Outcome.next (State.settle t)) (State.onExpiry_some (State.holdExpired j) s runs)
    have expired := holdExpired_holdExpired j { s with now := max s.now m }
    exact ⟨_, step, expired.link, ⟨expired.flushed, expired.releases, expired.raised⟩, expired.others, expired.shape⟩
  · exact congrArg (fun t => Host.Outcome.next (State.settle t)) (State.onExpiry_none (State.pauseClass j k) s stopped)
  · have step : exec (.pauseRefreshExpiry j k) s = .next (State.pauseClass j k { s with now := max s.now m }).settle :=
      congrArg (fun t => Host.Outcome.next (State.settle t)) (State.onExpiry_some (State.pauseClass j k) s runs)
    have touched := touches_pauseClass (only_self j) k { s with now := max s.now m }
    obtain ⟨link, mapped, unmapped⟩ := State.pauseClass_spec j k { s with now := max s.now m }
    exact ⟨_, step, touched.eq, touched.elsewhere, link, mapped, unmapped⟩
  · exact exec_extendHold_high idle high
  · exact exec_flushPark_high idle high
  intro l n clamped longest
  refine ⟨fun m holds runs => exec_extendHold_held idle named holds runs longest _ rfl rfl,
    fun sheds => exec_extendHold idle named fun m => ?_, fun notHold notShed => exec_extendHold idle named fun m => ?_,
    ⟨_, exec_flushPark idle named, ?_⟩⟩
  · unfold State.extendHold
    rw [show ((s.withEngine m).link j).hold.service = _ from sheds]
  · have same : ((s.withEngine m).link j).hold.service = l.hold.service := rfl
    unfold State.extendHold
    cases h : ((s.withEngine m).link j).hold.service
    case hold => exact absurd (same ▸ h) notHold
    case shed => exact absurd (same ▸ h) notShed
    all_goals rfl
  · have flushed := parkFlushed_flushPark j s
    have touched := touches_flushPark j s
    generalize (s.flushLink .flushed j).endReplay j = u at flushed touched
    refine ⟨flushed.flushed, flushed.releases, ?_, flushed.ends, flushed.goes, flushed.link,
      fun i other => touched.elsewhere i other, touched.eq⟩
    rw [flushed.raised, discardsOf_flushRecords]

end Sys2Proof.Machine
end

section
/-! PROOFS. A new fabric layout (R44, R77). -/

set_option Elab.async false

namespace Sys2Proof.Machine

section
variable {j : LinkId} {s t u : State}

/-! ### Flushes of several links -/

/-- What flushes of the links `js`, one after another, hand on. -/
abbrev Drained.flushes (reason : DiscardReason) (js : List LinkId) (s t : State) : Prop :=
  Drained (js.flatMap (s.flushRecords reason)) (discardsOf (js.flatMap (s.flushRecords reason)))
    (js.map fun j => (s.link j).park.occupancy).sum (js.any fun j => !(s.link j).park.isEmpty) s t

theorem Drained.flushes.told {reason : DiscardReason} {js : List LinkId} (h : Drained.flushes reason js s t) :
    AllDiscarded (js.flatMap (s.flushRecords reason)) s t :=
  Drained.allDiscarded h (discardsOf_filter _)

theorem Drained.flushes.poolLow {reason : DiscardReason} {js : List LinkId} (h : Drained.flushes reason js s t) :
    t.poolLow = if (∃ j ∈ js, (s.link j).park.isEmpty = false) ∧ s.settings.poolLowMark ≤ t.poolFree then false
      else s.poolLow := by
  rw [Drained.poolLow h]
  simp only [List.any_eq_true, Bool.not_eq_true']

/-- What flushes hand on is what they would where their links stand as they do. -/
theorem Drained.flushes.of_same {reason : DiscardReason} {js : List LinkId} (h : Drained.flushes reason js t u)
    (links : ∀ j, t.link j = s.link j) (now : t.now = s.now) (before : Drained [] [] 0 false s t) :
    Drained.flushes reason js s u := by
  have both := before.trans h
  have records : js.flatMap (t.flushRecords reason) = js.flatMap (s.flushRecords reason) :=
    List.flatMap_congr fun j _ => State.flushRecords_of_same (links j) now reason
  unfold Drained.flushes
  simpa only [records, links, List.nil_append, Nat.zero_add, Bool.false_or] using both

/-- Turns of which some flush their link and the others hand nothing on. -/
theorem Drained.flushes.forEach {reason : DiscardReason} {f : LinkId → State → State} {p : LinkId → Prop} [DecidablePred p]
    {ps : List Part} (touched : ∀ i t, Touches (Only i) ps t (f i t)) (now : .now ∉ ps)
    (turn : ∀ i t, p i → Drained (t.flushRecords reason i) (discardsOf (t.flushRecords reason i))
      (t.link i).park.occupancy (!(t.link i).park.isEmpty) t (f i t))
    (other : ∀ i t, ¬ p i → Drained [] [] 0 false t (f i t)) {l : List LinkId} (nodup : l.Nodup) (s : State) :
    Drained.flushes reason (l.filter fun j => p j) s (s.forEach f l) := by
  have all := Drained.forEach (f := f) (found := fun i t => Touches (· ≠ i) ps s t)
    (records := fun i => if p i then s.flushRecords reason i else [])
    (signals := fun i => discardsOf (if p i then s.flushRecords reason i else []))
    (blocks := fun i => if p i then (s.link i).park.occupancy else 0)
    (fell := fun i => decide (p i) && !(s.link i).park.isEmpty)
    (fun i t found => ?_)
    (fun i x t ne found => found.trans ((touched x t).widen fun k hk => hk ▸ Ne.symm ne) (List.Subset.refl _)
      (List.Subset.refl _)) nodup (s := s) fun i _ => .refl ..
  · unfold Drained.flushes
    have signals : (l.flatMap fun i => discardsOf (if p i then s.flushRecords reason i else []))
        = discardsOf ((l.filter fun j => p j).flatMap (s.flushRecords reason)) := by
      rw [← List.flatMap_ite, discardsOf, List.map_flatMap]
    have fell : ((l.filter fun j => p j).any fun j => !(s.link j).park.isEmpty)
        = l.any fun i => decide (p i) && !(s.link i).park.isEmpty := by
      rw [List.any_filter]
    rw [signals, List.flatMap_ite, List.sum_map_ite, ← fell] at all
    exact all
  · have link := found.elsewhere i (by simp)
    by_cases h : p i
    · have drained := turn i t h
      rw [State.flushRecords_of_same link (found.now now), link] at drained
      simpa only [h, if_true, decide_true, Bool.true_and] using drained
    · simpa only [h, if_false, decide_false, Bool.false_and, discardsOf, List.map_nil] using other i t h

/-! ### One slot (R77) -/

theorem cageOf_linkOf (c : CageId) (k : SlotId) : cageOf (linkOf c k) = c := by
  apply Fin.ext
  simp only [cageOf, linkOf]
  have := k.isLt
  omega

theorem slotOf_linkOf (c : CageId) (k : SlotId) : slotOf (linkOf c k) = k := by
  apply Fin.ext
  simp only [slotOf, linkOf]
  have := k.isLt
  omega

/-- A slot that becomes unused gives up its attempt and its hold. -/
abbrev Link.unused (l : Link) : Link :=
  { l with
    engine := { l.engine.down with recovery := .inactive }
    hold := { l.hold with service := .off, holdTimer := none } }

theorem State.slotUnused_eq (j : LinkId) (s : State) :
    s.slotUnused j = (((s.updLink j Link.unused).flushLink .flushed j).releaseLink j) := rfl

/-- Link `j`'s slot has become unused, from `s` to `t`. -/
structure SlotUnused (j : LinkId) (s t : State) : Prop where
  link : t.link j = { s.link j with
    engine := { emptyEngine .inactive with
      epoch := (s.link j).engine.epoch
      measuredSkew := (s.link j).engine.measuredSkew
      lastFailure := (s.link j).engine.lastFailure }
    hold := { (s.link j).hold with service := .off, holdTimer := none, paused := Bank.fill 4 none }
    park := ⟨Bank.fill 4 [], (t.link j).park.critical⟩
    counters := { (s.link j).counters with discards := (t.link j).counters.discards }
    fabricSide := (t.link j).fabricSide }
  critical : ∀ n, (t.link j).park.critical.get n
    = if (s.link j).park.fifos.get n = [] then (s.link j).park.critical.get n else false
  released : (s.link j).Released s.settings (t.link j)
  drained : Drained (s.flushRecords .flushed j) (discardsOf (s.flushRecords .flushed j)) (s.link j).park.occupancy
    (!(s.link j).park.isEmpty) s t

theorem slotUnused_slotUnused (j : LinkId) (s : State) : SlotUnused j s (s.slotUnused j) := by
  rw [State.slotUnused_eq]
  have touched : Touches (Only j) [.engine, .attempt, .hold, .serving] s (s.updLink j Link.unused) :=
    touches_updLink s (only_self j) fun l p => by cases p <;> simp [Part.SameLink]
  have link : (s.updLink j Link.unused).link j = (s.link j).unused := State.link_updLink_self ..
  generalize s.updLink j Link.unused = t at touched link
  have cleared := linkCleared .flushed j t
  obtain ⟨critical, released, drained⟩ := cleared.after touched (by rw [link]) (by rw [link]) (by rw [link])
  generalize (t.flushLink .flushed j).releaseLink j = u at cleared critical released drained
  exact ⟨by rw [cleared.link, link]; rfl, critical, released, drained⟩

theorem State.relayout_unused {old new : Layout} (before : old.uses (slotOf j) = true) (after : new.uses (slotOf j) = false)
    (s : State) : s.relayout old new j = s.slotUnused j := by
  unfold State.relayout
  rw [before, after]

theorem State.relayout_used {old new : Layout} (before : old.uses (slotOf j) = false) (after : new.uses (slotOf j) = true)
    (s : State) : s.relayout old new j = s.slotUsed j := by
  unfold State.relayout
  rw [before, after]

theorem State.relayout_same {old new : Layout} (same : old.uses (slotOf j) = new.uses (slotOf j))
    (s : State) : s.relayout old new j = s := by
  unfold State.relayout
  rw [same]
  cases new.uses (slotOf j) <;> rfl

theorem State.slotUsed_link (j : LinkId) (s : State) : (s.slotUsed j).link j = { s.link j with
    engine := { (s.link j).engine with recovery := .down }
    hold := { (s.link j).hold with service := if s.engaged then .shed else .off } } := State.link_updLink_self ..

end

/-! ### The cage's slots (R44, R77) -/

section
variable (old new : Layout) (c : CageId) (s : State)

/-- Whether a slot becomes unused. -/
abbrev Layout.gives (old new : Layout) (j : LinkId) : Prop := (old.uses (slotOf j) && !new.uses (slotOf j)) = true

theorem forEach_relayout_drained :
    Drained.flushes .flushed ((linksOf c).filter fun j => old.gives new j) s (s.forEach (State.relayout old new) (linksOf c)) := by
  refine Drained.flushes.forEach (fun i t => touches_relayout (only_self i) old new t) (by decide)
    (fun i t gives => ?_) (fun i t stays => ?_) (linksOf_nodup c) s
  · obtain ⟨before, after⟩ := Bool.and_eq_true_iff.mp gives
    rw [State.relayout_unused before (by simpa using after)]
    exact (slotUnused_slotUnused i t).drained
  · by_cases same : old.uses (slotOf i) = new.uses (slotOf i)
    · rw [State.relayout_same same]
      exact .refl t
    · have used : old.uses (slotOf i) = false ∧ new.uses (slotOf i) = true := by
        revert same stays
        unfold Layout.gives
        cases old.uses (slotOf i) <;> cases new.uses (slotOf i) <;> simp
      rw [State.relayout_used used.1 used.2]
      exact .of_touches (touches_slotUsed (only_self i) t)

theorem touches_relayouts : Touches (fun i => cageOf i = c) (storeParts ++ [.engine, .attempt, .serving]) s
    (s.forEach (State.relayout old new) (linksOf c)) :=
  .forEach fun i hi t => (touches_relayout (only_self i) old new t).widen fun _ hk => hk ▸ mem_linksOf.mp hi

variable {c} {j : LinkId} (here : cageOf j = c)
include here

/-- What each slot's turn leaves of its link, found as it was. -/
theorem forEach_relayout_link : ∃ t : State, t.link j = s.link j ∧ t.settings = s.settings ∧ t.engaged = s.engaged
    ∧ (s.forEach (State.relayout old new) (linksOf c)).link j = (t.relayout old new j).link j := by
  obtain ⟨t, found, result⟩ := State.forEach_at (f := State.relayout old new)
    (fun i t => touches_relayout (only_self i) old new t) (linksOf_nodup c) (mem_linksOf.mpr here) s
  exact ⟨t, found.elsewhere j (by simp), found.settings, found.engaged, result⟩

end

theorem State.takesLayout_iff (m : CageMode) : m.takesLayout = true ↔ m ≠ .powering ∧ m ≠ .serving ∧ m ≠ .tripped
    ∧ m ≠ .forcedOff := by
  cases m <;> simp [CageMode.takesLayout]

section
variable {q : Requester} {cage value : Byte} {s : State} (idle : s.engineIdle)
include idle

theorem exec_fabricLayout_refused (void : 15 < cage.toNat ∨ layoutOfCode value.toNat = none) :
    exec (.fabricLayout q cage value) s = .next (s.answered q 0x10 .badArgument [] []) := by
  show execFabricLayout q cage value s = _
  unfold execFabricLayout
  refine serve_refused .badArgument [] [] rfl idle fun m => ?_
  cases coded : layoutOfCode value.toNat with
  | none => rfl
  | some l => exact if_pos (void.resolve_right (by simp [coded]))

variable {c : CageId} {l : Layout} (here : c.val = cage.toNat) (coded : layoutOfCode value.toNat = some l)
include here coded

theorem exec_fabricLayout_wrongState (late : ¬ (s.cage c).mode.takesLayout = true) :
    exec (.fabricLayout q cage value) s = .next (s.answered q 0x10 .wrongState [] []) := by
  have low : ¬ 15 < cage.toNat := by
    have := c.isLt
    omega
  have named : indexOf 16 cage.toNat = c := by
    rw [← here]
    exact indexOf_val _ c rfl
  show execFabricLayout q cage value s = _
  unfold execFabricLayout
  refine serve_refused .wrongState [] [] rfl idle fun m => ?_
  simp only [coded, named]
  rw [if_neg low]
  exact if_neg late

theorem exec_fabricLayout_taken (takes : (s.cage c).mode.takesLayout = true) :
    exec (.fabricLayout q cage value) s = .next ((s.setLayout c l).answered q 0x10 .done [] []) := by
  have low : ¬ 15 < cage.toNat := by
    have := c.isLt
    omega
  have named : indexOf 16 cage.toNat = c := by
    rw [← here]
    exact indexOf_val _ c rfl
  show execFabricLayout q cage value s = _
  unfold execFabricLayout
  refine serve_answered (State.setLayout c l) .done [] [] rfl idle (fun m t => State.setLayout_withEngine ..) fun m => ?_
  simp only [coded, named]
  rw [if_neg low]
  exact if_pos takes

end

/-- Settles O8. -/
theorem fabricLayoutMovesSlots : Obligations.FabricLayoutMovesSlots := by
  intro q cage value s idle
  refine ⟨exec_fabricLayout_refused idle, fun c l here coded => ⟨fun late => ?_, fun h1 h2 h3 h4 => ?_⟩⟩
  · refine exec_fabricLayout_wrongState idle here coded fun takes => ?_
    obtain ⟨h1, h2, h3, h4⟩ := (State.takesLayout_iff _).mp takes
    rcases late with h | h | h | h <;> contradiction
  have takes := (State.takesLayout_iff _).mpr ⟨h1, h2, h3, h4⟩
  refine ⟨s.setLayout c l, exec_fabricLayout_taken idle here coded takes, ?_⟩
  unfold State.setLayout
  have link (j : LinkId) : (s.updCage c fun m => { m with fabricLayout := l }).link j = s.link j := rfl
  have now : (s.updCage c fun m => { m with fabricLayout := l }).now = s.now := rfl
  have settings : (s.updCage c fun m => { m with fabricLayout := l }).settings = s.settings := rfl
  have engaged : (s.updCage c fun m => { m with fabricLayout := l }).engaged = s.engaged := rfl
  have shape : (s.updCage c fun m => { m with fabricLayout := l }) = { s with
      cages := s.cages.set c { s.cage c with fabricLayout := l } } := rfl
  have drained := forEach_relayout_drained (s.cage c).fabricLayout l c (s.updCage c fun m => { m with fabricLayout := l })
  have touched := touches_relayouts (s.cage c).fabricLayout l c (s.updCage c fun m => { m with fabricLayout := l })
  have each (j : LinkId) (hj : cageOf j = c) :=
    forEach_relayout_link (s.cage c).fabricLayout l (s.updCage c fun m => { m with fabricLayout := l }) hj
  have before : Drained [] [] 0 false s (s.updCage c fun m => { m with fabricLayout := l }) :=
    .of_same (fun _ => rfl) rfl rfl rfl rfl rfl rfl
  generalize (s.updCage c fun m => { m with fabricLayout := l }) = v at link now settings engaged shape drained touched each before
  generalize v.forEach (State.relayout (s.cage c).fabricLayout l) (linksOf c) = u at drained touched each
  have total := drained.of_same link now before
  have unused : ((linksOf c).filter fun j => decide ((s.cage c).fabricLayout.gives l j))
      = (linksOf c).filter fun j => (s.cage c).fabricLayout.uses (slotOf j) && !l.uses (slotOf j) :=
    List.filter_congr fun j _ => Bool.decide_eq_true
  rw [unused] at total
  have raised := Drained.raised total
  have pool := Drained.pool total
  refine ⟨?_, fun j other => (touched.elsewhere j other).trans (link j), ⟨total.told, raised, pool, total.poolLow⟩, fun k => ?_⟩
  · exact touched.eq.trans (by rw [shape]; rfl)
  intro j before after
  have own : cageOf j = c := cageOf_linkOf c k
  have slot : slotOf j = k := slotOf_linkOf c k
  obtain ⟨t, found, marks, on, result⟩ := each j own
  refine ⟨fun same => ?_, fun ⟨used, gone⟩ => ?_, fun ⟨free, taken⟩ => ?_⟩
  · rw [result, State.relayout_same (by rw [slot]; exact same), found, link]
  · rw [State.relayout_unused (by rw [slot]; exact used) (by rw [slot]; exact gone)] at result
    have left := slotUnused_slotUnused j t
    have released := left.released
    rw [← result, found, link, marks, settings] at released
    refine ⟨?_, fun n => ?_, released.sent⟩
    · rw [result, left.link, found, link]
    · rw [result, left.critical, found, link]
  · rw [result, State.relayout_used (by rw [slot]; exact free) (by rw [slot]; exact taken), State.slotUsed_link, found,
      link, on, engaged]

end Sys2Proof.Machine
end

section
/-! PROOFS. Service closed on every link, and a cage that leaves its visit for SEATING or WAIT-ENGAGE (R10, R12, R121,
R126, R141, R155). -/

set_option Elab.async false

namespace Sys2Proof.Machine

section
variable {j : LinkId} {c d : CageId} {s t u : State}

/-! ### Frames that go first toward the switch (R113, R126, R165; log 8) -/

/-- Urgent frames join an egress. -/
abbrev FabricEgress.urging (xs : List FabricFrame) (e : FabricEgress) : FabricEgress := { e with urgent := e.urgent ++ xs }

/-- An egress left with its urgent frames alone, of which it begins the first if it is free. -/
def FabricEgress.lone (g : Settings) (e : FabricEgress) : FabricEgress :=
  ({ e with replies := [], forwards := [] } : FabricEgress).begin g false

/-- From one egress to its later self the urgent frames `xs` alone have joined it. -/
def FabricEgress.Urged (g : Settings) (xs : List FabricFrame) (e f : FabricEgress) : Prop :=
  ∀ ys, (f.urging ys).lone g = (e.urging (xs ++ ys)).lone g

section
variable {g : Settings} {xs ys : List FabricFrame} {e f h : FabricEgress}

theorem FabricEgress.Urged.refl (g : Settings) (e : FabricEgress) : Urged g [] e e := fun _ => rfl

theorem FabricEgress.Urged.trans (first : Urged g xs e f) (second : Urged g ys f h) : Urged g (xs ++ ys) e h := fun zs => by
  rw [second, first, List.append_assoc]

theorem FabricEgress.Urged.lone (h : Urged g xs e f) : f.lone g = (e.urging xs).lone g := by
  have now := h []
  rwa [List.append_nil, FabricEgress.urging, List.append_nil] at now

/-- Frames that join, of which the egress may begin one at once. -/
theorem FabricEgress.Urged.begin (some : xs ≠ []) (up : Bool) (e : FabricEgress) : Urged g xs e ((e.urging xs).begin g up) := by
  intro ys
  obtain ⟨sending, urgent, replies, forwards⟩ := e
  cases sending with
  | some f => simp only [FabricEgress.urging, FabricEgress.begin, List.append_assoc]
  | none =>
    obtain ⟨f, rest, waits⟩ := List.exists_cons_of_ne_nil (fun none => some (List.append_eq_nil_iff.mp none).2 :
      urgent ++ xs ≠ [])
    simp only [FabricEgress.urging, ← List.append_assoc, waits, FabricEgress.lone, FabricEgress.begin, List.cons_append]

theorem FabricEgress.lone_eq (g : Settings) (e : FabricEgress) : e.lone g = match e.sending with
    | some f => ⟨some f, e.urgent, [], []⟩
    | none => ⟨e.urgent.head?.map (FabricFrame.sentUnder g), e.urgent.drop 1, [], []⟩ := by
  obtain ⟨sending, urgent, replies, forwards⟩ := e
  cases sending <;> cases urgent <;> rfl

end

/-- The classes of a link whose release sends a frame. -/
abbrev State.releasing (s : State) (j : LinkId) (k : ClassId) : Bool :=
  ((s.link j).hold.paused.get k).isSome && prioritiesOf s.settings k != 0

/-- A class's release frame. -/
abbrev releaseFrame (g : Settings) (k : ClassId) : FabricFrame := .pause ⟨prioritiesOf g k, 0⟩

theorem State.releaseClass_urged (j : LinkId) (k : ClassId) (s : State) :
    FabricEgress.Urged s.settings (if s.releasing j k then [releaseFrame s.settings k] else []) (s.link j).fabricSide
      ((s.releaseClass j k).link j).fabricSide := by
  by_cases paused : ((s.link j).hold.paused.get k).isSome
  · rw [s.releaseClass_of_paused j k paused]
    by_cases mapped : prioritiesOf s.settings k = 0
    · rw [s.sendClassPause_unmapped j k 0 mapped, if_neg (by simp [mapped])]
      exact .refl _ _
    · rw [State.sendClassPause, if_neg mapped, State.sendPause, State.toFabric, State.link_updLink_self,
        if_pos (Bool.and_eq_true_iff.mpr ⟨paused, bne_iff_ne.mpr mapped⟩)]
      exact .begin (List.cons_ne_nil _ _) _ _
  · rw [s.releaseClass_of_free j k (Option.not_isSome_iff_eq_none.mp paused), if_neg (by simp [State.releasing, paused])]
    exact .refl _ _

theorem State.releaseLink_urged (j : LinkId) (s : State) :
    FabricEgress.Urged s.settings (((List.finRange 4).filter (s.releasing j)).map (releaseFrame s.settings))
      (s.link j).fabricSide ((s.releaseLink j).link j).fabricSide := by
  have each (l : List ClassId) (nodup : l.Nodup) (t : State) :
      FabricEgress.Urged t.settings ((l.filter (t.releasing j)).map (releaseFrame t.settings))
        (t.link j).fabricSide ((t.forEach (State.releaseClass j) l).link j).fabricSide := by
    induction l generalizing t with
    | nil => exact .refl _ _
    | cons k rest ih =>
      obtain ⟨fresh, nodup⟩ := List.nodup_cons.mp nodup
      have first := t.releaseClass_urged j k
      have later := ih nodup (t.releaseClass j k)
      have settings := (touches_releaseClass (only_self j) k t).settings
      have same : rest.filter ((t.releaseClass j k).releasing j) = rest.filter (t.releasing j) := by
        refine List.filter_congr fun n hn => ?_
        have other : k ≠ n := fun e => fresh (e ▸ hn)
        have paused : ((t.releaseClass j k).link j).hold.paused.get n = (t.link j).hold.paused.get n := by
          rw [t.releaseClass_link j k]
          exact Bank.get_set_ne _ _ _ _ other
        rw [State.releasing, State.releasing, settings, paused]
      rw [settings, same] at later
      have both := first.trans later
      rw [State.forEach_cons]
      by_cases due : t.releasing j k = true
      · rw [if_pos due] at both
        rwa [List.filter_cons_of_pos due]
      · rw [if_neg due] at both
        rwa [List.filter_cons_of_neg due]
  exact each allClasses (by decide) s

/-! ### Service closed (R121, R155) -/

/-- Every pause released, every link OFF and every link flushed, in this order. -/
def State.closeService (s : State) : State :=
  ((s.forEach State.releaseLink allLinks).forEach State.makeOff allLinks).forEach (State.flushLink .flushed) allLinks

/-- Service has been closed on every link, from `s` to `t`. -/
structure ServiceClosed (s t : State) : Prop where
  touched : Touches Anywhere (storeParts ++ [.serving, .meter]) s t
  link : ∀ j, t.link j = { s.link j with
    hold := { (s.link j).hold with service := .off, holdTimer := none, paused := Bank.fill 4 none }
    park := ⟨Bank.fill 4 [], (t.link j).park.critical⟩
    meter := idleMeter
    counters := { (s.link j).counters with discards := (t.link j).counters.discards }
    fabricSide := (t.link j).fabricSide }
  critical : ∀ j k, (t.link j).park.critical.get k
    = if (s.link j).park.fifos.get k = [] then (s.link j).park.critical.get k else false
  released : ∀ j, (s.link j).Released s.settings (t.link j)
  urged : ∀ j, FabricEgress.Urged s.settings (((List.finRange 4).filter (s.releasing j)).map (releaseFrame s.settings))
    (s.link j).fabricSide (t.link j).fabricSide
  drained : Drained.flushes .flushed allLinks s t

theorem touches_releaseLinks (s : State) : Touches Anywhere [.hold, .fabricSide] s (s.forEach State.releaseLink allLinks) :=
  .forEach fun _ _ t => touches_releaseLink trivial t

theorem touches_makeOffs (s : State) : Touches Anywhere [.hold, .serving, .meter] s (s.forEach State.makeOff allLinks) :=
  .forEach fun _ _ t => touches_makeOff trivial t

theorem State.forEach_releaseLink (j : LinkId) (s : State) :
    (s.forEach State.releaseLink allLinks).link j = { s.link j with
      hold := { (s.link j).hold with paused := Bank.fill 4 none }
      fabricSide := ((s.forEach State.releaseLink allLinks).link j).fabricSide }
    ∧ (s.link j).Released s.settings ((s.forEach State.releaseLink allLinks).link j)
    ∧ FabricEgress.Urged s.settings (((List.finRange 4).filter (s.releasing j)).map (releaseFrame s.settings))
      (s.link j).fabricSide ((s.forEach State.releaseLink allLinks).link j).fabricSide := by
  obtain ⟨t, found, result⟩ := State.forEach_at (f := State.releaseLink) (fun i t => touches_releaseLink (only_self i) t)
    allLinks_nodup (mem_allLinks j) s
  have link := found.elsewhere j (by simp)
  have released := State.releaseLink_released (j := j) (s := t)
  generalize s.forEach State.releaseLink allLinks = u at result
  have urged := t.releaseLink_urged j
  have due : t.releasing j = s.releasing j := funext fun k => by rw [State.releasing, State.releasing, link, found.settings]
  rw [← result, link, found.settings] at released
  rw [← result, link, found.settings, due] at urged
  refine ⟨?_, released, urged⟩
  rw [result, t.releaseLink_link, link]

theorem State.forEach_makeOff (j : LinkId) (s : State) : (s.forEach State.makeOff allLinks).link j = { s.link j with
    meter := stoppedMeter, hold := { (s.link j).hold with service := .off, holdTimer := none } } := by
  obtain ⟨t, found, result⟩ := State.forEach_at (f := State.makeOff) (fun i t => touches_makeOff (only_self i) t)
    allLinks_nodup (mem_allLinks j) s
  generalize s.forEach State.makeOff allLinks = u at result
  rw [result, makeOff_link, found.elsewhere j (by simp)]

theorem State.forEach_flushLink (reason : DiscardReason) {l : List LinkId} (nodup : l.Nodup) (s : State) :
    (∀ j ∈ l, ∃ t, Touches (· ≠ j) storeParts s t
      ∧ (s.forEach (State.flushLink reason) l).link j = (t.flushLink reason j).link j)
    ∧ Drained.flushes reason l s (s.forEach (State.flushLink reason) l) := by
  refine ⟨fun j hj => State.forEach_at (f := State.flushLink reason)
    (fun i t => touches_flushLink (only_self i) reason t) nodup hj s, ?_⟩
  have drained := Drained.flushes.forEach (f := State.flushLink reason) (p := fun _ => True) (reason := reason)
    (fun i t => touches_flushLink (only_self i) reason t) (by decide)
    (fun i t _ => (linkFlushed_flushLink reason i t).drained) (fun i t h => absurd trivial h) nodup s
  rwa [List.filter_eq_self.mpr fun _ _ => by simp] at drained

/-- What flushes hand on is what they would where the same frames are parked. -/
theorem Drained.flushes.of_park {reason : DiscardReason} {js : List LinkId} (h : Drained.flushes reason js t u)
    (park : ∀ j, (t.link j).park = (s.link j).park) (now : t.now = s.now) (before : Drained [] [] 0 false s t) :
    Drained.flushes reason js s u := by
  have both := before.trans h
  have records : js.flatMap (t.flushRecords reason) = js.flatMap (s.flushRecords reason) :=
    List.flatMap_congr fun j _ => by rw [State.flushRecords, State.flushRecords, park, now]
  unfold Drained.flushes
  simpa only [records, park, List.nil_append, Nat.zero_add, Bool.false_or] using both

theorem serviceClosed_closeService (s : State) : ServiceClosed s s.closeService := by
  have released (j : LinkId) := s.forEach_releaseLink j
  have first := touches_releaseLinks s
  unfold State.closeService
  generalize s.forEach State.releaseLink allLinks = a at released first
  have off (j : LinkId) := a.forEach_makeOff j
  have second := touches_makeOffs a
  generalize a.forEach State.makeOff allLinks = b at off second
  obtain ⟨flushed, drained⟩ := b.forEach_flushLink .flushed allLinks_nodup
  have third : Touches Anywhere storeParts b (b.forEach (State.flushLink .flushed) allLinks) :=
    .forEach fun _ _ t => touches_flushLink trivial .flushed t
  generalize b.forEach (State.flushLink .flushed) allLinks = v at flushed drained third
  have before : Touches Anywhere [.hold, .fabricSide, .serving, .meter] s b := first.trans second
  have park (j : LinkId) : (b.link j).park = (s.link j).park := by rw [off, (released j).1]
  have each (j : LinkId) : ∃ w, w.link j = b.link j ∧ w.settings = s.settings ∧ LinkFlushed .flushed j w (w.flushLink .flushed j)
      ∧ v.link j = (w.flushLink .flushed j).link j := by
    obtain ⟨w, found, result⟩ := flushed j (mem_allLinks j)
    exact ⟨w, found.elsewhere j (by simp), found.settings.trans before.settings, linkFlushed_flushLink .flushed j w, result⟩
  refine ⟨before.trans third, fun j => ?_, fun j k => ?_, fun j => ?_, fun j => ?_,
    drained.of_park park before.now (.of_touches before)⟩
  · obtain ⟨w, same, _, turn, result⟩ := each j
    have paused : ((w.flushLink .flushed j).link j).hold.paused = Bank.fill 4 none := Bank.eq_of_get _ _ fun k => by
      rw [turn.paused]
      split
      · rw [Bank.get_fill]
      · rw [same, off, (released j).1]
    have rest := turn.rest
    rw [turn.park, paused, ← result, same, off, (released j).1] at rest
    exact rest
  · obtain ⟨w, same, _, turn, result⟩ := each j
    rw [result, turn.critical, same, park]
  · obtain ⟨w, same, settings, turn, result⟩ := each j
    have last := turn.released
    rw [settings, same, ← result] at last
    have middle : (a.link j).Released s.settings (b.link j) := .of_same (by rw [off]) (by rw [off])
    exact ((released j).2.1.trans middle).trans last
  · obtain ⟨w, same, settings, turn, result⟩ := each j
    have paused : ((w.flushLink .flushed j).link j).hold.paused = (w.link j).hold.paused := Bank.eq_of_get _ _ fun k => by
      rw [turn.paused]
      split
      · rw [same, off, (released j).1, Bank.get_fill]
      · rfl
    have silent := turn.released.silent fun k => .inr (by rw [paused])
    rw [result, silent, same, off]
    exact (released j).2.2

namespace ServiceClosed

theorem pool (h : ServiceClosed s t) : t.poolFree = s.poolFree + s.blocksHeld := Drained.pool h.drained

theorem shape (h : ServiceClosed s t) : t = { s with
    links := t.links, poolFree := s.poolFree + s.blocksHeld, poolLow := t.poolLow, slotA := t.slotA, slotB := t.slotB
    raised := t.raised } :=
  h.touched.eq.trans (congrArg (fun n => ({ s with
    links := t.links, poolFree := n, poolLow := t.poolLow, slotA := t.slotA, slotB := t.slotB
    raised := t.raised } : State)) h.pool)

theorem poolLow (h : ServiceClosed s t) : t.poolLow = if (∃ j ∈ allLinks, (s.link j).park.isEmpty = false)
    ∧ s.settings.poolLowMark ≤ t.poolFree then false else s.poolLow := Drained.flushes.poolLow h.drained

theorem told (h : ServiceClosed s t) : AllDiscarded (allLinks.flatMap (s.flushRecords .flushed)) s t :=
  Drained.flushes.told h.drained

theorem raised (h : ServiceClosed s t) :
    t.raised = s.raised ++ discardsOf (allLinks.flatMap (s.flushRecords .flushed)) := Drained.raised h.drained

end ServiceClosed

/-! ### A visit left (R10, R12, R29) -/

/-- The transaction in flight for a cage that leaves its visit: its outcome is void, and where the reset line was released
the page record is unknown after it, but for a select write still to come. -/
def Transaction.left (held later : Bool) (x : Transaction) : Transaction :=
  { x with
    wiped := if held = true then x.wiped else x.wiped || !(x.selecting && later)
    discarded := decide (x.request.requester ≠ .passThrough) || x.discarded }

/-- Cage `c` leaves its visit, before its lines change. -/
def State.leaveVisit (c : CageId) (s : State) : State := ((s.dropRequests c).forgetAtReset c).leaveSearch c

/-- Cage `c` has left its visit, from `s` to `t`. -/
structure VisitLeft (c : CageId) (s t : State) : Prop where
  shape : t = { s with
    cages := t.cages, controllers := t.controllers, freeCount := t.freeCount
    search := { s.search with waiting := s.search.waiting.set c false } }
  cage : t.cage c = { s.cage c with
    busRequests := []
    lastPage := if (s.cage c).resetLine = true then (s.cage c).lastPage else none }
  cages : ∀ d, d ≠ c → t.cage d = s.cage d
  controller : ∃ later : Bool, t.controller (controllerOf c)
    = (s.controller (controllerOf c)).markFor c (Transaction.left (s.cage c).resetLine later)
  controllers : ∀ k, k ≠ controllerOf c → t.controller k = s.controller k
  freeCount : t.freeCount = if (s.cage c).resetLine = true then s.freeCount else s.freeCount + 1

theorem Controller.markFor_markFor (c : CageId) (f g : Transaction → Transaction)
    (same : ∀ x, (f x).request = x.request) (k : Controller) :
    (k.markFor c f).markFor c g = k.markFor c fun x => g (f x) := by
  unfold Controller.markFor
  simp only [Option.map_map]
  congr 2
  funext x
  by_cases here : x.request.cage = c <;> simp [here, same]

theorem Transaction.left_held (later : Bool) : Transaction.left true later = Transaction.void := by
  funext x
  rw [x.void_eq]
  rfl

theorem Transaction.left_released (later : Bool) :
    Transaction.left false later = fun x => (Transaction.wipe later x.void) := by
  funext x
  rw [x.void_eq]
  rfl

theorem State.dropRequests_controller (c : CageId) (s : State) : (s.dropRequests c).controller (controllerOf c)
    = (s.controller (controllerOf c)).markFor c Transaction.void := Bank.get_set_self ..

theorem State.dropRequests_controller_ne {k : ControllerId} (other : k ≠ controllerOf c) (s : State) :
    (s.dropRequests c).controller k = s.controller k := Bank.get_set_ne _ _ _ _ other.symm

theorem visitLeft_leaveVisit (c : CageId) (s : State) : VisitLeft c s (s.leaveVisit c) := by
  have cage := State.cage_dropRequests_self c s
  have cages (d : CageId) (other : d ≠ c) := State.cage_dropRequests_ne other s
  have controller := State.dropRequests_controller c s
  have controllers (k : ControllerId) (other : k ≠ controllerOf c) := State.dropRequests_controller_ne other s
  have shape : s.dropRequests c = { s with
    cages := (s.dropRequests c).cages, controllers := (s.dropRequests c).controllers } := rfl
  have reset : ((s.dropRequests c).cage c).resetLine = (s.cage c).resetLine := by rw [cage]
  unfold State.leaveVisit State.forgetAtReset
  generalize s.dropRequests c = t at cage cages controller controllers shape reset
  rw [reset]
  by_cases held : (s.cage c).resetLine = true
  · rw [if_pos held]
    refine ⟨?_, ?_, fun d other => ?_, ⟨true, ?_⟩, fun k other => ?_, ?_⟩
    · exact (show t.leaveSearch c = { t with search := { t.search with waiting := t.search.waiting.set c false } } from
        rfl).trans (by rw [shape]; rfl)
    · rw [if_pos held]
      exact cage
    · exact cages d other
    · rw [held, Transaction.left_held]
      exact controller
    · exact controllers k other
    · rw [if_pos held]
      exact show t.freeCount = s.freeCount by rw [shape]
  · rw [if_neg held, t.forgetPage_eq]
    refine ⟨?_, ?_, fun d other => ?_, ⟨Config.selectsLater t.freeCount, ?_⟩, fun k other => ?_, ?_⟩
    · rw [shape]
      rfl
    · rw [if_neg held]
      refine (Bank.get_set_self ..).trans ?_
      rw [cage]
    · exact (Bank.get_set_ne _ _ _ _ other.symm).trans (cages d other)
    · rw [Bool.not_eq_true] at held
      rw [held, Transaction.left_released, ← Controller.markFor_markFor _ _ _ fun x => x.void_same.1, ← controller]
      exact Bank.get_set_self ..
    · exact (Bank.get_set_ne _ _ _ _ other.symm).trans (controllers k other)
    · rw [if_neg held]
      exact show t.freeCount + 1 = s.freeCount + 1 by rw [shape]

end

end Sys2Proof.Machine
end

section
/-! PROOFS. DISENGAGE (R3, R78, R121). -/

set_option Elab.async false

namespace Sys2Proof.Machine

section
variable {j : LinkId} {c d : CageId} {s t u : State}

/-! ### One cage's turn (R3, R78) -/

/-- A cage past SEATING as DISENGAGE leaves it. -/
abbrev Cage.disengaged (now : Moment) (m : Cage) : Cage :=
  { m with
    mode := .waitEngage, failedCause := .none, resetLine := true, lowPower := true
    guardOrigin := if m.lowPower = true then m.guardOrigin else now
    seatingTimer := none, readyTimer := none, guardTimer := none, powerUpTimer := none, pollTimer := none
    flagRequested := false, readAgain := false, identityBytes := [], busRequests := []
    lastPage := if m.resetLine = true then m.lastPage else none }

/-- Cage `c` before its links come down. -/
def State.toWaitEngage (c : CageId) (s : State) : State := (s.leaveVisit c).updCage c (Cage.resetTo .waitEngage s.now)

theorem State.disengageCage_past (absent : (s.cage c).mode ≠ .absent) (seating : (s.cage c).mode ≠ .seating) :
    s.disengageCage c = (s.toWaitEngage c).forEach State.comeDown ((s.toWaitEngage c).activeLinks c) := by
  unfold State.disengageCage
  split
  · contradiction
  · contradiction
  all_goals rfl

theorem State.disengageCage_unseated (unseated : (s.cage c).mode = .absent ∨ (s.cage c).mode = .seating) :
    s.disengageCage c = s := by
  unfold State.disengageCage
  rcases unseated with e | e <;> rw [e]

theorem State.comeDown_link (j : LinkId) (s : State) : (s.comeDown j).link j = { s.link j with
    engine := if (s.link j).engine.recovery.isWorking = true then (s.link j).engine.down else (s.link j).engine } := by
  unfold State.comeDown
  split
  · exact State.link_updLink_self ..
  · rfl

/-- What one cage's turn leaves of a cage `c`, of its search, its links and the transaction in flight for it. -/
structure CageApart (c : CageId) (s t : State) : Prop where
  cage : t.cage c = s.cage c
  waiting : t.search.waiting.get c = s.search.waiting.get c
  links : ∀ j, cageOf j = c → t.link j = s.link j
  now : t.now = s.now
  flies : ∀ k x, (s.controller k).inFlight = some x → x.request.cage = c → t.controller k = s.controller k

theorem CageApart.refl (c : CageId) (s : State) : CageApart c s s :=
  ⟨rfl, rfl, fun _ _ => rfl, rfl, fun _ _ _ _ => rfl⟩

theorem CageApart.trans (h : CageApart c s t) (g : CageApart c t u) : CageApart c s u where
  cage := g.cage.trans h.cage
  waiting := g.waiting.trans h.waiting
  links j own := (g.links j own).trans (h.links j own)
  now := g.now.trans h.now
  flies k x flies own := by
    have first := h.flies k x flies own
    exact (g.flies k x (first ▸ flies) own).trans first

theorem Controller.markFor_other {f : Transaction → Transaction} {k : Controller}
    (other : ∀ x, k.inFlight = some x → x.request.cage ≠ c) : k.markFor c f = k := by
  obtain ⟨inFlight, slot, bypass, last⟩ := k
  cases inFlight with
  | none => rfl
  | some x =>
    unfold Controller.markFor
    rw [Option.map_some, if_neg (other x rfl)]

/-- Controller `k` has no transaction of cage `c` in flight, or is not the one of that cage. -/
abbrev State.spares (s : State) (k : ControllerId) (c : CageId) : Prop :=
  ∀ x, (s.controller k).inFlight = some x → x.request.cage = c → k ≠ controllerOf c

theorem VisitLeft.controller_other (h : VisitLeft c s t) {k : ControllerId} (other : s.spares k c) :
    t.controller k = s.controller k := by
  by_cases own : k = controllerOf c
  · subst own
    obtain ⟨later, marked⟩ := h.controller
    rw [marked, Controller.markFor_other fun x flies e => other x flies e rfl]
  · exact h.controllers k own

theorem VisitLeft.now (h : VisitLeft c s t) : t.now = s.now := by rw [h.shape]

theorem VisitLeft.link (h : VisitLeft c s t) (j : LinkId) : t.link j = s.link j := by
  rw [h.shape]
  rfl

/-- Cage `c` has had its turn, from `s` to `t`. -/
structure CageDisengaged (c : CageId) (s t : State) : Prop where
  cage : t.cage c = (s.cage c).disengaged s.now
  waiting : t.search.waiting.get c = false
  engine : ∀ j, cageOf j = c → (t.link j).engine = if s.departs c j then (s.link j).engine.down else (s.link j).engine
  controller : ∃ later : Bool, t.controller (controllerOf c)
    = (s.controller (controllerOf c)).markFor c (Transaction.left (s.cage c).resetLine later)
  controllers : ∀ k, s.spares k c → t.controller k = s.controller k
  apart : ∀ d, d ≠ c → CageApart d s t
  search : t.search = { s.search with waiting := t.search.waiting }

theorem cageDisengaged_disengageCage (absent : (s.cage c).mode ≠ .absent) (seating : (s.cage c).mode ≠ .seating) :
    CageDisengaged c s (s.disengageCage c) := by
  rw [State.disengageCage_past absent seating]
  have left := visitLeft_leaveVisit c s
  have cage : (s.toWaitEngage c).cage c = (s.cage c).disengaged s.now := by
    unfold State.toWaitEngage
    rw [State.cage_updCage_self, left.cage]
    rfl
  have cages (d : CageId) (other : d ≠ c) : (s.toWaitEngage c).cage d = s.cage d := by
    unfold State.toWaitEngage
    rw [State.cage_updCage_ne _ _ _ _ other.symm, left.cages d other]
  have search : (s.toWaitEngage c).search = { s.search with waiting := s.search.waiting.set c false } := by
    change (s.leaveVisit c).search = _
    rw [left.shape]
  have link (j : LinkId) : (s.toWaitEngage c).link j = s.link j := left.link j
  have now : (s.toWaitEngage c).now = s.now := left.now
  have controller (k : ControllerId) : (s.toWaitEngage c).controller k = (s.leaveVisit c).controller k := rfl
  have marked := left.controller
  have spared (k : ControllerId) := left.controller_other (k := k)
  generalize s.leaveVisit c = v at controller marked spared
  generalize s.toWaitEngage c = w at cage cages search link now controller
  have active : w.activeLinks c = s.activeLinks c := by
    unfold State.activeLinks
    refine List.filter_congr fun j hj => ?_
    rw [State.isActive, State.isActive, State.linkLayout, State.linkLayout, mem_linksOf.mp hj, cage]
  rw [active]
  have touched : Touches (fun i => cageOf i = c) [.engine, .attempt] w (w.forEach State.comeDown (s.activeLinks c)) :=
    .forEach fun i hi t => touches_comeDown (State.mem_activeLinks.mp hi).1 t
  have idle : Touches (· ∈ s.activeLinks c) [.engine, .attempt] w (w.forEach State.comeDown (s.activeLinks c)) :=
    .forEach fun i hi t => touches_comeDown hi t
  have each (j : LinkId) (hj : j ∈ s.activeLinks c) := State.forEach_at (f := State.comeDown)
    (fun i t => touches_comeDown (only_self i) t) (s.activeLinks_nodup c) hj w
  generalize w.forEach State.comeDown (s.activeLinks c) = u at touched idle each
  have cageAfter (d : CageId) : u.cage d = w.cage d := by rw [State.cage, touched.cages]; rfl
  have controllerAfter (k : ControllerId) : u.controller k = w.controller k := by
    rw [State.controller, touched.controllers]
    rfl
  refine ⟨(cageAfter c).trans cage, ?_, fun j own => ?_, ?_, fun k other => ?_, fun d other => ⟨?_, ?_, fun j own => ?_,
    touched.now.trans now, fun k x flies own => ?_⟩, ?_⟩
  · rw [touched.search, search, Bank.get_set_self]
  · by_cases member : j ∈ s.activeLinks c
    · obtain ⟨t, found, result⟩ := each j member
      rw [result, State.comeDown_link, found.elsewhere j (by simp), link]
      simp only [State.departs_iff, member, true_and]
    · rw [idle.elsewhere j member, link, if_neg fun departs => member (State.departs_iff.mp departs).1]
  · rw [controllerAfter, controller]
    exact marked
  · rw [controllerAfter, controller, spared k other]
  · rw [cageAfter, cages d other]
  · rw [touched.search, search, Bank.get_set_ne _ _ _ _ other.symm]
  · rw [touched.elsewhere j fun e => other (own.symm.trans e), link]
  · rw [controllerAfter, controller, spared k fun y flies' e => ?_]
    rw [flies] at flies'
    exact absurd (own.symm.trans (Option.some.inj flies' ▸ e)) other
  · rw [touched.search, search]

/-- A cage's turn, for every other cage. -/
theorem cageApart_disengageCage (other : d ≠ c) (s : State) : CageApart d s (s.disengageCage c) := by
  by_cases unseated : (s.cage c).mode = .absent ∨ (s.cage c).mode = .seating
  · rw [State.disengageCage_unseated unseated]
    exact .refl d s
  · obtain ⟨absent, seating⟩ := not_or.mp unseated
    exact (cageDisengaged_disengageCage absent seating).apart d other

theorem disengageCage_controller {k : ControllerId} (other : s.spares k c) :
    (s.disengageCage c).controller k = s.controller k := by
  by_cases unseated : (s.cage c).mode = .absent ∨ (s.cage c).mode = .seating
  · rw [State.disengageCage_unseated unseated]
  · obtain ⟨absent, seating⟩ := not_or.mp unseated
    exact (cageDisengaged_disengageCage absent seating).controllers k other

theorem disengageCage_search (c : CageId) (s : State) :
    (s.disengageCage c).search = { s.search with waiting := (s.disengageCage c).search.waiting } := by
  by_cases unseated : (s.cage c).mode = .absent ∨ (s.cage c).mode = .seating
  · rw [State.disengageCage_unseated unseated]
  · obtain ⟨absent, seating⟩ := not_or.mp unseated
    exact (cageDisengaged_disengageCage absent seating).search

/-! ### Every cage's turn -/

section
variable (s : State)

theorem forEach_disengageCage_turn (c : CageId) : ∃ t, CageApart c s t
    ∧ CageApart c (t.disengageCage c) (s.forEach State.disengageCage allCages) :=
  State.forEach_turn (R := CageApart c) (CageApart.refl c) (fun _ _ _ => CageApart.trans)
    (fun _ t ne => cageApart_disengageCage (Ne.symm ne) t) (List.nodup_finRange 16) (List.mem_finRange c) s

theorem forEach_disengageCage_search : (s.forEach State.disengageCage allCages).search
    = { s.search with waiting := (s.forEach State.disengageCage allCages).search.waiting } :=
  State.forEach_stays (f := State.disengageCage) (P := fun t => t.search = { s.search with waiting := t.search.waiting })
    (fun c t same => by rw [disengageCage_search, same]) rfl

/-- A controller with no transaction in flight, or one of another controller's cage, stays as it is. -/
theorem forEach_disengageCage_spared {k : ControllerId}
    (other : ∀ x, (s.controller k).inFlight = some x → k ≠ controllerOf x.request.cage) :
    (s.forEach State.disengageCage allCages).controller k = s.controller k :=
  State.forEach_stays (f := State.disengageCage) (P := fun t => t.controller k = s.controller k)
    (fun c t same => (disengageCage_controller fun x flies own => by
      rw [same] at flies
      exact own ▸ other x flies).trans same) rfl

end

/-! ### The whole change -/

/-- The device disengaged. -/
def State.disengaged (s : State) : State := { s with engaged := false }

/-- Service closed and the device disengaged, from `s` to `t`: the cages, their controllers and searches are as they were. -/
structure Withdrawn (s t : State) : Prop where
  shape : t = { s with
    engaged := false, links := t.links, poolFree := s.poolFree + s.blocksHeld, poolLow := t.poolLow, slotA := t.slotA
    slotB := t.slotB, raised := t.raised }
  link : ∀ j, t.link j = { s.link j with
    hold := { (s.link j).hold with service := .off, holdTimer := none, paused := Bank.fill 4 none }
    park := ⟨Bank.fill 4 [], (t.link j).park.critical⟩
    meter := idleMeter
    counters := { (s.link j).counters with discards := (t.link j).counters.discards }
    fabricSide := (t.link j).fabricSide }
  critical : ∀ j k, (t.link j).park.critical.get k
    = if (s.link j).park.fifos.get k = [] then (s.link j).park.critical.get k else false
  released : ∀ j, (s.link j).Released s.settings (t.link j)
  told : AllDiscarded (allLinks.flatMap (s.flushRecords .flushed)) s t
  raised : t.raised = s.raised ++ discardsOf (allLinks.flatMap (s.flushRecords .flushed))
  poolLow : t.poolLow = if (∃ j ∈ allLinks, (s.link j).park.isEmpty = false) ∧ s.settings.poolLowMark ≤ t.poolFree
    then false else s.poolLow
  cages : t.cages = s.cages
  controllers : t.controllers = s.controllers
  search : t.search = s.search
  now : t.now = s.now

theorem ServiceClosed.withdrawn (h : ServiceClosed s t) : Withdrawn s t.disengaged where
  shape := congrArg State.disengaged h.shape
  link := h.link
  critical := h.critical
  released := h.released
  told := ⟨h.told.counted, h.told.slotA, h.told.slotB, h.told.handed⟩
  raised := h.raised
  poolLow := h.poolLow
  cages := h.touched.cages
  controllers := h.touched.controllers
  search := h.touched.search
  now := h.touched.now

theorem exec_disengage (q : Requester) (idle : s.engineIdle) :
    exec (.disengage q) s = .next (State.answered q 0x12 .done [] [] (if s.engaged then s.disengage else s)) := by
  show execDisengage q s = _
  unfold execDisengage
  refine serve_answered (fun t : State => if t.engaged then t.disengage else t) .done [] [] rfl idle (fun m t => ?_)
    fun m => rfl
  rw [State.withEngine_engaged, State.disengage_withEngine]
  split <;> rfl

/-- Every cage has had its turn, from `s` to `t`. -/
structure CagesDisengaged (s t : State) : Prop where
  touched : Touches Anywhere [.cages, .lines, .controllers, .freeCount, .search, .engine, .attempt] s t
  search : t.search = { s.search with waiting := t.search.waiting }
  unseated : ∀ c, (s.cage c).mode = .absent ∨ (s.cage c).mode = .seating → t.cage c = s.cage c
    ∧ t.search.waiting.get c = s.search.waiting.get c ∧ ∀ j, cageOf j = c → (t.link j).engine = (s.link j).engine
  past : ∀ c, (s.cage c).mode ≠ .absent → (s.cage c).mode ≠ .seating → t.cage c = (s.cage c).disengaged s.now
    ∧ t.search.waiting.get c = false
    ∧ ∀ j, cageOf j = c → (t.link j).engine = if s.departs c j then (s.link j).engine.down else (s.link j).engine
  controller : ∀ k, ∃ later : Bool, t.controller k = { s.controller k with
    inFlight := (s.controller k).inFlight.map fun x : Transaction =>
      if controllerOf x.request.cage = k ∧ (s.cage x.request.cage).mode ≠ .absent
          ∧ (s.cage x.request.cage).mode ≠ .seating then x.left (s.cage x.request.cage).resetLine later
      else x }

theorem CageApart.departs (h : CageApart c s t) (j : LinkId) : t.departs c j ↔ s.departs c j := by
  unfold State.departs
  refine and_congr_right fun own => ?_
  rw [h.links j own, State.isActive, State.isActive, State.linkLayout, State.linkLayout, own, h.cage]

theorem forEach_disengageCage_controller (s : State) (k : ControllerId) :
    ∃ later : Bool, (s.forEach State.disengageCage allCages).controller k = { s.controller k with
      inFlight := (s.controller k).inFlight.map fun x : Transaction =>
        if controllerOf x.request.cage = k ∧ (s.cage x.request.cage).mode ≠ .absent
            ∧ (s.cage x.request.cage).mode ≠ .seating then x.left (s.cage x.request.cage).resetLine later
        else x } := by
  by_cases own : ∃ x, (s.controller k).inFlight = some x ∧ controllerOf x.request.cage = k
  · obtain ⟨x, flies, rfl⟩ := own
    obtain ⟨t, before, after⟩ := forEach_disengageCage_turn s x.request.cage
    generalize s.forEach State.disengageCage allCages = u at after
    have found := before.flies _ x flies rfl
    by_cases unseated : (s.cage x.request.cage).mode = .absent ∨ (s.cage x.request.cage).mode = .seating
    · rw [State.disengageCage_unseated (before.cage ▸ unseated)] at after
      refine ⟨true, (after.flies _ x (found ▸ flies) rfl).trans (found.trans ?_)⟩
      rw [flies, Option.map_some, if_neg fun h => (not_or.mpr h.2) unseated, ← flies]
    · obtain ⟨absent, seating⟩ := not_or.mp unseated
      obtain ⟨later, marked⟩ := (cageDisengaged_disengageCage (before.cage ▸ absent) (before.cage ▸ seating)).controller
      rw [found, before.cage] at marked
      generalize t.disengageCage x.request.cage = v at after marked
      refine ⟨later, ?_⟩
      rw [after.flies _ (x.left (s.cage x.request.cage).resetLine later) (by rw [marked, Controller.markFor_inFlight flies, if_pos rfl]) rfl, marked]
      unfold Controller.markFor
      rw [flies, Option.map_some, Option.map_some, if_pos rfl, if_pos ⟨rfl, absent, seating⟩]
  · refine ⟨true, (forEach_disengageCage_spared s fun x flies e => own ⟨x, flies, e.symm⟩).trans ?_⟩
    generalize s.controller k = m at own
    obtain ⟨inFlight, slot, bypass, last⟩ := m
    cases inFlight with
    | none => rfl
    | some x => rw [Option.map_some, if_neg fun h => own ⟨x, rfl, h.1⟩]

theorem cagesDisengaged (s : State) : CagesDisengaged s (s.forEach State.disengageCage allCages) := by
  have turn (c : CageId) := forEach_disengageCage_turn s c
  refine ⟨.forEach fun c _ t => touches_disengageCage c t, forEach_disengageCage_search s, fun c unseated => ?_,
    fun c absent seating => ?_, forEach_disengageCage_controller s⟩
  all_goals
    obtain ⟨t, before, after⟩ := turn c
    generalize s.forEach State.disengageCage allCages = u at after
  · rw [State.disengageCage_unseated (before.cage ▸ unseated)] at after
    have whole := before.trans after
    exact ⟨whole.cage, whole.waiting, fun j own => congrArg Link.engine (whole.links j own)⟩
  · have done := cageDisengaged_disengageCage (before.cage ▸ absent) (before.cage ▸ seating)
    refine ⟨?_, after.waiting.trans done.waiting, fun j own => ?_⟩
    · rw [after.cage, done.cage, before.cage, before.now]
    · rw [after.links j own, done.engine j own]
      simp only [before.departs, before.links j own]

/-- DISENGAGE, in its two parts. -/
theorem State.disengage_spec (s : State) : ∃ u w, s.disengage = u ∧ Withdrawn s w ∧ CagesDisengaged w u :=
  ⟨_, s.closeService.disengaged, rfl, (serviceClosed_closeService s).withdrawn, cagesDisengaged _⟩

end

/-- Settles O34. -/
theorem disengageClosesService : Obligations.DisengageClosesService := by
  intro q s idle
  obtain ⟨u, w, change, withdrawn, done⟩ := s.disengage_spec
  refine ⟨fun off => ?_, fun on => ⟨u, ?_, ?_⟩⟩
  · rw [exec_disengage q idle, off]
    rfl
  · rw [exec_disengage q idle, if_pos on, change]
  have link (j : LinkId) : u.link j = { w.link j with engine := (u.link j).engine } := done.touched.link_eq j
  have cage (c : CageId) : w.cage c = s.cage c := congrArg (·.get c) withdrawn.cages
  have engine (j : LinkId) : (w.link j).engine = (s.link j).engine := by rw [withdrawn.link]
  refine ⟨?_, ?_, fun j => ⟨?_, fun k => ?_, ?_⟩, ⟨fun j reason => ?_, ?_, ?_, ?_⟩, ?_, ?_, fun k => ?_,
    fun c => ⟨fun unseated => ?_, fun absent seating => ?_⟩⟩
  · rw [done.touched.raised, done.touched.poolLow, done.touched.slotA, done.touched.slotB]
    refine done.touched.eq.trans ?_
    rw [withdrawn.shape]
    rfl
  · rw [done.search, withdrawn.search]
  · rw [link, withdrawn.link]
  · rw [link]
    exact withdrawn.critical j k
  · refine Link.Released.sent ?_
    rw [link]
    exact (withdrawn.released j).trans (.of_same rfl rfl)
  · rw [link]
    exact withdrawn.told.counted j reason
  · rw [done.touched.slotA, withdrawn.told.slotA]
  · rw [done.touched.slotB, withdrawn.told.slotB]
  · rw [done.touched.raised, withdrawn.told.handed]
  · rw [done.touched.raised, withdrawn.raised]
  · rw [done.touched.poolLow, done.touched.poolFree, withdrawn.poolLow]
  · obtain ⟨later, marked⟩ := done.controller k
    rw [show w.controller k = s.controller k from congrArg (·.get k) withdrawn.controllers] at marked
    simp only [cage] at marked
    exact ⟨later, marked⟩
  · obtain ⟨same, waiting, engines⟩ := done.unseated c (cage c ▸ unseated)
    exact ⟨same.trans (cage c), by rw [waiting, withdrawn.search], fun j own => (engines j own).trans (engine j)⟩
  · obtain ⟨after, waiting, engines⟩ := done.past c (cage c ▸ absent) (cage c ▸ seating)
    have departs (j : LinkId) : w.departs c j ↔ s.departs c j := by
      rw [State.departs, State.departs, State.isActive, State.isActive, State.linkLayout, State.linkLayout, cage, engine]
    refine ⟨by rw [after, cage, withdrawn.now], waiting, fun j own => ⟨fun leaves => ?_, fun stays => ?_⟩⟩
    · rw [engines j own, if_pos ((departs j).mpr leaves), engine]
      rfl
    · rw [engines j own, if_neg fun h => stays ((departs j).mp h), engine]

end Sys2Proof.Machine
end

section
/-! PROOFS. DEVICE-RESTART (R122, R165). -/

set_option Elab.async false

namespace Sys2Proof.Machine

section
variable {s t : State} {r : Request}

/-! ### The reply goes first (R165; log 22) -/

/-- The reply DONE to the request `r` in execution has gone first, from `s` to `t`. -/
structure RepliedFirst (r : Request) (s t : State) : Prop where
  touched : Touches Anywhere [.management, .queue, .service, .notices, .fabricSide] s t
  levels : t.notices.levels = s.notices.levels
  service : r.port = .service → t.service = if s.service.sending = none then
      ⟨(s.service.replies ++ [s.replyFrame r .done [] []]).head?.map (ManagementFrame.sentUnder s.settings),
        (s.service.replies ++ [s.replyFrame r .done [] []]).drop 1⟩
    else { s.service with replies := s.service.replies ++ [s.replyFrame r .done [] []] }
  fabric : ∀ i, r.port = .fabric i → t.service = s.service
  urged : ∀ j, FabricEgress.Urged s.settings (if r.port = .fabric j ∧ (s.link j).hold.service.lanesUp = true then
      [.reply (s.replyFrame r .done [] [])] else []) (s.link j).fabricSide (t.link j).fabricSide

/-- A port for which a reply waits begins it where it is free. -/
theorem State.serveOut_replies (waits : s.service.replies ≠ []) : s.serveOut = { s with
    service := if s.service.sending = none then
        ⟨s.service.replies.head?.map (ManagementFrame.sentUnder s.settings), s.service.replies.drop 1⟩
      else s.service
    notices := { s.notices with gapTimer := s.serveOut.notices.gapTimer } } := by
  by_cases free : s.service.sending = none
  · obtain ⟨first, rest, waits⟩ := List.exists_cons_of_ne_nil waits
    have port : s.service = ⟨none, first :: rest⟩ := by
      rw [← waits, ← free]
    rw [State.serveOut_reply port, if_pos free, waits]
    rfl
  · rw [if_neg free, State.serveOut_busy free]

/-- The reply on the service port. -/
theorem State.replyFirst_service (port : r.port = .service) : ∃ gap : Timer, (s.executing r).replyFirst = { s with
    management := (s.executing r).management
    service := if s.service.sending = none then
        ⟨(s.service.replies ++ [s.replyFrame r .done [] []]).head?.map (ManagementFrame.sentUnder s.settings),
          (s.service.replies ++ [s.replyFrame r .done [] []]).drop 1⟩
      else { s.service with replies := s.service.replies ++ [s.replyFrame r .done [] []] }
    notices := { s.notices with gapTimer := gap } } := by
  have waits : s.service.replies ++ [s.replyFrame r .done [] []] ≠ [] :=
    fun none => List.cons_ne_nil _ _ (List.append_eq_nil_iff.mp none).2
  have joined : (s.executing r).replyFirst = State.serveOut { s with
      management := (s.executing r).management
      service := { s.service with replies := s.service.replies ++ [s.replyFrame r .done [] []] } } := by
    unfold State.replyFirst State.sendReply
    simp only [State.executing, State.updManagement, port]
    rfl
  refine ⟨(s.executing r).replyFirst.notices.gapTimer, ?_⟩
  rw [joined]
  exact State.serveOut_replies waits

/-- The reply on a link in service. -/
theorem State.replyFirst_fabric {i : LinkId} (port : r.port = .fabric i) (up : (s.link i).hold.service.lanesUp = true) :
    (s.executing r).replyFirst
      = (s.executing r).toFabric i fun e => { e with urgent := e.urgent ++ [.reply (s.replyFrame r .done [] [])] } := by
  unfold State.replyFirst
  simp only [State.executing, State.updManagement, port]
  exact if_pos up

/-- No reply goes on a link out of service. -/
theorem State.replyFirst_dropped {i : LinkId} (port : r.port = .fabric i) (down : ¬ (s.link i).hold.service.lanesUp = true) :
    (s.executing r).replyFirst = s.executing r := by
  unfold State.replyFirst
  simp only [State.executing, State.updManagement, port]
  exact if_neg down

theorem repliedFirst_replyFirst (r : Request) (s : State) : RepliedFirst r s (s.executing r).replyFirst := by
  have engine : Touches Anywhere [.management, .queue] s (s.executing r) := touches_updManagement _ s
  cases port : r.port with
  | service =>
    obtain ⟨gap, replied⟩ := State.replyFirst_service (s := s) port
    rw [replied]
    refine ⟨.of_parts fun p => by cases p <;> simp [Part.Same, State.cage, State.link], rfl, fun _ => rfl,
      fun i other => (Port.noConfusion (port.symm.trans other)), fun j => ?_⟩
    rw [if_neg fun h => Port.noConfusion (port.symm.trans h.1)]
    exact .refl _ _
  | fabric i =>
    by_cases up : (s.link i).hold.service.lanesUp = true
    · rw [State.replyFirst_fabric port up]
      have touched := touches_toFabric (only_self i) (fun e => { e with
        urgent := e.urgent ++ [.reply (s.replyFrame r .done [] [])] }) (s.executing r)
      refine ⟨engine.trans (touched.widen fun _ _ => trivial), congrArg NoticeUnit.levels touched.notices,
        fun other => Port.noConfusion (port.symm.trans other), fun _ _ => touched.service, fun j => ?_⟩
      by_cases here : i = j
      · subst here
        rw [if_pos ⟨port, up⟩, State.toFabric, State.link_updLink_self]
        exact .begin (List.cons_ne_nil _ _) _ _
      · rw [if_neg fun h => here (Port.fabric.inj (port.symm.trans h.1)), touched.elsewhere j fun e => here e.symm]
        exact .refl _ _
    · rw [State.replyFirst_dropped port up]
      refine ⟨engine.mono, rfl, fun other => Port.noConfusion (port.symm.trans other), fun _ _ => rfl, fun j => ?_⟩
      rw [if_neg]
      · exact .refl _ _
      · rintro ⟨here, up'⟩
        exact up (Port.fabric.inj (port.symm.trans here) ▸ up')

/-! ### The traffic ends (R122, R141) -/

/-- The counters at 0 and the discard slots empty. -/
def State.zeroed (s : State) : State :=
  ({ s with slotA := none, slotB := none } : State).forEach (fun j => State.updCounters j fun _ => zeroCounters) allLinks

theorem touches_zeroed (s : State) : Touches Anywhere [.slotA, .slotB, .counters] s s.zeroed :=
  (touches_setSlots none none s).trans (.forEach fun _ _ t => touches_updCounters trivial (fun _ => zeroCounters) t)

theorem State.zeroed_link (j : LinkId) (s : State) : s.zeroed.link j = { s.link j with counters := zeroCounters } := by
  obtain ⟨t, found, result⟩ := State.forEach_at (f := fun j => State.updCounters j fun _ => zeroCounters)
    (fun i t => touches_updCounters (only_self i) (fun _ => zeroCounters) t) allLinks_nodup (mem_allLinks j)
    { s with slotA := none, slotB := none }
  rw [State.zeroed, result, State.updCounters, State.link_updLink_self, found.elsewhere j (by simp)]
  rfl

theorem State.zeroed_slots (s : State) : s.zeroed.slotA = none ∧ s.zeroed.slotB = none := by
  have touched : Touches Anywhere [.counters] { s with slotA := none, slotB := none } s.zeroed :=
    .forEach fun _ _ t => touches_updCounters trivial (fun _ => zeroCounters) t
  exact ⟨touched.slotA, touched.slotB⟩

/-- The traffic has ended, from `s` to `t`: what was counted and kept before is gone. -/
structure TrafficEnded (s t : State) : Prop where
  touched : Touches Anywhere (storeParts ++ [.serving, .meter]) s t
  slotA : t.slotA = (allLinks.flatMap (s.flushRecords .flushed)).head?
  slotB : t.slotB = ((allLinks.flatMap (s.flushRecords .flushed)).drop 1).head?
  counters : ∀ j, (t.link j).counters = { zeroCounters with discards := (t.link j).counters.discards }
  counted : ∀ (j : LinkId) (reason : DiscardReason), (t.link j).counters.discards.get reason.place
    = if reason = .flushed then min 4294967295 (s.link j).park.frames else 0
  urged : ∀ j, FabricEgress.Urged s.settings (((List.finRange 4).filter (s.releasing j)).map (releaseFrame s.settings))
    (s.link j).fabricSide (t.link j).fabricSide

theorem State.restartTraffic_eq (s : State) : s.restartTraffic = s.zeroed.closeService := rfl

theorem State.flushRecords_length (s : State) (j : LinkId) (reason : DiscardReason) :
    (s.flushRecords reason j).length = (s.link j).park.frames := by
  simp only [State.flushRecords, ParkState.frames, List.flatMap_cons, List.flatMap_nil, List.length_append, List.length_map,
    List.length_nil, show List.finRange 4 = [0, 1, 2, 3] from rfl, List.map_cons, List.map_nil, List.sum_cons, List.sum_nil]
  omega

theorem State.flushRecords_reason (s : State) (j : LinkId) (reason : DiscardReason) :
    ∀ r ∈ s.flushRecords reason j, r.reason = reason := by
  intro r hr
  obtain ⟨k, _, hr⟩ := List.mem_flatMap.mp hr
  obtain ⟨f, _, rfl⟩ := List.mem_map.mp hr
  rfl

/-- Of what a flush of every link discards, a link's own frames are counted FLUSHED. -/
theorem State.flushRecords_counted (s : State) (j : LinkId) (reason : DiscardReason) :
    ((allLinks.flatMap (s.flushRecords .flushed)).filter fun r => r.reason = reason && r.link = j).length
      = if reason = .flushed then (s.link j).park.frames else 0 := by
  have own (i : LinkId) : (s.flushRecords .flushed i).filter (fun r => r.reason = reason && r.link = j)
      = if reason = .flushed ∧ i = j then s.flushRecords .flushed i else [] := by
    split
    · next h =>
      exact List.filter_eq_self.mpr fun r hr => by
        rw [s.flushRecords_reason i _ r hr, s.flushRecords_link _ i r hr, h.1, h.2]
        simp
    · next h =>
      exact List.filter_eq_nil_iff.mpr fun r hr => by
        rw [s.flushRecords_reason i _ r hr, s.flushRecords_link _ i r hr, Bool.and_eq_true_iff, decide_eq_true_eq,
          decide_eq_true_eq]
        exact fun e => h ⟨e.1.symm, e.2⟩
  have nodup := allLinks_nodup
  have member := mem_allLinks j
  generalize allLinks = l at nodup member
  rw [List.filter_flatMap, funext own, List.flatMap_ite]
  by_cases due : reason = .flushed
  · have alone : (l.filter fun i => decide (reason = .flushed ∧ i = j)) = [j] :=
      List.perm_singleton.mp ((List.perm_ext_iff_of_nodup (nodup.filter _) (List.nodup_singleton j)).mpr fun i => by
        simp only [List.mem_filter, decide_eq_true_eq, List.mem_singleton]
        exact ⟨fun h => h.2.2, fun h => ⟨h ▸ member, due, h⟩⟩)
    rw [alone, if_pos due, List.flatMap_singleton, s.flushRecords_length]
  · rw [if_neg due, List.filter_eq_nil_iff.mpr fun i _ => by simp [due]]
    rfl

theorem trafficEnded_of (w : State) (zero : Touches Anywhere [.slotA, .slotB, .counters] s w)
    (links : ∀ j, w.link j = { s.link j with counters := zeroCounters }) (slots : w.slotA = none ∧ w.slotB = none)
    (closed : ServiceClosed w t) : TrafficEnded s t := by
  have records : allLinks.flatMap (w.flushRecords .flushed) = allLinks.flatMap (s.flushRecords .flushed) :=
    List.flatMap_congr fun j _ => by rw [State.flushRecords, State.flushRecords, links, zero.now]
  have told := closed.told
  rw [records] at told
  have due (j : LinkId) : w.releasing j = s.releasing j := funext fun k => by
    rw [State.releasing, State.releasing, links, zero.settings]
  refine ⟨zero.trans closed.touched, ?_, ?_, fun j => ?_, fun j reason => ?_, fun j => ?_⟩
  · rw [told.slotA, slots.1, Option.none_or]
  · rw [told.slotB, slots.1, slots.2, if_pos rfl, Option.none_or]
  · rw [closed.link, links]
  · have none : zeroCounters.discards.get reason.place = 0 := Bank.get_fill ..
    rw [told.counted, links, none, s.flushRecords_counted]
    unfold countedBy
    split
    · split
      · next h => rw [h]; rfl
      · rw [Nat.zero_add]
    · rfl
  · have urged := closed.urged j
    rw [links, zero.settings, due] at urged
    exact urged

theorem trafficEnded_restartTraffic (s : State) : TrafficEnded s s.restartTraffic :=
  trafficEnded_of s.zeroed (touches_zeroed s) (s.zeroed_link ·) s.zeroed_slots (serviceClosed_closeService s.zeroed)

end

end Sys2Proof.Machine
end

section
/-! PROOFS. The state that DEVICE-RESTART leaves (R165). -/

set_option Elab.async false

namespace Sys2Proof.Machine

section
variable {q : Requester} {s u v w : State} {r : Request}

/-- DEVICE-RESTART, in its three parts. -/
theorem exec_deviceRestart (q : Requester) (idle : s.engineIdle) : ∃ v w,
    exec (.deviceRestart q) s = .next w.restartedFrom.settle ∧ RepliedFirst (requestOf q 0x13 []) s v ∧ TrafficEnded v w := by
  refine ⟨(s.executing (requestOf q 0x13 [])).replyFirst, _, ?_, repliedFirst_replyFirst _ s, trafficEnded_restartTraffic _⟩
  show execDeviceRestart q s = _
  unfold execDeviceRestart
  rw [serve_parts _ rfl idle, State.restart_eq]

theorem State.replyFrame_asked (q : Requester) (code : Byte) (body : List Byte) (o : RequestOutcome) (fields : List Nat)
    (data : List Byte) : s.replyFrame (requestOf q code body) o fields data = s.replyFrame (askedBy q code) o fields data :=
  rfl

/-- A reply leaves as it was made, while the configuration stands. -/
theorem State.replyFrame_sent (r : Request) (o : RequestOutcome) (fields : List Nat) (data : List Byte) :
    (FabricFrame.reply (s.replyFrame r o fields data)).sentUnder s.settings = .reply (s.replyFrame r o fields data) := rfl

/-! ### The restart values -/

theorem State.restartedFrom_link (j : LinkId) : w.restartedFrom.link j = (w.link j).restarted w.settings (w.isActive j) :=
  Bank.get_tabulate ..

theorem State.restartedFrom_cage (c : CageId) : w.restartedFrom.cage c = (w.cage c).restarted w.now w.settings.seatingTime :=
  Bank.get_tabulate ..

theorem State.restartedFrom_channel (h : ChannelId) : w.restartedFrom.channel h = resetChannel := Bank.get_fill ..

theorem State.restartedFrom_held (c : CageId) :
    w.restartedFrom.memory.held.get c = (w.memory.held.get c && (w.cage c).present) := Bank.get_tabulate ..

/-! ### What stands after it -/

/-- The frames that wait for a link's egress toward the switch, or of which it begins the first. -/
abbrev State.restartFrames (s : State) (r : Request) (j : LinkId) : List FabricFrame :=
  (s.link j).fabricSide.urgent
    ++ (if r.port = .fabric j ∧ (s.link j).hold.service.lanesUp = true then [.reply (s.replyFrame r .done [] [])] else [])
    ++ ((List.finRange 4).filter (s.releasing j)).map (releaseFrame s.settings)

variable (replied : RepliedFirst r s v) (ended : TrafficEnded v w)
include replied

theorem RepliedFirst.records : allLinks.flatMap (v.flushRecords .flushed) = allLinks.flatMap (s.flushRecords .flushed) :=
  List.flatMap_congr fun j _ => by
    rw [State.flushRecords, State.flushRecords, replied.touched.fifos j, replied.touched.now]

theorem RepliedFirst.frames (j : LinkId) : (v.link j).park.frames = (s.link j).park.frames := by
  rw [ParkState.frames, ParkState.frames, replied.touched.fifos j]

include ended

theorem TrafficEnded.touched_all : Touches Anywhere
    (storeParts ++ [.serving, .meter, .management, .queue, .service, .notices]) s w :=
  replied.touched.trans ended.touched

/-- The egress toward the switch. -/
theorem TrafficEnded.restarted_egress (j : LinkId) : (w.restartedFrom.link j).fabricSide
    = match (s.link j).fabricSide.sending with
      | some f => ⟨some f, s.restartFrames r j, [], []⟩
      | none => ⟨(s.restartFrames r j).head?.map (FabricFrame.sentUnder s.settings), (s.restartFrames r j).drop 1, [], []⟩ := by
  have settings := replied.touched.settings
  have due : v.releasing j = s.releasing j := funext fun k => by
    rw [State.releasing, State.releasing, replied.touched.hold j, settings]
  have second := ended.urged j
  rw [settings, due] at second
  have sent := ((replied.urged j).trans second).lone
  rw [w.restartedFrom_link, ended.touched.settings, settings]
  refine Eq.trans (sent : (w.link j).fabricSide.lone s.settings = _) ?_
  rw [FabricEgress.lone_eq]
  simp only [FabricEgress.urging, State.restartFrames, List.append_assoc] <;> rfl

/-- The reply goes onto a link in service. -/
theorem TrafficEnded.reply_due {j : LinkId} (port : r.port = .fabric j) (up : (s.link j).hold.service.lanesUp = true) :
    (w.restartedFrom.link j).fabricSide.sending = some (.reply (s.replyFrame r .done [] []))
      ∨ .reply (s.replyFrame r .done [] []) ∈ (w.restartedFrom.link j).fabricSide.urgent := by
  have waits : .reply (s.replyFrame r .done [] []) ∈ s.restartFrames r j := by
    unfold State.restartFrames
    rw [if_pos ⟨port, up⟩]
    simp
  rw [ended.restarted_egress replied]
  cases (s.link j).fabricSide.sending with
  | some f => exact .inr waits
  | none =>
    generalize s.restartFrames r j = l at waits
    cases l with
    | nil => cases waits
    | cons f rest =>
      rcases List.mem_cons.mp waits with rfl | later
      · exact .inl rfl
      · exact .inr later

theorem TrafficEnded.restarted_link (j : LinkId) : w.restartedFrom.link j =
    { engine := emptyEngine (if s.isActive j = true then .down else .inactive), penalty := 0, suppressed := false
      hold := ⟨.off, none, .none, Bank.fill 4 none⟩, park := ⟨Bank.fill 4 [], Bank.fill 4 false⟩
      meter := idleMeter, counters := (w.restartedFrom.link j).counters, discardMark := false
      fabricSide := (w.restartedFrom.link j).fabricSide, moduleSide := ⟨none, []⟩, probeSent := (s.link j).probeSent } := by
  have touched := ended.touched_all replied
  have active : w.isActive j = s.isActive j := by
    rw [State.isActive, State.isActive, State.linkLayout, State.linkLayout, State.cage, State.cage, touched.cages]
  have probe := touched.probeSent j
  rw [w.restartedFrom_link, active, ← probe]
  rfl

theorem TrafficEnded.restarted_counters (j : LinkId) : (w.restartedFrom.link j).counters
      = { zeroCounters with discards := (w.restartedFrom.link j).counters.discards }
    ∧ ∀ reason : DiscardReason, (w.restartedFrom.link j).counters.discards.get reason.place
      = if reason = .flushed then min 4294967295 (s.link j).park.frames else 0 := by
  have counters : (w.restartedFrom.link j).counters = (w.link j).counters := by
    rw [w.restartedFrom_link]
    rfl
  rw [counters]
  exact ⟨ended.counters j, fun reason => by rw [ended.counted, replied.frames]⟩

end

/-- Settles O35. -/
theorem deviceRestartKeepsConfiguration : Obligations.DeviceRestartKeepsConfiguration := by
  intro q s idle
  obtain ⟨v, w, run, replied, ended⟩ := exec_deviceRestart q idle
  have touched := ended.touched_all replied
  have cage (c : CageId) : w.cage c = s.cage c := congrArg (·.get c) touched.cages
  have memory := touched.memory
  have records := replied.records
  refine ⟨w.restartedFrom, run, touched.table, touched.sets, touched.settings,
    (congrArg RecoveryMemory.positions memory : w.memory.positions = _),
    (congrArg RecoveryMemory.cache memory : w.memory.cache = _),
    (congrArg RecoveryMemory.peers memory : w.memory.peers = _), ?_, touched.now,
    touched.pending, rfl, rfl, rfl, rfl, rfl, rfl, rfl, rfl, rfl, touched.freeCount, ?_,
    ⟨fun port => ?_, fun j port => ⟨?_, fun up => ended.reply_due replied port up⟩⟩,
    ⟨?_, ?_⟩, w.restartedFrom_channel, fun c => ⟨?_, ?_⟩, fun j => ⟨ended.restarted_link replied j, ?_, ?_⟩⟩
  · exact (congrArg NoticeUnit.levels ended.touched.notices).trans replied.levels
  · exact congrArg₂ (fun (m : Moment) (g : Settings) => m + g.decayTick * 3125000) touched.now touched.settings
  · exact ended.touched.service.trans (replied.service port)
  · exact ended.touched.service.trans (replied.fabric j port)
  · rw [← records]
    exact ended.slotA
  · rw [← records]
    exact ended.slotB
  · rw [w.restartedFrom_cage, cage, touched.now, touched.settings]
    rfl
  · rw [w.restartedFrom_held, cage, memory]
  · exact ended.restarted_egress replied j
  · obtain ⟨rest, counted⟩ := ended.restarted_counters replied j
    refine ⟨?_, ?_, ?_, counted⟩ <;> rw [rest] <;> rfl

end Sys2Proof.Machine
end

section
/-! PROOFS. A cage's links depart, and are flushed (R49, R56, R114, R141). -/

set_option Elab.async false

namespace Sys2Proof.Machine

section
variable {cause : LossCause} {c : CageId} {j : LinkId} {front : List Signal} {s t u w : State}

/-! ### The departure -/

/-- Whether link `j` takes the loss path as its cage leaves the state it is in (R49, R114). -/
abbrev State.loses (s : State) (c : CageId) (j : LinkId) : Prop := (s.cage c).mode = .serving ∧ s.departs c j

theorem State.losers_eq (s : State) (c : CageId) : s.losers c = (linksOf c).filter fun j => s.loses c j := by
  unfold State.losers State.loses
  by_cases serving : (s.cage c).mode = .serving
  · simp only [serving, true_and, if_true]
  · rw [if_neg serving, List.filter_eq_nil_iff.mpr fun j _ => by simp [serving]]

theorem State.mem_losers : j ∈ s.losers c ↔ s.loses c j := by
  rw [State.losers_eq, List.mem_filter, mem_linksOf, decide_eq_true_eq]
  exact and_iff_right_of_imp fun h => h.2.1

/-- The links of cage `c` have departed, from `s` by way of `t`, which changes nothing that a loss reads but the egresses,
to `w`. -/
structure Departed (cause : LossCause) (c : CageId) (front : List Signal) (s t w : State) : Prop where
  lost : ∀ j, s.loses c j → LostTo cause cause.leads j s w
  pauses : ∀ j, s.loses c j → t.link j = s.link j → LossPauses j s w
  shape : ∀ j, s.loses c j → w.link j = { s.link j with
    engine := (w.link j).engine, penalty := (w.link j).penalty, suppressed := (w.link j).suppressed
    hold := (w.link j).hold, park := (w.link j).park, meter := (w.link j).meter
    counters := { (s.link j).counters with
      losses := (w.link j).counters.losses, discards := (w.link j).counters.discards }
    fabricSide := (w.link j).fabricSide }
  stays : ∀ j, ¬ s.loses c j → w.link j = t.link j
  told : Drained.losses cause (s.losers c) front s w
  touched : Touches Anywhere lossParts t w

theorem departed (same : ∀ j, SameLoss j s t) (before : Drained [] front 0 false s t) :
    Departed cause c front s t (if (s.cage c).mode = .serving then t.departLinks c cause else t) := by
  by_cases serving : (s.cage c).mode = .serving
  · rw [if_pos serving]
    have departs (j : LinkId) : t.departs c j ↔ s.departs c j := (same j).departs
    have leavers : t.leavers c = s.losers c := by
      rw [State.losers, if_pos serving, State.leavers]
      exact List.filter_congr fun j _ => by simp only [departs]
    have drained := (t.departLinks_drained cause c).of_same (fun j _ => same j) before
    rw [leavers] at drained
    refine ⟨fun j loses => ?_, fun j loses link => ?_, fun j loses => ?_, fun j stays => ?_, drained,
      (touches_departLinks c cause t).widen fun _ _ => trivial⟩
    · obtain ⟨lost, -, -⟩ := State.departLinks_lost cause ((departs j).mpr loses.2)
      exact lost.of_same (same j) rfl lost.told
    · obtain ⟨-, pauses, -⟩ := State.departLinks_lost cause ((departs j).mpr loses.2)
      exact pauses.of_same (.of_link (same j).course (same j).settings link) rfl rfl rfl rfl
    · obtain ⟨-, -, link⟩ := State.departLinks_lost cause ((departs j).mpr loses.2)
      rw [link, (same j).link]
    · exact State.departLinks_stays cause fun h => stays ⟨serving, (departs j).mp h⟩
  · rw [if_neg serving]
    refine ⟨fun j loses => absurd loses.1 serving, fun j loses => absurd loses.1 serving, fun j loses => absurd loses.1 serving,
      fun _ _ => rfl, ?_, .refl ..⟩
    rw [State.losers, if_neg serving]
    unfold Drained.losses
    simpa using before

/-! ### Links flushed one after another -/

/-- Link `j` has been emptied in a flush of several links, from `s` to `t`. -/
structure LinkEmptied (j : LinkId) (s t : State) : Prop where
  park : (t.link j).park = ⟨Bank.fill 4 [], (t.link j).park.critical⟩
  critical : ∀ k, (t.link j).park.critical.get k
    = if (s.link j).park.fifos.get k = [] then (s.link j).park.critical.get k else false
  paused : ∀ k, (t.link j).hold.paused.get k
    = if (s.link j).park.fifos.get k ≠ [] ∧ s.levelReleases j then none else (s.link j).hold.paused.get k
  rest : t.link j = { s.link j with
    hold := { (s.link j).hold with paused := (t.link j).hold.paused }
    park := (t.link j).park
    counters := { (s.link j).counters with discards := (t.link j).counters.discards }
    fabricSide := (t.link j).fabricSide }
  released : (s.link j).Released s.settings (t.link j)

theorem LinkFlushed.emptied {reason : DiscardReason} (h : LinkFlushed reason j t u) (before : t.link j = s.link j)
    (settings : t.settings = s.settings) (after : w.link j = u.link j) : LinkEmptied j s w where
  park := by rw [after, h.park]
  critical k := by rw [after, h.critical, before]
  paused k := by
    rw [after, h.paused]
    simp only [State.levelReleases, before, settings]
  rest := by rw [after, ← before]; exact h.rest
  released := by rw [after, ← before, ← settings]; exact h.released

theorem forEach_flushLink_emptied {reason : DiscardReason} {l : List LinkId} (nodup : l.Nodup) (member : j ∈ l) (s : State) :
    LinkEmptied j s (s.forEach (State.flushLink reason) l) := by
  obtain ⟨t, found, result⟩ := (s.forEach_flushLink reason nodup).1 j member
  exact (linkFlushed_flushLink reason j t).emptied (found.elsewhere j (by simp)) found.settings result

/-! ### Pauses of a link lost and then flushed -/

/-- A class that is not paused, on a link on which a fall releases, is not paused by the loss. -/
theorem State.pausedAfterLoss_free {k : ClassId} (free : (s.link j).hold.paused.get k = none)
    (releases : serviceAfterLoss (s.link j).hold.service (s.linkSet j).holdOff = .replay
      ∨ (serviceAfterLoss (s.link j).hold.service (s.linkSet j).holdOff = .hold ∧ s.settings.pauseOnHold = false)) :
    s.pausedAfterLoss j k = none := by
  have off : (s.linkSet j).holdOff ≠ 0 → (s.link j).hold.service = .pass ∨ (s.link j).hold.service = .replay →
      s.settings.pauseOnHold = false := by
    rintro long (h | h) <;> rw [h, serviceAfterLoss, if_neg long] at releases <;> exact (releases.resolve_left nofun).2
  unfold State.pausedAfterLoss
  rw [free]
  split
  · next h =>
    split
    · rfl
    · next long => rw [if_neg fun on => Bool.false_ne_true ((off long (.inl h)).symm.trans on.1)]
  · next h =>
    split
    · rfl
    · next long => rw [if_neg fun on => Bool.false_ne_true ((off long (.inr h)).symm.trans on.1)]
  all_goals rfl

theorem LossPauses.emptied_releases (lost : LossPauses j s t) (emptied : LinkEmptied j t u) (settings : t.settings = s.settings)
    (service : (t.link j).hold.service = serviceAfterLoss (s.link j).hold.service (s.linkSet j).holdOff) :
    ReleasesSent j s u := by
  have released := emptied.released
  rw [settings] at released
  refine ⟨fun k due gone mapped => ?_, fun same => ?_⟩
  · by_cases between : (t.link j).hold.paused.get k = none
    · exact released.held _ rfl (lost.releasing k due (lost.paused k ▸ between) mapped)
    · exact released.told k (Option.isSome_iff_ne_none.mpr between) gone mapped
  · have still (k : ClassId) (mapped : prioritiesOf s.settings k ≠ 0) :
        (t.link j).hold.paused.get k = (s.link j).hold.paused.get k ∧ (u.link j).hold.paused.get k = (t.link j).hold.paused.get k := by
      have after := (same k).resolve_left mapped
      have turn := emptied.paused k
      by_cases fell : (t.link j).park.fifos.get k ≠ [] ∧ t.levelReleases j
      · rw [if_pos fell] at turn
        have level := fell.2
        rw [State.levelReleases, service, settings] at level
        have between : (t.link j).hold.paused.get k = none :=
          (lost.paused k).trans (State.pausedAfterLoss_free (after ▸ turn) level)
        exact ⟨between.trans (turn.symm.trans after), turn.trans between.symm⟩
      · rw [if_neg fell] at turn
        exact ⟨turn.symm.trans after, turn⟩
    rw [released.silent fun k => or_iff_not_imp_left.mpr fun mapped => (still k mapped).2,
      lost.silent fun k => or_iff_not_imp_left.mpr fun mapped => (lost.paused k).symm.trans (still k mapped).1]

theorem LossPauses.emptied_pauses (lost : LossPauses j s t) (emptied : LinkEmptied j t u) (settings : t.settings = s.settings)
    {k : ClassId} (free : (s.link j).hold.paused.get k = none) (due : ((u.link j).hold.paused.get k).isSome)
    (mapped : prioritiesOf s.settings k ≠ 0) :
    (u.link j).fabricSide.holdsPause ⟨prioritiesOf s.settings k, s.settings.pauseTime⟩ := by
  have released := emptied.released
  rw [settings] at released
  refine released.held _ (PauseFrame.current_pausing ..) (lost.pausing k free ?_ mapped)
  rw [← lost.paused]
  rcases released.falls k with same | gone
  · exact same ▸ due
  · simp [gone] at due

end

end Sys2Proof.Machine
end

section
/-! PROOFS. CAGE-RESTART (R56). -/

set_option Elab.async false

namespace Sys2Proof.Machine

section
variable {c : CageId} {j : LinkId} {s t u w : State}

/-! ### A cage seated again (R10, R12, R40) -/

/-- Cage `c` has returned to SEATING, from `s` to `t`, before its links depart. -/
structure SeatedAgain (c : CageId) (s t : State) : Prop where
  shape : t = { s with
    cages := t.cages, controllers := t.controllers
    freeCount := if (s.cage c).resetLine = true then s.freeCount else s.freeCount + 1
    search := { s.search with waiting := s.search.waiting.set c false } }
  cage : t.cage c = { s.cage c with
    mode := .seating, failedCause := .none, resetLine := true, lowPower := true, guardOrigin := s.now
    seatingTimer := some (s.now + s.settings.seatingTime * 3125000)
    readyTimer := none, guardTimer := none, powerUpTimer := none, pollTimer := none
    flagRequested := false, readAgain := false, identityBytes := [], busRequests := []
    lastPage := if (s.cage c).resetLine = true then (s.cage c).lastPage else none }
  cages : ∀ d, d ≠ c → t.cage d = s.cage d
  controller : ∃ later : Bool, t.controller (controllerOf c)
    = (s.controller (controllerOf c)).markFor c (Transaction.left (s.cage c).resetLine later)
  controllers : ∀ k, k ≠ controllerOf c → t.controller k = s.controller k

theorem VisitLeft.seated (h : VisitLeft c s t) (now : Moment) (end_ : Moment) (isNow : now = s.now)
    (isEnd : end_ = s.now + s.settings.seatingTime * 3125000) : SeatedAgain c s (t.updCage c fun m =>
      { (m.resetTo .seating now) with guardOrigin := now, seatingTimer := some end_ }) := by
  subst isNow isEnd
  refine ⟨?_, ?_, fun d other => ?_, h.controller, h.controllers⟩
  · rw [← h.freeCount]
    exact congrArg (fun v : State => v.updCage c fun m => { (m.resetTo .seating s.now) with
      guardOrigin := s.now, seatingTimer := some (s.now + s.settings.seatingTime * 3125000) }) h.shape
  · rw [State.cage_updCage_self, h.cage]
    rfl
  · rw [State.cage_updCage_ne _ _ _ _ other.symm, h.cages d other]

theorem seatedAgain_seatAgain (c : CageId) (s : State) : SeatedAgain c s (s.seatAgain c) :=
  (visitLeft_leaveVisit c s).seated s.now (s.inMs s.settings.seatingTime) rfl rfl

namespace SeatedAgain

variable (h : SeatedAgain c s t)
include h

theorem link (j : LinkId) : t.link j = s.link j := by
  rw [h.shape]
  rfl

theorem sameLoss (j : LinkId) : SameLoss j s t := by
  have kept : (t.cage (cageOf j)).fabricLayout = (s.cage (cageOf j)).fabricLayout
      ∧ (t.cage (cageOf j)).workingCopy = (s.cage (cageOf j)).workingCopy := by
    by_cases own : cageOf j = c
    · rw [own, h.cage]
      exact ⟨rfl, rfl⟩
    · rw [h.cages _ own]
      exact ⟨rfl, rfl⟩
  refine .of_link ⟨by rw [h.shape], kept.1, ?_⟩ (by rw [h.shape]) (h.link j)
  rw [State.linkSet, State.linkSet, State.workingSet, State.workingSet, kept.2]

theorem quiet : Drained [] [] 0 false s t := by
  rw [h.shape]
  exact .of_same (fun _ => rfl) rfl rfl rfl rfl rfl rfl

end SeatedAgain

theorem List.any_or_any {α : Type} (p q : α → Bool) (l : List α) : (l.any p || l.any q) = l.any fun x => p x || q x := by
  rw [Bool.eq_iff_iff]
  simp only [Bool.or_eq_true, List.any_eq_true, and_or_left, exists_or]

/-! ### What the departed links still hold (R115, R141) -/

section
variable {cause : LossCause} {front : List Signal} (h : Departed cause c front s t w)
include h

/-- Whether a link departs into SHED. -/
abbrev State.shedsAt (s : State) (c : CageId) (j : LinkId) : Prop := s.loses c j ∧ s.shedsAtLoss j

theorem Departed.park_shed (link : t.link j = s.link j) (sheds : s.shedsAt c j) (k : ClassId) :
    (w.link j).park.fifos.get k = [] ∧ (w.link j).park.critical.get k
      = if (s.link j).park.fifos.get k = [] then (s.link j).park.critical.get k else false :=
  (h.pauses j sheds.1 link).shed sheds.2 k

theorem Departed.park_kept (link : t.link j = s.link j) (keeps : ¬ s.shedsAt c j) : (w.link j).park = (s.link j).park := by
  by_cases loses : s.loses c j
  · exact ((h.pauses j loses link).kept fun sheds => keeps ⟨loses, sheds⟩).1
  · rw [h.stays j loses, link]

theorem Departed.critical (link : t.link j = s.link j) (k : ClassId) :
    (if (w.link j).park.fifos.get k = [] then (w.link j).park.critical.get k else false)
      = if (s.link j).park.fifos.get k = [] then (s.link j).park.critical.get k else false := by
  by_cases sheds : s.shedsAt c j
  · obtain ⟨empty, marks⟩ := h.park_shed link sheds k
    rw [if_pos empty, marks]
  · rw [h.park_kept link sheds]

theorem Departed.flushRecords (link : t.link j = s.link j) (now : w.now = s.now) (reason : DiscardReason) :
    w.flushRecords reason j = if ¬ s.shedsAt c j then s.flushRecords reason j else [] := by
  by_cases sheds : s.shedsAt c j
  · rw [if_neg (not_not.mpr sheds), State.flushRecords]
    exact List.flatMap_eq_nil_iff.mpr fun k _ => by rw [(h.park_shed link sheds k).1]; rfl
  · rw [if_pos sheds, State.flushRecords, State.flushRecords, h.park_kept link sheds, now]

theorem Departed.occupancy (link : t.link j = s.link j) :
    (if s.shedsAt c j then (s.link j).park.occupancy else 0) + (w.link j).park.occupancy = (s.link j).park.occupancy := by
  by_cases sheds : s.shedsAt c j
  · have empty : (w.link j).park.occupancy = 0 := by
      rw [← w.sum_occupancy j]
      simp [State.occupancy, (h.park_shed link sheds _).1, blocksIn]
    rw [if_pos sheds, empty, Nat.add_zero]
  · rw [if_neg sheds, h.park_kept link sheds, Nat.zero_add]

theorem Departed.isEmpty (link : t.link j = s.link j) :
    (decide (s.shedsAt c j ∧ (s.link j).park.isEmpty = false) || !(w.link j).park.isEmpty) = !(s.link j).park.isEmpty := by
  by_cases sheds : s.shedsAt c j
  · have empty : (w.link j).park.isEmpty = true := (ParkState.isEmpty_iff _).mpr fun k => (h.park_shed link sheds k).1
    cases known : (s.link j).park.isEmpty <;> simp [sheds, empty, known]
  · simp [sheds, h.park_kept link sheds]

/-- The frames that cage `c`'s links lose as they depart and are then flushed: those of the links that go to SHED first. -/
abbrev State.restartRecords (s : State) (c : CageId) : List DiscardRecord :=
  ((linksOf c).filter fun j => s.shedsAt c j).flatMap (s.flushRecords .expired)
    ++ ((linksOf c).filter fun j => ¬ s.shedsAt c j).flatMap (s.flushRecords .flushed)

/-- What the departure and the flush hand on. -/
theorem Departed.flushed (links : ∀ j, t.link j = s.link j) (now : w.now = s.now)
    (flush : Drained.flushes .flushed (linksOf c) w u) : Drained (s.restartRecords c)
      (front ++ (s.losers c).flatMap (s.lossSignals cause)
        ++ discardsOf (((linksOf c).filter fun j => ¬ s.shedsAt c j).flatMap (s.flushRecords .flushed)))
      ((linksOf c).map fun j => (s.link j).park.occupancy).sum ((linksOf c).any fun j => !(s.link j).park.isEmpty) s u := by
  have both := Drained.trans h.told flush
  have losers : s.losers c = (linksOf c).filter fun j => s.loses c j := s.losers_eq c
  have expired : (s.losers c).flatMap (fun j => if s.shedsAtLoss j then s.flushRecords .expired j else [])
      = ((linksOf c).filter fun j => s.shedsAt c j).flatMap (s.flushRecords .expired) := by
    rw [List.flatMap_ite, losers, List.filter_filter]
    congr 1
    exact List.filter_congr fun j _ => by rw [Bool.eq_iff_iff]; simp [State.shedsAt, and_comm]
  have flushed : (linksOf c).flatMap (w.flushRecords .flushed)
      = ((linksOf c).filter fun j => ¬ s.shedsAt c j).flatMap (s.flushRecords .flushed) := by
    rw [← List.flatMap_ite]
    exact List.flatMap_congr fun j _ => h.flushRecords (links j) now .flushed
  have blocks : ((s.losers c).map fun j => if s.shedsAtLoss j then (s.link j).park.occupancy else 0).sum
      + ((linksOf c).map fun j => (w.link j).park.occupancy).sum
      = ((linksOf c).map fun j => (s.link j).park.occupancy).sum := by
    rw [losers, ← List.sum_map_ite (p := fun j => s.loses c j), ← List.sum_map_add]
    refine congrArg List.sum (List.map_congr_left fun j _ => ?_)
    refine Eq.trans ?_ (h.occupancy (links j))
    simp only [State.shedsAt, ite_and]
  have fell : ((s.losers c).any (fun j => decide (s.shedsAtLoss j ∧ (s.link j).park.isEmpty = false))
      || (linksOf c).any fun j => !(w.link j).park.isEmpty) = (linksOf c).any fun j => !(s.link j).park.isEmpty := by
    rw [losers, List.any_filter, List.any_or_any]
    congr 1
    funext j
    rw [← h.isEmpty (links j), ← Bool.decide_and]
    simp only [State.shedsAt, and_assoc]
  rw [expired, flushed, blocks, fell] at both
  exact both

end

/-! ### The whole change (R56) -/

theorem State.restartCage_absent (absent : (s.cage c).mode = .absent) : s.restartCage c = s := by
  unfold State.restartCage
  rw [absent]

theorem State.restartCage_seating (seating : (s.cage c).mode = .seating) : s.restartCage c = s.updCage c fun m =>
    { m with guardOrigin := s.now, seatingTimer := some (s.inMs s.settings.seatingTime) } := by
  unfold State.restartCage
  rw [seating]

theorem State.restartCage_past (absent : (s.cage c).mode ≠ .absent) (seating : (s.cage c).mode ≠ .seating) :
    s.restartCage c = (if (s.cage c).mode = .serving then (s.seatAgain c).departLinks c .restart else s.seatAgain c).forEach
      (State.flushLink .flushed) (linksOf c) := by
  unfold State.restartCage
  split
  · contradiction
  · contradiction
  all_goals rfl

/-- A restart suppresses no link, so that LINK-LOST is the only event of a loss (R107). -/
theorem State.lossSignals_events (s : State) (j : LinkId) :
    (s.lossSignals .restart j).filter (fun x => !x.isDiscard) = [.event ⟨.linkLost, j.val, LossCause.restart.code⟩] := by
  have discards : ((if s.shedsAtLoss j then (s.flushRecords .expired j).map fun r => Signal.discard r.link else []).filter
      fun x => !x.isDiscard) = [] := by
    refine List.filter_eq_nil_iff.mpr fun x hx => ?_
    split at hx
    · obtain ⟨_, _, rfl⟩ := List.mem_map.mp hx
      simp [Signal.isDiscard]
    · cases hx
  unfold State.lossSignals
  rw [List.filter_append, List.filter_append, discards]
  rfl

/-- Cage `c` has been restarted from a state past SEATING, from `s` to `u`: seated again, its links departed and flushed. -/
structure CageRestarted (c : CageId) (s t w u : State) : Prop where
  seated : SeatedAgain c s t
  departed : Departed .restart c [] s t w
  emptied : ∀ j, cageOf j = c → LinkEmptied j w u
  flushed : Drained.flushes .flushed (linksOf c) w u
  touched : Touches (fun i => cageOf i = c) storeParts w u

theorem cageRestarted (absent : (s.cage c).mode ≠ .absent) (seating : (s.cage c).mode ≠ .seating) :
    ∃ t w u, s.restartCage c = u ∧ CageRestarted c s t w u := by
  have seated := seatedAgain_seatAgain c s
  refine ⟨_, _, _, State.restartCage_past absent seating, seated, departed seated.sameLoss seated.quiet, fun j own => ?_, ?_, ?_⟩
  · exact forEach_flushLink_emptied (linksOf_nodup c) (mem_linksOf.mpr own) _
  · exact (State.forEach_flushLink .flushed (linksOf_nodup c) _).2
  · exact .forEach fun i hi t => touches_flushLink (mem_linksOf.mp hi) .flushed t

namespace CageRestarted

variable (h : CageRestarted c s t w u)
include h

theorem now : w.now = s.now := h.departed.touched.now.trans (by rw [h.seated.shape])

theorem settings : w.settings = s.settings := h.departed.touched.settings.trans (by rw [h.seated.shape])

theorem total : Drained (s.restartRecords c)
    ([] ++ (s.losers c).flatMap (s.lossSignals .restart)
      ++ discardsOf (((linksOf c).filter fun j => ¬ s.shedsAt c j).flatMap (s.flushRecords .flushed)))
    ((linksOf c).map fun j => (s.link j).park.occupancy).sum ((linksOf c).any fun j => !(s.link j).park.isEmpty) s u :=
  h.departed.flushed h.seated.link h.now h.flushed

theorem service (own : cageOf j = c) : (u.link j).hold.service = (w.link j).hold.service := by
  rw [(h.emptied j own).rest]

theorem paused (own : cageOf j = c) (k : ClassId) : (u.link j).hold.paused.get k
    = if (s.link j).park.fifos.get k ≠ [] ∧ ((u.link j).hold.service = .replay
        ∨ ((u.link j).hold.service = .hold ∧ s.settings.pauseOnHold = false)) then none
      else if s.loses c j then s.pausedAfterLoss j k else (s.link j).hold.paused.get k := by
  have link := h.seated.link j
  have lost : (w.link j).hold.paused.get k = if s.loses c j then s.pausedAfterLoss j k else (s.link j).hold.paused.get k := by
    by_cases loses : s.loses c j
    · rw [if_pos loses, (h.departed.pauses j loses link).paused]
    · rw [if_neg loses, h.departed.stays j loses, link]
  rw [(h.emptied j own).paused, lost]
  simp only [State.levelReleases, h.service own, h.settings]
  by_cases sheds : s.shedsAt c j
  · have shed : (w.link j).hold.service = .shed := by
      rw [(h.departed.lost j sheds.1).service]
      rcases sheds.2 with ⟨found | found, off⟩ <;> rw [found, serviceAfterLoss, if_pos off]
    have level : ¬ (ServiceState.shed = .replay ∨ (ServiceState.shed = .hold ∧ s.settings.pauseOnHold = false)) := by simp
    rw [if_neg fun e => e.1 (h.departed.park_shed link sheds k).1, shed]
    exact (if_neg fun e => level e.2).symm
  · rw [h.departed.park_kept link sheds]

/-- The signals of discards among those raised. -/
theorem handed : ([] ++ (s.losers c).flatMap (s.lossSignals .restart)
      ++ discardsOf (((linksOf c).filter fun j => ¬ s.shedsAt c j).flatMap (s.flushRecords .flushed))).filter Signal.isDiscard
    = discardsOf (s.restartRecords c) := by
  rw [List.filter_append, List.nil_append, List.filter_flatMap, discardsOf_filter, State.restartRecords, discardsOf,
    discardsOf, List.map_append]
  congr 1
  have losers : s.losers c = (linksOf c).filter fun j => s.loses c j := s.losers_eq c
  have each : ((s.losers c).flatMap fun j => (s.lossSignals .restart j).filter Signal.isDiscard)
      = (s.losers c).flatMap fun j => discardsOf (if s.shedsAtLoss j then s.flushRecords .expired j else []) :=
    List.flatMap_congr fun j _ => s.lossSignals_discards .restart j
  rw [each, ← List.map_flatMap, List.flatMap_ite, losers, List.filter_filter]
  congr 2
  exact List.filter_congr fun j _ => by rw [Bool.eq_iff_iff]; simp [State.shedsAt, and_comm]

theorem events : u.raised.filter (fun x => !x.isDiscard) = s.raised.filter (fun x => !x.isDiscard)
    ++ (s.losers c).map fun j => Signal.event ⟨.linkLost, j.val, LossCause.restart.code⟩ := by
  have discards : (discardsOf (((linksOf c).filter fun j => ¬ s.shedsAt c j).flatMap (s.flushRecords .flushed))).filter
      (fun x => !x.isDiscard) = [] := by
    refine List.filter_eq_nil_iff.mpr fun x hx => ?_
    obtain ⟨_, _, rfl⟩ := List.mem_map.mp hx
    simp [Signal.isDiscard]
  rw [h.total.raised, List.filter_append, List.filter_append, discards, List.append_nil, List.nil_append, List.filter_flatMap]
  congr 1
  rw [funext s.lossSignals_events, ← List.map_eq_flatMap]

theorem lost (lost : s.loses c j) : LostTo .restart .down j s u := by
  have lost' := h.departed.lost j lost
  have rest := (h.emptied j lost.2.1).rest
  have told : .event ⟨.linkLost, j.val, LossCause.restart.code⟩ ∈ u.raised := by
    rw [h.flushed.raised]
    exact List.mem_append_left _ lost'.told
  constructor
  case told => exact told
  all_goals rw [rest]
  · exact lost'.lastLoss
  · exact lost'.losses
  · exact lost'.recovered
  · exact lost'.service
  · exact lost'.timer
  · exact lost'.penalty
  · exact lost'.suppressed
  · exact lost'.rested
  · exact lost'.meter

theorem link (own : cageOf j = c) : u.link j = { s.link j with
    engine := (u.link j).engine, hold := (u.link j).hold, park := (u.link j).park, meter := (u.link j).meter
    counters := { (s.link j).counters with
      losses := (u.link j).counters.losses, discards := (u.link j).counters.discards }
    fabricSide := (u.link j).fabricSide } := by
  have rest := (h.emptied j own).rest
  by_cases loses : s.loses c j
  · have shape := h.departed.shape j loses
    have lost := h.departed.lost j loses
    have penalty : (w.link j).penalty = (s.link j).penalty := lost.penalty
    have suppressed : (w.link j).suppressed = (s.link j).suppressed := lost.suppressed.trans (Bool.or_false _)
    rw [rest, shape, penalty, suppressed]
  · rw [rest, h.departed.stays j loses, h.seated.link]

theorem releases (own : cageOf j = c) : ReleasesSent j s u := by
  by_cases loses : s.loses c j
  · exact (h.departed.pauses j loses (h.seated.link j)).emptied_releases (h.emptied j own) h.settings
      (h.departed.lost j loses).service
  · have released := (h.emptied j own).released
    rw [h.departed.stays j loses, h.seated.link, h.settings] at released
    exact released.sent

theorem pauses (own : cageOf j = c) {k : ClassId} (free : (s.link j).hold.paused.get k = none)
    (due : ((u.link j).hold.paused.get k).isSome) (mapped : prioritiesOf s.settings k ≠ 0) :
    (u.link j).fabricSide.holdsPause ⟨prioritiesOf s.settings k, s.settings.pauseTime⟩ := by
  by_cases loses : s.loses c j
  · exact (h.departed.pauses j loses (h.seated.link j)).emptied_pauses (h.emptied j own) h.settings free due mapped
  · rw [h.paused own k, if_neg loses, free] at due
    simp at due

end CageRestarted

end

/-- Settles O31. -/
theorem cageRestartSeatsAgain : Obligations.CageRestartSeatsAgain := by
  intro q cage s idle
  refine ⟨fun high => serve_refused .badArgument [] [] rfl idle fun m => if_pos high, fun c here => ?_⟩
  have run : exec (.cageRestart q cage) s = .next ((s.restartCage c).answered q 0x14 .done [] []) := by
    refine serve_answered (State.restartCage c) .done [] [] rfl idle (fun m t => State.restartCage_withEngine ..) fun m => ?_
    rw [State.onCage, if_neg (by have := c.isLt; omega), ← here, indexOf_val _ c rfl]
  intro mode timer loses sheds records
  refine ⟨fun absent => by rw [run, State.restartCage_absent absent], fun seating => by rw [run, State.restartCage_seating seating]; rfl,
    fun absent seating => ?_⟩
  obtain ⟨t, w, u, change, h⟩ := cageRestarted absent seating
  rw [change] at run
  have link := h.seated.link
  have total := h.total
  have keep := h.touched
  have stay := h.departed.touched
  have none (c : CageId) : u.cage c = t.cage c := congrArg (·.get c) (keep.cages.trans stay.cages)
  have bus (k : ControllerId) : u.controller k = t.controller k :=
    congrArg (·.get k) (keep.controllers.trans stay.controllers)
  have emptied := h.emptied
  refine ⟨u, run, ?_, fun d other => ?_, ?_, fun j lost => ?_, fun j own => ⟨?_, fun k => ?_, fun k => ?_⟩,
    fun j own stays => ?_, fun j k own => h.paused own k, fun j own => ?_, fun j k own free due mapped => ?_, ?_, ?_, ?_, ?_,
    fun j other => ?_, fun k other => ?_, ?_, ?_⟩
  · rw [none, h.seated.cage]
  · rw [none, h.seated.cages d other]
  · rw [keep.search, stay.search, h.seated.shape]
  · exact h.lost lost
  · exact h.link own
  · rw [(emptied j own).park]
    exact Bank.get_fill ..
  · rw [(emptied j own).critical, h.departed.critical (link j)]
  · rw [(emptied j own).rest, h.departed.stays j stays, link]
    exact ⟨rfl, rfl, rfl, rfl⟩
  · exact h.releases own
  · exact h.pauses own free due mapped
  · exact total.allDiscarded h.handed
  · rw [h.events, s.losers_eq]
  · exact total.pool
  · rw [total.poolLow]
    simp only [List.any_eq_true, Bool.not_eq_true']
  · rw [keep.elsewhere j other, h.departed.stays j fun loses => other loses.2.1, link]
  · rw [bus, h.seated.controllers k other]
  · obtain ⟨later, marked⟩ := h.seated.controller
    exact ⟨later, (bus _).trans marked⟩
  · have cages := keep.cages.trans stay.cages
    have controllers := keep.controllers.trans stay.controllers
    have search := keep.search.trans stay.search
    refine keep.eq.trans ?_
    rw [cages, controllers, search, stay.eq, h.seated.shape]
    rfl

end Sys2Proof.Machine
end

section
/-! PROOFS. The answer to the request in execution, and the next that the engine takes (R159, R161). -/

set_option Elab.async false

namespace Sys2Proof.Machine

section
variable {s t : State} {r : Request} {m : ManagementFrame} {i : LinkId}

/-! ### Replies that wait -/

/-- A reply made under the settings in force stays as a link in service begins its next frame. -/
theorem FabricEgress.holdsReply_begin {g : Settings} {e : FabricEgress} (current : m.sentUnder g = m) (holds : e.holdsReply m) :
    (e.begin g true).holdsReply m := by
  obtain ⟨sending, urgent, replies, forwards⟩ := e
  rcases holds with sent | waits
  · simp only at sent
    subst sent
    exact .inl rfl
  · cases sending with
    | some f => exact .inr waits
    | none =>
      cases urgent with
      | cons f rest => exact .inr waits
      | nil =>
        cases replies with
        | nil => cases waits
        | cons n rest =>
          rcases List.mem_cons.mp waits with rfl | later
          · exact .inl (congrArg (fun n => some (FabricFrame.reply n)) current)
          · exact .inr later

theorem State.replyFrame_current (r : Request) (o : RequestOutcome) (fields : List Nat) (data : List Byte) :
    (s.replyFrame r o fields data).sentUnder s.settings = s.replyFrame r o fields data := rfl

/-- From `s` to `t` replies alone have joined the service port and the links' egresses. -/
structure RepliesJoined (s t : State) : Prop where
  touched : Touches Anywhere replyParts s t
  service : ∃ more, t.service = { s.service with replies := s.service.replies ++ more }
  holds : ∀ i m, (s.link i).hold.service.lanesUp = true → m.sentUnder s.settings = m → (s.link i).fabricSide.holdsReply m →
    (t.link i).fabricSide.holdsReply m

theorem RepliesJoined.refl (s : State) : RepliesJoined s s := ⟨.refl .., ⟨[], by rw [List.append_nil]⟩, fun _ _ _ _ h => h⟩

theorem RepliesJoined.trans {u : State} (h : RepliesJoined s t) (k : RepliesJoined t u) : RepliesJoined s u := by
  obtain ⟨first, joined⟩ := h.service
  obtain ⟨second, later⟩ := k.service
  refine ⟨h.touched.trans k.touched, ⟨first ++ second, ?_⟩, fun i m up current holds => ?_⟩
  · rw [later, joined, List.append_assoc]
  · exact k.holds i m (h.touched.hold i ▸ up) (h.touched.settings ▸ current) (h.holds i m up current holds)

/-- A change of the engine alone. -/
theorem repliesJoined_updManagement (f : ManagementEngine → ManagementEngine) (s : State) :
    RepliesJoined s (s.updManagement f) :=
  ⟨(touches_updManagement f s).mono, ⟨[], by rw [List.append_nil]; rfl⟩, fun _ _ _ _ h => h⟩

theorem State.sendReply_service {o : RequestOutcome} {fields : List Nat} {data : List Byte} (port : r.port = .service) :
    s.sendReply r o fields data = { s with
      service := { s.service with replies := s.service.replies ++ [s.replyFrame r o fields data] } } := by
  unfold State.sendReply
  rw [port]

theorem State.sendReply_fabric {o : RequestOutcome} {fields : List Nat} {data : List Byte} (port : r.port = .fabric i) :
    s.sendReply r o fields data
      = s.toFabric i fun e => { e with replies := e.replies ++ [s.replyFrame r o fields data] } := by
  unfold State.sendReply
  rw [port]

/-- A reply sent (R161). -/
theorem repliesJoined_sendReply (r : Request) (o : RequestOutcome) (fields : List Nat) (data : List Byte) (s : State) :
    RepliesJoined s (s.sendReply r o fields data) := by
  cases port : r.port with
  | service =>
    refine ⟨(touches_sendReply (fun _ _ => trivial) o fields data s).mono, ⟨[s.replyFrame r o fields data], ?_⟩, fun i m _ _ h => ?_⟩
    · rw [State.sendReply_service port]
    · rw [State.sendReply_service port]
      exact h
  | fabric j =>
    rw [State.sendReply_fabric port]
    have touched := touches_toFabric (only_self j) (fun e => { e with
      replies := e.replies ++ [s.replyFrame r o fields data] }) s
    refine ⟨(touched.widen fun _ _ => trivial).mono, ⟨[], ?_⟩, fun i m up current holds => ?_⟩
    · rw [touched.service, List.append_nil]
    · by_cases here : j = i
      · subst here
        rw [State.toFabric, State.link_updLink_self, up]
        exact FabricEgress.holdsReply_begin current (holds.imp_right fun waits => List.mem_append_left _ waits)
      · rw [touched.elsewhere i fun e => here e.symm]
        exact holds

/-- The reply itself, on a link in service. -/
theorem State.sendReply_holds {o : RequestOutcome} {fields : List Nat} {data : List Byte} (port : r.port = .fabric i)
    (up : (s.link i).hold.service.lanesUp = true) :
    ((s.sendReply r o fields data).link i).fabricSide.holdsReply (s.replyFrame r o fields data) := by
  rw [State.sendReply_fabric port, State.toFabric, State.link_updLink_self, up]
  exact FabricEgress.holdsReply_begin (State.replyFrame_current ..) (.inr (List.mem_append_right _ (List.mem_singleton.mpr rfl)))

/-! ### The next request (R159, R161) -/

theorem State.takeFrom_bad {o : RequestOutcome} {rest : List Request} (bad : decodeRequest r = .error o) :
    State.takeFrom (r :: rest) s = State.takeFrom rest (s.sendReply r o [] []) := by
  rw [State.takeFrom, bad]

theorem State.takeFrom_ok {c : Instr} {rest : List Request} (reads : decodeRequest r = .ok c) : State.takeFrom (r :: rest) s
    = s.updManagement fun m => { m with queue := rest, executing := some ⟨r, false⟩ } := by
  rw [State.takeFrom, reads]

theorem repliesJoined_takeFrom (l : List Request) (s : State) : RepliesJoined s (State.takeFrom l s) := by
  induction l generalizing s with
  | nil => exact repliesJoined_updManagement ..
  | cons r rest ih =>
    cases reads : decodeRequest r with
    | ok c =>
      rw [State.takeFrom_ok reads]
      exact repliesJoined_updManagement ..
    | error o =>
      rw [State.takeFrom_bad reads]
      exact (repliesJoined_sendReply r o [] [] s).trans (ih _)

theorem takenNext_ok {rest : List Request} (reads : (decodeRequest r).isOk = true) :
    takenNext (r :: rest) = some r ∧ afterTaken (r :: rest) = rest :=
  ⟨List.find?_cons_of_pos (p := fun r => (decodeRequest r).isOk) reads, if_pos reads⟩

theorem takenNext_bad {rest : List Request} (bad : ¬ (decodeRequest r).isOk = true) :
    takenNext (r :: rest) = takenNext rest ∧ afterTaken (r :: rest) = afterTaken rest :=
  ⟨List.find?_cons_of_neg (p := fun r => (decodeRequest r).isOk) bad, if_neg bad⟩

theorem State.takeFrom_management (l : List Request) (s : State) (free : s.management.executing = none) :
    (State.takeFrom l s).management = { s.management with
      executing := (takenNext l).map (⟨·, false⟩), queue := afterTaken l } := by
  induction l generalizing s with
  | nil => rw [takenNext, List.find?_nil, Option.map_none, ← free]; rfl
  | cons r rest ih =>
    cases reads : decodeRequest r with
    | ok c =>
      have isOk : (decodeRequest r).isOk = true := by rw [reads]; rfl
      rw [State.takeFrom_ok reads, (takenNext_ok isOk).1, (takenNext_ok isOk).2]
      rfl
    | error o =>
      have bad : ¬ (decodeRequest r).isOk = true := by rw [reads]; exact Bool.false_ne_true
      have later := ih (s.sendReply r o [] []) (by rw [State.sendReply_management]; exact free)
      rw [State.takeFrom_bad reads, later, (takenNext_bad bad).1, (takenNext_bad bad).2, State.sendReply_management]

/-! ### The answer (R161) -/

/-- The request `e` in execution has been answered, from `s` to `t`, and the engine has taken the next. -/
structure ReplyTold (e : Execution) (m : ManagementFrame) (s t : State) : Prop where
  management : t.management = { s.management with
    executing := (takenNext s.management.queue).map (⟨·, false⟩), queue := afterTaken s.management.queue }
  service : e.request.port = .service → ∃ more, t.service = { s.service with replies := s.service.replies ++ m :: more }
  fabric : ∀ i, e.request.port = .fabric i → (s.link i).hold.service.lanesUp = true → (t.link i).fabricSide.holdsReply m

variable {e : Execution}

theorem State.respond_eq (runs : s.management.executing = some e) (o : RequestOutcome) (fields : List Nat) (data : List Byte) :
    s.respond o fields data = State.takeFrom s.management.queue
      ((s.sendReply e.request o fields data).updManagement fun m => { m with executing := none }) := by
  have kept := State.sendReply_management e.request o fields data s
  have takes (v : State) (free : v.management.executing = none) : v.takeNext = State.takeFrom v.management.queue v :=
    if_neg (by rw [free]; exact Bool.false_ne_true)
  unfold State.respond
  rw [runs]
  show ((s.sendReply e.request o fields data).updManagement fun m => { m with executing := none }).takeNext = _
  generalize s.sendReply e.request o fields data = v at kept
  rw [← kept]
  exact takes (v.updManagement fun m => { m with executing := none }) rfl

theorem replyTold_respond (runs : s.management.executing = some e) (o : RequestOutcome) (fields : List Nat) (data : List Byte) :
    ReplyTold e (s.replyFrame e.request o fields data) s (s.respond o fields data) := by
  rw [State.respond_eq runs]
  have sent := (repliesJoined_sendReply e.request o fields data s)
  have freed := repliesJoined_updManagement (fun m => { m with executing := none }) (s.sendReply e.request o fields data)
  have next := repliesJoined_takeFrom s.management.queue
    ((s.sendReply e.request o fields data).updManagement fun m => { m with executing := none })
  have later := freed.trans next
  refine ⟨?_, fun port => ?_, fun i port up => ?_⟩
  · rw [State.takeFrom_management _ _ rfl]
    show ({ (s.sendReply e.request o fields data).management with
      executing := _, queue := _ } : ManagementEngine) = _
    rw [State.sendReply_management]
  · obtain ⟨more, joined⟩ := later.service
    refine ⟨more, joined.trans ?_⟩
    rw [State.sendReply_service port, List.append_assoc]
    rfl
  · exact later.holds i _ (sent.touched.hold i ▸ up) (sent.touched.settings ▸ State.replyFrame_current ..)
      (State.sendReply_holds port up)

theorem State.replyFrame_of_settings (same : t.settings = s.settings) (r : Request) (o : RequestOutcome) (fields : List Nat)
    (data : List Byte) : t.replyFrame r o fields data = s.replyFrame r o fields data := by
  unfold State.replyFrame State.frameTo
  rw [same]

/-- What was told stands as well from a state with the same engine, port and links. -/
theorem ReplyTold.of_same {u : State} (h : ReplyTold e m t u) (management : t.management = s.management)
    (service : t.service = s.service) (links : ∀ i, t.link i = s.link i) : ReplyTold e m s u where
  management := by rw [h.management, management]
  service port := by rw [← service]; exact h.service port
  fabric i port up := h.fabric i port (links i ▸ up)

/-- What was told stands while the engine and the service port do, and the replies that wait. -/
theorem ReplyTold.after {u : State} (h : ReplyTold e m s t) (management : u.management = t.management)
    (service : u.service = t.service) (kept : ∀ i, (t.link i).fabricSide.Kept (u.link i).fabricSide) : ReplyTold e m s u where
  management := management.trans h.management
  service port := by rw [service]; exact h.service port
  fabric i port up := (kept i).holdsReply (h.fabric i port up)

/-- An engine with nothing in execution answers nothing. -/
theorem State.respond_none (idle : s.management.executing = none) (o : RequestOutcome) (fields : List Nat)
    (data : List Byte) : s.respond o fields data = s := by
  rw [State.respond, idle]

end

end Sys2Proof.Machine
end

section
/-! PROOFS. A removal (R5, R13, R29, R49). -/

set_option Elab.async false

namespace Sys2Proof.Machine

section
variable {s t u v : State} {k : ControllerId} {c : CageId} {j : LinkId}

/-! ### A controller's choice depends on the buses alone (R11) -/

/-- What a controller's choice reads is the same in two states. -/
structure SameBus (s t : State) : Prop where
  controllers : t.controllers = s.controllers
  settings : t.settings = s.settings
  requests : ∀ d, (t.cage d).busRequests = (s.cage d).busRequests
  pages : ∀ d, (t.cage d).lastPage = (s.cage d).lastPage

/-- Two states have the same controllers, and the same of each cage that was the same before. -/
structure BusAgrees (s t u v : State) : Prop where
  controllers : v.controllers = u.controllers
  cages : ∀ d, t.cage d = s.cage d → v.cage d = u.cage d

namespace SameBus

variable (h : SameBus s t)
include h

theorem controller (k : ControllerId) : t.controller k = s.controller k := congrArg (·.get k) h.controllers

theorem nextCage (k : ControllerId) : t.nextCage k = s.nextCage k := by
  simp only [State.nextCage, h.controller, h.requests]

theorem transaction (r : BusRequest) : t.transaction r = s.transaction r := by
  simp only [State.transaction, h.settings, h.pages]

theorem startPassThrough (k : ControllerId) (r : BusRequest) :
    BusAgrees s t (s.startPassThrough k r) (t.startPassThrough k r) := by
  rw [State.startPassThrough_eq, State.startPassThrough_eq]
  refine ⟨?_, fun d same => same⟩
  rw [h.controllers, h.controller, h.transaction]

theorem startCageRequest {p : Fin 4} {r : BusRequest} {rest : List BusRequest}
    (waits : (s.cage (cageAt k p)).busRequests = r :: rest) :
    BusAgrees s t (s.startCageRequest k p r) (t.startCageRequest k p r) := by
  rw [State.startCageRequest_eq waits, State.startCageRequest_eq ((h.requests _).trans waits)]
  refine ⟨?_, fun d same => ?_⟩
  · rw [h.controllers, h.controller, h.transaction]
  · by_cases here : cageAt k p = d
    · subst here
      refine (Bank.get_set_self ..).trans (Eq.trans ?_ (Bank.get_set_self ..).symm)
      rw [same]
    · exact (Bank.get_set_ne _ _ _ _ here).trans (same.trans (Bank.get_set_ne _ _ _ _ here).symm)

/-- A controller chooses the same. -/
theorem chooseBus (k : ControllerId) : BusAgrees s t (s.chooseBus k) (t.chooseBus k) := by
  by_cases free : (s.controller k).inFlight = none
  · rw [State.chooseBus_free free, State.chooseBus_free ((congrArg Controller.inFlight (h.controller k)).trans free),
      h.controller, h.nextCage]
    cases next : s.nextCage k with
    | none =>
      cases (s.controller k).slot with
      | none => exact ⟨h.controllers, fun _ same => same⟩
      | some r => exact h.startPassThrough k r
    | some x =>
      obtain ⟨p, r⟩ := x
      obtain ⟨rest, waits⟩ := State.nextCage_waits next
      cases (s.controller k).slot with
      | none => exact h.startCageRequest waits
      | some q =>
        simp only
        split
        · exact h.startPassThrough k q
        · exact h.startCageRequest waits
  · rw [State.chooseBus_busy free, State.chooseBus_busy fun e => free ((congrArg Controller.inFlight (h.controller k)).symm.trans e)]
    exact ⟨h.controllers, fun _ same => same⟩

end SameBus

/-! ### A cage that enters ABSENT (R5, R59) -/

/-- A cage whose module is gone. -/
def Cage.gone (now : Moment) (m : Cage) : Cage :=
  { (m.resetTo .absent now) with present := false, lastPage := none, busRequests := [] }

/-- The cage's side of a removal. -/
def State.depart (c : CageId) (s : State) : State := (((s.raise .removed c.val).dropRequests c).leaveSearch c).enterAbsent c

/-- Cage `c` has entered ABSENT, from `s` to `t`; its controller has yet to leave it. -/
structure AbsentEntered (c : CageId) (s t : State) : Prop where
  shape : t = { s with
    raised := s.raised ++ [.event ⟨.removed, c.val, 0⟩], cages := t.cages, controllers := t.controllers
    search := { s.search with waiting := s.search.waiting.set c false }
    memory := { s.memory with held := s.memory.held.set c false } }
  cage : t.cage c = (s.cage c).gone s.now
  cages : ∀ d, d ≠ c → t.cage d = s.cage d
  controllers : t.controllers = s.controllers.set (controllerOf c) ((s.controller (controllerOf c)).markFor c Transaction.void)

theorem absentEntered_depart (c : CageId) (s : State) : AbsentEntered c s (s.depart c) := by
  have cage := State.cage_dropRequests_self c (s.raise .removed c.val)
  have cages (d : CageId) (other : d ≠ c) := State.cage_dropRequests_ne other (s.raise .removed c.val)
  have shape : (s.raise .removed c.val).dropRequests c = { s with
    raised := s.raised ++ [.event ⟨.removed, c.val, 0⟩]
    cages := ((s.raise .removed c.val).dropRequests c).cages
    controllers := s.controllers.set (controllerOf c) ((s.controller (controllerOf c)).markFor c Transaction.void) } := rfl
  unfold State.depart
  generalize (s.raise .removed c.val).dropRequests c = t at cage cages shape
  have now : t.now = s.now := by rw [shape]
  refine ⟨?_, ?_, fun d other => ?_, ?_⟩
  · refine (show (t.leaveSearch c).enterAbsent c = { t with
      cages := ((t.leaveSearch c).enterAbsent c).cages
      search := { t.search with waiting := t.search.waiting.set c false }
      memory := { t.memory with held := t.memory.held.set c false } } from rfl).trans ?_
    rw [shape]
    rfl
  · rw [State.cage_enterAbsent]
    show Cage.gone t.now (t.cage c) = _
    rw [cage, now]
    rfl
  · exact (State.cage_updCage_ne c d (Cage.gone t.now) (t.leaveSearch c) other.symm).trans (cages d other)
  · show t.controllers = _
    rw [shape]

/-! ### The controller's side (R13, R14) -/

/-- A pass-through waits for cage `c`. -/
abbrev State.slotted (s : State) (c : CageId) : Prop := ∃ r, (s.controller (controllerOf c)).slot = some r ∧ r.cage = c

/-- A transaction of cage `c` is in flight. -/
abbrev State.flying (s : State) (c : CageId) : Prop :=
  ∃ x, (s.controller (controllerOf c)).inFlight = some x ∧ x.request.cage = c

/-- A pass-through for cage `c` is in flight. -/
abbrev State.passing (s : State) (c : CageId) : Prop :=
  ∃ x, (s.controller (controllerOf c)).inFlight = some x ∧ x.request.cage = c ∧ x.request.requester = .passThrough

/-- A controller without what it held for cage `c`. -/
abbrev Controller.leaving (c : CageId) (k : Controller) : Controller :=
  { k with
    inFlight := k.inFlight.filter fun x : Transaction => decide (x.request.cage ≠ c)
    slot := k.slot.filter fun r : BusRequest => decide (r.cage ≠ c)
    bypass := if k.slot.any (fun r : BusRequest => decide (r.cage = c)) then 0 else k.bypass }

/-- The pass-through that waits for cage `c` leaves its slot and is answered NOT-PRESENT. -/
def State.leaveSlot (c : CageId) (s : State) : State :=
  if (s.controller (controllerOf c)).slot.any fun r => r.cage = c then
    (s.updController (controllerOf c) fun x => { x with slot := none, bypass := 0 }).respond .notPresent
  else s

/-- The reply to a pass-through that a removal ends. -/
abbrev State.notPresent (s : State) (e : Execution) : ManagementFrame := s.replyFrame e.request .notPresent [] []

/-- The slot of cage `c`'s controller has been left, from `s` to `t`. -/
structure SlotLeft (c : CageId) (s t : State) : Prop where
  touched : Touches Anywhere ([.controllers] ++ replyParts) s t
  controllers : t.controllers = s.controllers.set (controllerOf c) { s.controller (controllerOf c) with
    slot := (s.controller (controllerOf c)).slot.filter fun r : BusRequest => decide (r.cage ≠ c)
    bypass := if (s.controller (controllerOf c)).slot.any (fun r : BusRequest => decide (r.cage = c)) then 0
      else (s.controller (controllerOf c)).bypass }
  quiet : ¬ s.slotted c → t.management = s.management ∧ t.service = s.service ∧ ∀ j, t.link j = s.link j
  told : s.slotted c → ∀ e, s.management.executing = some e → ReplyTold e (s.notPresent e) s t

theorem slotLeft_leaveSlot (c : CageId) (s : State) : SlotLeft c s (s.leaveSlot c) := by
  unfold State.leaveSlot
  by_cases waits : (s.controller (controllerOf c)).slot.any (fun r => decide (r.cage = c)) = true
  · rw [if_pos waits]
    have slotted : s.slotted c := by
      cases slot : (s.controller (controllerOf c)).slot with
      | none => rw [slot] at waits; cases waits
      | some r => rw [slot] at waits; exact ⟨r, slot, of_decide_eq_true waits⟩
    obtain ⟨r, slot, own⟩ := slotted
    have freed := touches_updController (W := Anywhere) (controllerOf c) (fun x => { x with slot := none, bypass := 0 }) s
    have controllers : (s.updController (controllerOf c) fun x => { x with slot := none, bypass := 0 }).controllers
        = s.controllers.set (controllerOf c) { s.controller (controllerOf c) with slot := none, bypass := 0 } := rfl
    have links (i : LinkId) : (s.updController (controllerOf c) fun x => { x with slot := none, bypass := 0 }).link i
        = s.link i := rfl
    generalize (s.updController (controllerOf c) fun x => { x with slot := none, bypass := 0 }) = b at freed controllers links
    have answered := touches_respond .notPresent [] [] b
    refine ⟨freed.trans answered, ?_, fun no => absurd ⟨r, slot, own⟩ no, fun _ e runs => ?_⟩
    · rw [answered.controllers, controllers, if_pos waits, slot]
      simp [Option.filter, own]
    · have told := replyTold_respond (s := b) (freed.management ▸ runs) .notPresent [] []
      rw [State.replyFrame_of_settings freed.settings] at told
      exact told.of_same freed.management freed.service links
  · rw [if_neg waits]
    have free : ¬ s.slotted c := fun ⟨r, slot, own⟩ => waits (by rw [slot]; exact decide_eq_true own)
    refine ⟨.refl .., ?_, fun _ => ⟨rfl, rfl, fun _ => rfl⟩, fun yes => absurd yes free⟩
    rw [if_neg waits, Bank.set_get_self _ _ _ _]
    have kept : (s.controller (controllerOf c)).slot.filter (fun r : BusRequest => decide (r.cage ≠ c))
        = (s.controller (controllerOf c)).slot := by
      cases slot : (s.controller (controllerOf c)).slot with
      | none => rfl
      | some r =>
        rw [slot] at waits
        have other : r.cage ≠ c := fun own => waits (decide_eq_true own)
        simp [Option.filter, other]
    rw [kept]
    rfl

/-- What cage `c`'s controller held for it has left, from `s`, in which the cage is `t`'s, before the controller chooses. -/
structure BusLeft (c : CageId) (s t : State) : Prop where
  touched : Touches Anywhere busParts s t
  cages : ∀ d, t.cage d = s.cage d
  controllers : t.controllers = s.controllers.set (controllerOf c) ((s.controller (controllerOf c)).leaving c)
  quiet : ¬ s.slotted c → ¬ s.passing c → t.management = s.management ∧ t.service = s.service ∧ ∀ j, t.link j = s.link j
  told : ∀ e, s.management.executing = some e → (s.slotted c ∧ ¬ s.passing c) ∨ (s.passing c ∧ ¬ s.slotted c) →
    ReplyTold e (s.notPresent e) s t

theorem State.busRemoval_resting (rests : ¬ s.flying c) : s.busRemoval c = s.leaveSlot c := by
  unfold State.busRemoval
  simp only
  split
  · rfl
  · next x flies => exact if_neg fun own => rests ⟨x, flies, own⟩

theorem State.busRemoval_flying {x : Transaction} (flies : (s.controller (controllerOf c)).inFlight = some x)
    (own : x.request.cage = c) : s.busRemoval c = (s.leaveSlot c).endTransaction (controllerOf c) .absent [] := by
  unfold State.busRemoval
  simp only [flies]
  exact if_pos own

theorem Transaction.pageAfter_absent (x : Transaction) : x.pageAfter .absent = none := by
  unfold Transaction.pageAfter
  simp

/-- A slot left, where no transaction of the cage is in flight. -/
theorem SlotLeft.busLeft (h : SlotLeft c s t) (rests : ¬ s.flying c) : BusLeft c s t := by
  have idle : ¬ s.passing c := fun ⟨x, flies, own, _⟩ => rests ⟨x, flies, own⟩
  refine ⟨h.touched.mono, fun d => congrArg (·.get d) h.touched.cages, ?_, fun free _ => h.quiet free, fun e runs due => ?_⟩
  · have kept : (s.controller (controllerOf c)).inFlight.filter (fun x : Transaction => decide (x.request.cage ≠ c))
        = (s.controller (controllerOf c)).inFlight := by
      cases flies : (s.controller (controllerOf c)).inFlight with
      | none => rfl
      | some x => simp [Option.filter, show x.request.cage ≠ c from fun own => rests ⟨x, flies, own⟩]
    rw [h.controllers, Controller.leaving, kept]
  · exact h.told (due.elim (·.1) fun pass => absurd pass.1 idle) e runs

/-- A transaction of the cage ended ABSENT after its slot was left. -/
theorem SlotLeft.ended (h : SlotLeft c s t) {x : Transaction} (flies : (s.controller (controllerOf c)).inFlight = some x)
    (own : x.request.cage = c) (void : x.request.requester ≠ .passThrough → x.discarded = true)
    (page : (s.cage c).lastPage = none) :
    BusLeft c s ((t.endedWith (controllerOf c) x none).handOver x .absent []) := by
  have controller : t.controller (controllerOf c) = { s.controller (controllerOf c) with
      slot := (s.controller (controllerOf c)).slot.filter fun r : BusRequest => decide (r.cage ≠ c)
      bypass := if (s.controller (controllerOf c)).slot.any (fun r : BusRequest => decide (r.cage = c)) then 0
        else (s.controller (controllerOf c)).bypass } := by
    rw [State.controller, h.controllers, Bank.get_set_self]
  have ended : Touches Anywhere busParts s (t.endedWith (controllerOf c) x none) :=
    h.touched.trans ((touches_updController (controllerOf c) (fun m => { m with inFlight := none }) t).trans
      (touches_updCage_rest x.request.cage (fun m => { m with lastPage := none }) _ rfl) (rs := [.cages, .controllers]))
  have cages (d : CageId) : (t.endedWith (controllerOf c) x none).cage d = s.cage d := by
    have same : t.cage d = s.cage d := congrArg (·.get d) h.touched.cages
    by_cases here : d = c
    · have unknown (m : Cage) (none : m.lastPage = none) : { m with lastPage := Option.none } = m := by
        rw [← none]
      rw [here] at same ⊢
      rw [← own, State.endedWith_cage, own, same]
      exact unknown _ page
    · exact (Bank.get_set_ne _ _ _ _ (fun e => here (e.symm.trans own))).trans same
  have controllers : (t.endedWith (controllerOf c) x none).controllers
      = s.controllers.set (controllerOf c) ((s.controller (controllerOf c)).leaving c) := by
    show t.controllers.set (controllerOf c) { t.controller (controllerOf c) with inFlight := none } = _
    rw [h.controllers, controller, Bank.set_set, Controller.leaving, flies]
    simp [Option.filter, own]
  have management : (t.endedWith (controllerOf c) x none).management = t.management := rfl
  have service : (t.endedWith (controllerOf c) x none).service = t.service := rfl
  have links (i : LinkId) : (t.endedWith (controllerOf c) x none).link i = t.link i := rfl
  generalize t.endedWith (controllerOf c) x none = y at ended cages controllers management service links
  by_cases pass : x.request.requester = .passThrough
  · rw [handOver_passThrough pass]
    have answered := touches_respond .notPresent [] [] y
    refine ⟨ended.trans answered, fun d => ?_, answered.controllers.trans controllers, fun _ no => absurd ⟨x, flies, own, pass⟩ no,
      fun e runs due => ?_⟩
    · exact (congrArg (·.get d) answered.cages).trans (cages d)
    · obtain ⟨mgmt, port, same⟩ := h.quiet (due.elim (fun no => absurd ⟨x, flies, own, pass⟩ no.2) (·.2))
      have told := replyTold_respond (s := y) (management.trans mgmt ▸ runs) .notPresent [] []
      rw [State.replyFrame_of_settings ended.settings] at told
      exact told.of_same (management.trans mgmt) (service.trans port) fun i => (links i).trans (same i)
  · have idle : ¬ s.passing c := fun ⟨z, flies', _, pass'⟩ => pass (by
      rw [flies] at flies'
      exact Option.some.inj flies' ▸ pass')
    have kept : y.handOver x .absent [] = y := by
      cases requester : x.request.requester with
      | passThrough => exact absurd requester pass
      | monitor purpose visit => exact handOver_void requester (.inl (void pass)) _ _
    rw [kept]
    refine ⟨ended, cages, controllers, fun free _ => ?_, fun e runs due => ?_⟩
    · obtain ⟨mgmt, port, same⟩ := h.quiet free
      exact ⟨management.trans mgmt, service.trans port, fun i => (links i).trans (same i)⟩
    · exact (h.told (due.elim (·.1) fun no => absurd no.1 idle) e runs).after management service fun i =>
        links i ▸ .refl _

theorem busLeft_busRemoval (page : (s.cage c).lastPage = none)
    (void : ∀ x, (s.controller (controllerOf c)).inFlight = some x → x.request.cage = c →
      x.request.requester ≠ .passThrough → x.discarded = true) :
    ∃ t, BusLeft c s t ∧ (s.flying c → s.busRemoval c = t.chooseBus (controllerOf c))
      ∧ (¬ s.flying c → s.busRemoval c = t) := by
  have left := slotLeft_leaveSlot c s
  by_cases flying : s.flying c
  · obtain ⟨x, flies, own⟩ := flying
    refine ⟨_, left.ended flies own (void x flies own) page, fun _ => ?_, fun no => absurd ⟨x, flies, own⟩ no⟩
    have still : ((s.leaveSlot c).controller (controllerOf c)).inFlight = some x := by
      rw [State.controller, left.controllers, Bank.get_set_self]
      exact flies
    rw [State.busRemoval_flying flies own, State.endTransaction_eq still, x.pageAfter_absent]
  · exact ⟨_, left.busLeft flying, fun yes => absurd yes flying, fun _ => State.busRemoval_resting flying⟩

end

end Sys2Proof.Machine
end

section
/-! PROOFS. The state that a removal leaves (R5, R13, R49). -/

set_option Elab.async false

namespace Sys2Proof.Machine

section
variable {s a y b w : State} {c : CageId} {j : LinkId}

/-! ### What the controller held -/

theorem Controller.leaving_markFor (c : CageId) (f : Transaction → Transaction) (same : ∀ x, (f x).request = x.request)
    (k : Controller) : (k.markFor c f).leaving c = k.leaving c := by
  obtain ⟨inFlight, slot, bypass, last⟩ := k
  cases inFlight with
  | none => rfl
  | some x => by_cases own : x.request.cage = c <;> simp [Controller.markFor, Controller.leaving, Option.filter, own, same]

theorem Transaction.void_request (x : Transaction) : x.void.request = x.request := x.void_same.1

namespace AbsentEntered

variable (h : AbsentEntered c s a)
include h

theorem controller : a.controller (controllerOf c) = (s.controller (controllerOf c)).markFor c Transaction.void := by
  rw [State.controller, h.controllers, Bank.get_set_self]

theorem slotted : a.slotted c ↔ s.slotted c := by
  rw [State.slotted, State.slotted, h.controller]
  rfl

/-- What is in flight for the cage, as it was before it was marked. -/
theorem flies_iff (p : BusRequest → Prop) :
    (∃ x, (a.controller (controllerOf c)).inFlight = some x ∧ x.request.cage = c ∧ p x.request)
      ↔ ∃ x, (s.controller (controllerOf c)).inFlight = some x ∧ x.request.cage = c ∧ p x.request := by
  rw [h.controller]
  unfold Controller.markFor
  cases (s.controller (controllerOf c)).inFlight with
  | none => rfl
  | some x => by_cases own : x.request.cage = c <;> simp [own, x.void_request]

theorem flying : a.flying c ↔ s.flying c := by
  simpa using h.flies_iff fun _ => True

theorem passing : a.passing c ↔ s.passing c := h.flies_iff fun r => r.requester = .passThrough

theorem void (x : Transaction) (flies : (a.controller (controllerOf c)).inFlight = some x) (own : x.request.cage = c)
    (monitor : x.request.requester ≠ .passThrough) : x.discarded = true := by
  rw [h.controller, Controller.markFor] at flies
  obtain ⟨z, -, rfl⟩ := Option.map_eq_some_iff.mp flies
  by_cases here : z.request.cage = c
  · rw [if_pos here, z.void_eq] at monitor ⊢
    simp [show z.request.requester ≠ .passThrough from monitor]
  · rw [if_neg here] at own
    exact absurd own here

theorem link (j : LinkId) : a.link j = s.link j := by
  rw [h.shape]
  rfl

end AbsentEntered

/-! ### The removal in its parts -/

/-- The state on which the controller chooses, as far as its choice goes. -/
abbrev State.withoutModule (c : CageId) (s : State) : State :=
  { s with
    cages := s.cages.set c { s.cage c with busRequests := [], lastPage := none }
    controllers := s.controllers.set (controllerOf c) ((s.controller (controllerOf c)).leaving c) }

theorem State.withoutModule_cage (c : CageId) (s : State) :
    (s.withoutModule c).cage c = { s.cage c with busRequests := [], lastPage := none } := Bank.get_set_self ..

theorem State.withoutModule_cage_ne {d : CageId} (other : d ≠ c) (s : State) : (s.withoutModule c).cage d = s.cage d :=
  Bank.get_set_ne _ _ _ _ other.symm

/-- Cage `c`'s module is gone, from `s` to `b`; its links have yet to depart. -/
structure ModuleGone (c : CageId) (s b : State) : Prop where
  shape : b = { s with
    raised := s.raised ++ [.event ⟨.removed, c.val, 0⟩], cages := b.cages, controllers := b.controllers
    search := { s.search with waiting := s.search.waiting.set c false }
    memory := { s.memory with held := s.memory.held.set c false }
    management := b.management, service := b.service, links := b.links }
  cage : b.cage c = (s.cage c).gone s.now
  cages : ∀ d, d ≠ c → b.cage d = { s.cage d with busRequests := (b.cage d).busRequests }
  resting : ¬ s.flying c → b.controllers = (s.withoutModule c).controllers ∧ ∀ d, d ≠ c → b.cage d = s.cage d
  flying : s.flying c → b.controllers = ((s.withoutModule c).chooseBus (controllerOf c)).controllers
    ∧ ∀ d, d ≠ c → b.cage d = ((s.withoutModule c).chooseBus (controllerOf c)).cage d
  link : ∀ j, b.link j = { s.link j with fabricSide := (b.link j).fabricSide }
  quiet : ¬ s.slotted c → ¬ s.passing c → b.management = s.management ∧ b.service = s.service ∧ ∀ j, b.link j = s.link j
  told : ∀ e, s.management.executing = some e → (s.slotted c ∧ ¬ s.passing c) ∨ (s.passing c ∧ ¬ s.slotted c) →
    ReplyTold e (s.notPresent e) s b

theorem sameBus_of (entered : AbsentEntered c s a) (left : BusLeft c a y) : SameBus (s.withoutModule c) y := by
  have cage (d : CageId) := left.cages d
  refine ⟨?_, ?_, fun d => ?_, fun d => ?_⟩
  · rw [left.controllers, entered.controllers, Bank.set_set, entered.controller,
      Controller.leaving_markFor _ _ Transaction.void_request]
  · rw [left.touched.settings, entered.shape]
  all_goals
    rw [cage]
    by_cases here : d = c
    · rw [here, entered.cage, State.withoutModule_cage]
      rfl
    · rw [entered.cages d here, State.withoutModule_cage_ne here]

/-- The parts that the controller's choice changes, or does not. -/
theorem moduleGone_of (entered : AbsentEntered c s a) (left : BusLeft c a y) (touched : Touches Anywhere busParts a b)
    (after : Touches Anywhere [.cages, .controllers] y b)
    (cage : b.cage c = y.cage c) (cages : ∀ d, b.cage d = { y.cage d with busRequests := (b.cage d).busRequests })
    (resting : ¬ s.flying c → b = y) (flying : s.flying c → b = y.chooseBus (controllerOf c)) : ModuleGone c s b := by
  have same := sameBus_of entered left
  have agrees := same.chooseBus (controllerOf c)
  have others (d : CageId) (other : d ≠ c) : y.cage d = s.cage d := (left.cages d).trans (entered.cages d other)
  have links (j : LinkId) : b.link j = y.link j := by rw [State.link, after.links_eq (by decide)]; rfl
  have management : a.management = s.management := by rw [entered.shape]
  have service : a.service = s.service := by rw [entered.shape]
  have settings : a.settings = s.settings := by rw [entered.shape]
  refine ⟨?_, ?_, fun d other => ?_, fun no => ⟨?_, fun d other => ?_⟩, fun yes => ⟨?_, fun d other => ?_⟩, fun j => ?_,
    fun free idle => ?_, fun e runs due => ?_⟩
  · refine touched.eq.trans ?_
    rw [entered.shape]
    rfl
  · rw [cage, left.cages, entered.cage]
  · rw [cages d, others d other]
  · rw [resting no]
    exact same.controllers
  · rw [resting no, others d other]
  · rw [flying yes]
    exact agrees.controllers
  · rw [flying yes]
    exact agrees.cages d ((others d other).trans (State.withoutModule_cage_ne other s).symm)
  · rw [← entered.link j]
    exact touched.link_eq j
  · obtain ⟨mgmt, port, still⟩ := left.quiet (entered.slotted.not.mpr free) (entered.passing.not.mpr idle)
    exact ⟨after.management.trans (mgmt.trans management), after.service.trans (port.trans service),
      fun j => (links j).trans ((still j).trans (entered.link j))⟩
  · have told := left.told e (management ▸ runs) (by rw [entered.slotted, entered.passing]; exact due)
    rw [State.notPresent, State.replyFrame_of_settings settings] at told
    exact (told.of_same management service entered.link).after after.management after.service fun i => links i ▸ .refl _

theorem moduleGone_depart (c : CageId) (s : State) : ModuleGone c s ((s.depart c).busRemoval c) := by
  have entered := absentEntered_depart c s
  generalize s.depart c = a at entered
  obtain ⟨y, left, flies, rests⟩ := busLeft_busRemoval (s := a) (by rw [entered.cage]; rfl) entered.void
  have touched : Touches Anywhere busParts a (a.busRemoval c) := touches_busRemoval c a (by rw [entered.cage]; rfl)
  rw [entered.flying] at flies rests
  by_cases flying : s.flying c
  · rw [flies flying] at touched ⊢
    have served := served_chooseBus (controllerOf c) y
    have empty : (y.cage c).busRequests = [] := by rw [left.cages, entered.cage]; rfl
    refine moduleGone_of entered left touched (touches_chooseBus ..) ?_ (fun d => ?_) (absurd flying) fun _ => rfl
    · rcases served.cages c with same | ⟨_, _, _, _, waits, _⟩
      · exact same
      · rw [empty] at waits
        cases waits
    · rcases served.cages d with same | ⟨_, _, _, _, _, _, _, _, result⟩
      · rw [same]
      · rw [result]
  · rw [rests flying] at touched ⊢
    exact moduleGone_of entered left touched (.refl ..) rfl (fun _ => rfl) (fun _ => rfl) (absurd · flying)

/-! ### The removal -/

theorem State.removed_eq (c : CageId) (s : State) : s.removed c = if (s.cage c).mode = .serving
    then ((s.depart c).busRemoval c).departLinks c .removed else (s.depart c).busRemoval c := by
  unfold State.removed
  simp only [decide_eq_true_eq]
  rfl

theorem exec_removal_absent (absent : (s.cage c).mode = .absent) : exec (.removal c) s = .next s.settle := by
  show execRemoval c s = _
  unfold execRemoval
  rw [absent]
  rfl

theorem exec_removal_seating (seating : (s.cage c).mode = .seating) :
    exec (.removal c) s = exec (.presentDeassertionInSeating c) s := by
  show execRemoval c s = execPresentDeassertionInSeating c s
  unfold execRemoval execPresentDeassertionInSeating
  rw [seating] <;> simp

theorem exec_removal (absent : (s.cage c).mode ≠ .absent) (seating : (s.cage c).mode ≠ .seating) :
    exec (.removal c) s = .next (s.removed c).settle := by
  show execRemoval c s = _
  unfold execRemoval
  split
  · contradiction
  · contradiction
  all_goals rfl

/-- What waits in a controller's slot after its choice waited before. -/
theorem State.chooseBus_slot {k : ControllerId} {r : BusRequest} (waits : ((s.chooseBus k).controller k).slot = some r) :
    (s.controller k).slot = some r := by
  obtain ⟨same, -⟩ | ⟨q, starts⟩ | ⟨p, q, rest, due, starts⟩ := s.chooseBus_cases k
  · rwa [same] at waits
  · rw [starts, State.startPassThrough_eq, State.controller, Bank.get_set_self] at waits
    cases waits
  · rw [starts, State.startCageRequest_eq due, State.controller, Bank.get_set_self] at waits
    exact waits

namespace ModuleGone

variable (h : ModuleGone c s b)
include h

theorem sameLoss (j : LinkId) : SameLoss j s b := by
  have kept : (b.cage (cageOf j)).fabricLayout = (s.cage (cageOf j)).fabricLayout
      ∧ (b.cage (cageOf j)).workingCopy = (s.cage (cageOf j)).workingCopy := by
    by_cases own : cageOf j = c
    · rw [own, h.cage]
      exact ⟨rfl, rfl⟩
    · rw [h.cages _ own]
      exact ⟨rfl, rfl⟩
  refine ⟨⟨by rw [h.shape], kept.1, ?_⟩, by rw [h.shape], h.link j⟩
  rw [State.linkSet, State.linkSet, State.workingSet, State.workingSet, kept.2]

theorem quietly : Drained [] [.event ⟨.removed, c.val, 0⟩] 0 false s b := by
  have counters (j : LinkId) : (b.link j).counters.discards = (s.link j).counters.discards := by rw [h.link j]
  have shape := h.shape
  refine { Drained.of_same (t := { b with raised := s.raised }) counters ?_ ?_ rfl ?_ ?_ ?_ with
    raised := ?_ }
  all_goals rw [shape]

theorem departed : Departed .removed c [.event ⟨.removed, c.val, 0⟩] s b
    (if (s.cage c).mode = .serving then b.departLinks c .removed else b) :=
  Machine.departed h.sameLoss h.quietly

/-- No controller but the cage's own is changed. -/
theorem controllers_ne {k : ControllerId} (other : k ≠ controllerOf c) : b.controller k = s.controller k := by
  have without : (s.withoutModule c).controller k = s.controller k := Bank.get_set_ne _ _ _ _ other.symm
  by_cases flying : s.flying c
  · rw [State.controller, (h.flying flying).1]
    exact ((served_chooseBus (controllerOf c) (s.withoutModule c)).controllers k other).trans without
  · rw [State.controller, (h.resting flying).1]
    exact without

/-- No pass-through for the cage waits. -/
theorem slot {r : BusRequest} (waits : (b.controller (controllerOf c)).slot = some r) : r.cage ≠ c := by
  have own : (s.withoutModule c).controller (controllerOf c) = (s.controller (controllerOf c)).leaving c :=
    Bank.get_set_self ..
  have filtered (due : ((s.withoutModule c).controller (controllerOf c)).slot = some r) : r.cage ≠ c := by
    rw [own] at due
    exact of_decide_eq_true (Option.filter_eq_some_iff.mp due).2
  by_cases flying : s.flying c
  · refine filtered (State.chooseBus_slot ?_)
    rw [State.controller, ← (h.flying flying).1]
    exact waits
  · refine filtered ?_
    rw [State.controller, ← (h.resting flying).1]
    exact waits

theorem kept (j : LinkId) : (b.link j).fabricSide.Kept
    ((if (s.cage c).mode = .serving then b.departLinks c .removed else b).link j).fabricSide := by
  split
  · exact State.departLinks_kept .removed c j b
  · exact .refl _

end ModuleGone

/-- A removal, in its two parts. -/
theorem removed_spec (c : CageId) (s : State) : ∃ b w, s.removed c = w ∧ ModuleGone c s b
    ∧ Departed .removed c [.event ⟨.removed, c.val, 0⟩] s b w ∧ ∀ j, (b.link j).fabricSide.Kept (w.link j).fabricSide :=
  ⟨_, _, s.removed_eq c, moduleGone_depart c s, (moduleGone_depart c s).departed, (moduleGone_depart c s).kept⟩

end

/-- Settles O28. -/
theorem removalLeavesCageAbsent : Obligations.RemovalLeavesCageAbsent := by
  intro c s k slotted ended passing left
  refine ⟨exec_removal_absent, exec_removal_seating, fun absent seating => ?_⟩
  obtain ⟨b, u, change, gone, departed, kept⟩ := removed_spec c s
  have run : exec (.removal c) s = .next u.settle := by rw [exec_removal absent seating, change]
  have cages := departed.touched.cages
  have cage (d : CageId) : u.cage d = b.cage d := congrArg (·.get d) cages
  have controllers := departed.touched.controllers
  have management := departed.touched.management
  have service := departed.touched.service
  have memory := departed.touched.memory
  have search := departed.touched.search
  have own : u.cage c = (s.cage c).gone s.now := (cage c).trans gone.cage
  refine ⟨u, run, ?_⟩
  rw [own]
  have serving (j : LinkId) (rests : (s.cage c).mode ≠ .serving ∨ ¬ s.departs c j) : ¬ s.loses c j := fun loses =>
    rests.elim (· loses.1) (· loses.2)
  refine ⟨rfl, rfl, rfl, ⟨rfl, ⟨rfl, rfl, rfl, rfl, rfl⟩, rfl, rfl⟩, rfl, rfl, rfl, rfl, rfl, rfl, rfl, rfl, rfl, ?_, ?_,
    lossesTold_of_drained rfl departed.told, fun r waits => ?_, fun k other => ?_, fun d other => ?_,
    fun j serves leaves => departed.lost j ⟨serves, leaves⟩,
    fun j serves leaves free idle => departed.pauses j ⟨serves, leaves⟩ ((gone.quiet free idle).2.2 j),
    fun rests => ?_, fun flies => ?_, fun free idle => ?_, fun e runs due => ?_, fun j rests => ?_, ?_⟩
  · rw [memory, gone.shape]
  · rw [search, gone.shape]
  · refine gone.slot ?_
    rw [State.controller, ← controllers]
    exact waits
  · rw [State.controller, controllers]
    exact gone.controllers_ne other
  · rw [cage, gone.cages d other]
  · obtain ⟨same, others⟩ := gone.resting rests
    exact ⟨controllers.trans same, fun d other => (cage d).trans (others d other)⟩
  · obtain ⟨same, others⟩ := gone.flying flies
    exact ⟨controllers.trans same, fun d other => (cage d).trans (others d other)⟩
  · obtain ⟨mgmt, port, links⟩ := gone.quiet free idle
    exact ⟨management.trans mgmt, service.trans port, fun j rests => (departed.stays j (serving j rests)).trans (links j)⟩
  · have told := (gone.told e runs due).after management service kept
    exact ⟨told.management, told.service, told.fabric⟩
  · rw [departed.stays j (serving j rests)]
    exact gone.link j
  · refine departed.touched.eq.trans ?_
    rw [cages, controllers, management, service, memory, search, gone.shape]
    rfl

end Sys2Proof.Machine
end

section
/-! PROOFS. The meter judges its candidate (R126, R133, R139, R140, R149 to R151, R154). -/

set_option Elab.async false

namespace Sys2Proof.Machine

/-! ### The frames of a store -/

theorem ParkState.frames_eq (p : ParkState) : p.frames
    = (p.fifos.get 0).length + (p.fifos.get 1).length + (p.fifos.get 2).length + (p.fifos.get 3).length := by
  simp [ParkState.frames, List.finRange_succ, Nat.add_assoc]

/-- A head that leaves is one frame less. -/
theorem ParkState.frames_set (p : ParkState) {k : ClassId} {f : ParkedFrame} {rest : List ParkedFrame}
    (head : p.fifos.get k = f :: rest) (q : ParkState) (left : q.fifos = p.fifos.set k rest) :
    p.frames = q.frames + 1 := by
  rw [p.frames_eq, q.frames_eq, left]
  match k with
  | 0 => simp [Bank.get_set, head]; omega
  | 1 => simp [Bank.get_set, head]; omega
  | 2 => simp [Bank.get_set, head]; omega
  | 3 => simp [Bank.get_set, head]; omega

theorem ParkState.frames_empty {p : ParkState} (empty : ∀ k, p.fifos.get k = []) : p.frames = 0 := by
  simp [p.frames_eq, empty]

section
variable {j : LinkId} {s : State}

/-- The candidate is the head of the highest class that holds a frame (R149). -/
theorem State.candidate_some {k : ClassId} {f : ParkedFrame} {rest : List ParkedFrame}
    (head : (s.link j).park.fifos.get k = f :: rest) (highest : ∀ h, k < h → (s.link j).park.fifos.get h = []) :
    s.candidate j = some (k, f) := by
  unfold State.candidate State.fifo
  match k with
  | 0 => simp [head, highest 1 (by decide), highest 2 (by decide), highest 3 (by decide)]
  | 1 => simp [head, highest 2 (by decide), highest 3 (by decide)]
  | 2 => simp [head, highest 3 (by decide)]
  | 3 => simp [head]

/-! ### A head leaves -/

/-- After the head of a class has left, from `s` to `t`, the marks, the pauses and the pool are told. -/
theorem headLeft_told {t : State} {k : ClassId} {f : ParkedFrame} {rest : List ParkedFrame}
    (park : (t.link j).park = { (s.link j).park with fifos := (s.link j).park.fifos.set k rest })
    (hold : (t.link j).hold = (s.link j).hold) (fabric : (t.link j).fabricSide = (s.link j).fabricSide)
    (settings : t.settings = s.settings) (pool : t.poolFree = s.poolFree + f.blocks) (low : t.poolLow = s.poolLow)
    (others : ∀ i, i ≠ j → t.link i = s.link i) :
    HeadLeft j k f rest s (t.occupancyFell j k).poolRose
      ∧ (t.occupancyFell j k).poolRose.link j = { t.link j with
          hold := ((t.occupancyFell j k).poolRose.link j).hold
          park := ((t.occupancyFell j k).poolRose.link j).park
          fabricSide := ((t.occupancyFell j k).poolRose.link j).fabricSide } := by
  have occupancy : t.occupancy j k = blocksIn rest := by
    rw [State.occupancy, park]
    exact congrArg blocksIn (Bank.get_set_self ..)
  have level : t.levelReleases j ↔ s.levelReleases j := by rw [State.levelReleases, hold, settings]
  have link := t.occupancyFell_link j k
  have released := t.occupancyFell_released j k
  have touched := touches_occupancyFell (only_self j) k t
  simp only [occupancy, settings, level, park, hold] at link released
  generalize t.occupancyFell j k = u at link released touched
  have rose := touches_poolRose (W := Only j) u
  rw [State.link_poolRose]
  refine ⟨⟨?_, ?_, ?_, fun releases falls paused mapped => ?_, fun stays => ?_, ?_, ?_, fun i other => ?_⟩, ?_⟩
  · rw [State.link_poolRose, link]
  · rw [State.link_poolRose, link]
  · rw [State.link_poolRose, link]
  · rw [State.link_poolRose]
    refine released.told k (hold ▸ paused) ?_ mapped
    rw [link]
    simp [releases, falls]
  · rw [State.link_poolRose, ← fabric]
    refine released.silent fun c => ?_
    rw [hold, link]
    by_cases due : s.levelReleases j ∧ blocksIn rest ≤ s.settings.resumeLevel
    · simp only [due, and_self, if_true]
      by_cases e : k = c
      · subst e
        rcases stays with level | high | free | unmapped
        · exact absurd due.1 level
        · exact absurd high (Nat.not_lt.mpr due.2)
        · exact .inr (by rw [Bank.get_set_self, free])
        · exact .inl unmapped
      · exact .inr (Bank.get_set_ne _ _ _ _ e)
    · simp only [if_neg due]
      exact .inr trivial
  · rw [rose.poolFree, touched.poolFree, pool]
  · rw [State.poolRose_poolLow, rose.poolFree, touched.settings, settings, touched.poolLow, low]
  · rw [State.link_poolRose, touched.elsewhere i other, others i other]
  · rw [link]

section
variable {k : ClassId} {f : ParkedFrame} {rest : List ParkedFrame} (head : (s.link j).park.fifos.get k = f :: rest)
include head

theorem State.removeHead_eq : s.removeHead j k = { s.setFifo j k rest with poolFree := s.poolFree + f.blocks } := by
  unfold State.removeHead
  rw [show s.fifo j k = f :: rest from head]

theorem State.removeHead_link : (s.removeHead j k).link j = { s.link j with
    park := { (s.link j).park with fifos := (s.link j).park.fifos.set k rest } } := by
  rw [State.removeHead_eq head]
  change (s.setFifo j k rest).link j = _
  rw [State.setFifo, State.link_updLink_self]

/-- The head has begun its transit (R151). -/
theorem startTransit_left : HeadLeft j k f rest s (s.startTransit j k f)
    ∧ (s.startTransit j k f).link j = { s.link j with
        hold := ((s.startTransit j k f).link j).hold
        park := ((s.startTransit j k f).link j).park
        moduleSide := { (s.link j).moduleSide with transit := some f.frame }
        counters := { (s.link j).counters with replayed := min 4294967295 ((s.link j).counters.replayed + 1) }
        fabricSide := ((s.startTransit j k f).link j).fabricSide }
    ∧ s.startTransit j k f = { s with
        links := (s.startTransit j k f).links, poolFree := (s.startTransit j k f).poolFree
        poolLow := (s.startTransit j k f).poolLow } := by
  have link := State.removeHead_link head
  have taken := touches_removeHead (only_self j) k s
  have pool : (s.removeHead j k).poolFree = s.poolFree + f.blocks := by rw [State.removeHead_eq head]
  have touched := touches_startTransit (only_self j) k f s
  unfold State.startTransit at touched ⊢
  generalize s.removeHead j k = r at link taken pool touched
  have sent := State.link_updLink_self j (fun l => { l with
    moduleSide := { l.moduleSide with transit := some f.frame }
    counters := { l.counters with replayed := saturate (l.counters.replayed + 1) } }) r
  have moved : Touches (Only j) [.moduleSide, .counters] r (r.updLink j fun l => { l with
      moduleSide := { l.moduleSide with transit := some f.frame }
      counters := { l.counters with replayed := saturate (l.counters.replayed + 1) } }) :=
    touches_updLink _ rfl fun l p => by cases p <;> simp [Part.SameLink]
  simp only at touched ⊢
  generalize (r.updLink j fun l => { l with
    moduleSide := { l.moduleSide with transit := some f.frame }
    counters := { l.counters with replayed := saturate (l.counters.replayed + 1) } }) = t at sent moved touched
  obtain ⟨left, result⟩ := headLeft_told (s := s) (t := t) (k := k) (f := f) (rest := rest) (j := j)
    (by rw [sent, link]) (by rw [sent, link]) (by rw [sent, link]) (moved.settings.trans taken.settings)
    (moved.poolFree.trans pool) (moved.poolLow.trans taken.poolLow)
    fun i other => (moved.elsewhere i other).trans (taken.elsewhere i other)
  refine ⟨left, ?_, touched.eq⟩
  rw [result, sent, link] <;> rfl

/-- The head has been discarded, and its leaving told (R150). -/
theorem discardHead_left (reason : DiscardReason) :
    ∃ v, ((s.discardHead j k f reason).occupancyFell j k).poolRose = v ∧ HeadLeft j k f rest s v
      ∧ Discarded j [⟨reason, j, some k, f.length, BitVec.ofNat 32 (s.now / 3125)⟩] s v
      ∧ v.link j = { s.link j with
          hold := (v.link j).hold
          park := (v.link j).park
          counters := { (s.link j).counters with discards := (v.link j).counters.discards }
          fabricSide := (v.link j).fabricSide }
      ∧ v = { s with
          links := v.links, poolFree := v.poolFree, poolLow := v.poolLow, slotA := v.slotA, slotB := v.slotB,
          raised := s.raised ++ [.discard j] } := by
  have link := State.removeHead_link head
  have taken := touches_removeHead (only_self j) k s
  have pool : (s.removeHead j k).poolFree = s.poolFree + f.blocks := by rw [State.removeHead_eq head]
  have now : (s.removeHead j k).discardRecord reason j (some k) f.length
      = ⟨reason, j, some k, f.length, BitVec.ofNat 32 (s.now / 3125)⟩ := by
    rw [State.discardRecord, State.stamp, State.microseconds, taken.now] <;> rfl
  have touched := ((touches_discardHead (only_self j) k f reason s).trans (touches_occupancyFell (only_self j) k _)
    (rs := storeParts)).trans (touches_poolRose _) (rs := storeParts)
  unfold State.discardHead at touched ⊢
  generalize s.removeHead j k = r at link taken pool now touched
  have counted := r.discard_link reason j (some k) f.length
  have told := drained_discard reason j (some k) f.length r
  have moved := touches_discard (only_self j) reason (some k) f.length r
  rw [now] at told
  generalize r.discard reason j (some k) f.length = t at counted told moved touched
  have handed := Drained.returned taken pool told (touches_occupancyFell (only_self j) k t)
  obtain ⟨left, result⟩ := headLeft_told (s := s) (t := t) (k := k) (f := f) (rest := rest) (j := j)
    (by rw [counted, link]) (by rw [counted, link]) (by rw [counted, link]) (moved.settings.trans taken.settings)
    (moved.poolFree.trans pool) (moved.poolLow.trans taken.poolLow)
    fun i other => (moved.elsewhere i other).trans (taken.elsewhere i other)
  generalize (t.occupancyFell j k).poolRose = v at handed left result touched
  refine ⟨v, rfl, left, handed.discarded (by simp), ?_, ?_⟩
  · rw [result, counted, link]
  · rw [← handed.raised]
    exact touched.eq

end

end

end Sys2Proof.Machine
end

section
/-! PROOFS. The judgement of candidates, the token ticks, the transits and the ramp steps (R148 to R152, R154). -/

set_option Elab.async false

namespace Sys2Proof.Machine

/-! ### A judgement (R149 to R151, R154) -/

section
variable {j : LinkId} {s : State}

theorem ModuleEgress.isFree_iff {e : ModuleEgress} : e.isFree = true ↔ e = ⟨none, []⟩ := by
  obtain ⟨transit, waiting⟩ := e
  simp [ModuleEgress.isFree, Option.isNone_iff_eq_none]

theorem State.judge_stopped (stopped : (s.link j).meter.mode = .stopped) : s.judge j = s := if_pos stopped

theorem State.judge_busy (runs : (s.link j).meter.mode ≠ .stopped) (busy : (s.link j).moduleSide ≠ ⟨none, []⟩) :
    s.judge j = s.endReplay j := by
  rw [State.judge, if_neg runs, if_neg fun free => busy (ModuleEgress.isFree_iff.mp free)]

theorem State.judge_free (runs : (s.link j).meter.mode ≠ .stopped) (free : (s.link j).moduleSide = ⟨none, []⟩) :
    s.judge j = (s.judgeFrom j (s.link j).park.frames).endReplay j := by
  rw [State.judge, if_neg runs, if_pos (ModuleEgress.isFree_iff.mpr free)]

theorem State.judge_empty (runs : (s.link j).meter.mode ≠ .stopped) (empty : ∀ k, (s.link j).park.fifos.get k = []) :
    s.judge j = s.endReplay j := by
  by_cases free : (s.link j).moduleSide = ⟨none, []⟩
  · rw [State.judge_free runs free, ParkState.frames_empty empty, State.judgeFrom]
  · exact State.judge_busy runs free

theorem State.endReplay_metered (metered : (s.link j).meter.mode = .metered) : s.endReplay j = s :=
  State.endReplay_else fun done => absurd (metered.symm.trans done.1) (by decide)

/-! Of a candidate. -/

section
variable {k : ClassId} {f : ParkedFrame} {rest : List ParkedFrame} (runs : (s.link j).meter.mode ≠ .stopped)
  (free : (s.link j).moduleSide = ⟨none, []⟩) (head : (s.link j).park.fifos.get k = f :: rest)
  (highest : ∀ h, k < h → (s.link j).park.fifos.get h = [])

include head in
theorem State.frames_ne_zero : (s.link j).park.frames = (s.removeHead j k |>.link j).park.frames + 1 :=
  ParkState.frames_set _ head _ (by rw [State.removeHead_link head])

include runs free head highest in
/-- A candidate within its age. -/
theorem State.judge_fresh (fresh : s.isStale j f = false) : s.judge j = match (s.link j).meter.mode with
    | .stopped => s
    | .unmetered => (s.startTransit j k f).endReplay j
    | .metered =>
      if (s.link j).meter.charge f ≤ (s.link j).meter.tokens then
        ((s.updMeter j fun m => { m with tokens := m.tokens - (s.link j).meter.charge f }).startTransit j k f).endReplay j
      else s := by
  rw [State.judge_free runs free, State.frames_ne_zero head, State.judgeFrom, State.candidate_some head highest]
  simp only [fresh, Bool.false_eq_true, if_false]
  cases mode : (s.link j).meter.mode
  case stopped => exact absurd mode runs
  case unmetered => rfl
  case metered =>
    simp only
    split
    · rfl
    · exact State.endReplay_metered mode

include runs free head highest in
/-- A stale candidate: what is left is judged anew. -/
theorem State.judge_stale (stale : s.isStale j f = true) :
    s.judge j = (((s.discardHead j k f .stale).occupancyFell j k).poolRose).judge j := by
  obtain ⟨v, e, left, _, link, _⟩ := discardHead_left (s := s) (j := j) head .stale
  have frames : (s.link j).park.frames = (v.link j).park.frames + 1 := ParkState.frames_set _ head _ left.fifos
  have runs' : (v.link j).meter.mode ≠ .stopped := by rw [link]; exact runs
  have free' : (v.link j).moduleSide = ⟨none, []⟩ := by rw [link]; exact free
  rw [State.judge_free runs free, frames, State.judgeFrom, State.candidate_some head highest]
  simp only [stale, if_true]
  rw [e, State.judge_free runs' free']

end

theorem State.isStale_iff {f : ParkedFrame} : s.isStale j f = true
    ↔ (s.linkSet j).ageLimit * 1000 < (BitVec.ofNat 32 (s.now / 3125) - f.stamp).toNat :=
  decide_eq_true_iff

/-- The candidate has begun its transit, from `s` to `v`, charged `charge`. -/
structure TransitBegun (charge : Nat) (j : LinkId) (k : ClassId) (f : ParkedFrame) (rest : List ParkedFrame) (s v : State) :
    Prop where
  left : HeadLeft j k f rest s v
  link : v.link j = { s.link j with
    hold := (v.link j).hold
    park := (v.link j).park
    meter := { (s.link j).meter with tokens := (s.link j).meter.tokens - charge }
    moduleSide := { (s.link j).moduleSide with transit := some f.frame }
    counters := { (s.link j).counters with replayed := min 4294967295 ((s.link j).counters.replayed + 1) }
    fabricSide := (v.link j).fabricSide }
  rest : v = { s with links := v.links, poolFree := v.poolFree, poolLow := v.poolLow }

section
variable {k : ClassId} {f : ParkedFrame} {rest : List ParkedFrame} (head : (s.link j).park.fifos.get k = f :: rest)
include head

theorem transitBegun_startTransit : TransitBegun 0 j k f rest s (s.startTransit j k f) := by
  obtain ⟨left, link, touched⟩ := startTransit_left (s := s) (j := j) head
  exact ⟨left, link, touched⟩

/-- A candidate charged as it begins its transit (R151). -/
theorem transitBegun_charged (charge : Nat) :
    TransitBegun charge j k f rest s
      ((s.updMeter j fun m => { m with tokens := m.tokens - charge }).startTransit j k f) := by
  have link : (s.updMeter j fun m => { m with tokens := m.tokens - charge }).link j
      = { s.link j with meter := { (s.link j).meter with tokens := (s.link j).meter.tokens - charge } } :=
    State.link_updLink_self ..
  have charged := touches_updMeter (only_self j) (fun m => { m with tokens := m.tokens - charge }) s
  have rest' := charged.eq
  generalize (s.updMeter j fun m => { m with tokens := m.tokens - charge }) = m at link charged rest'
  obtain ⟨left, sent, touched⟩ := startTransit_left (s := m) (j := j) (k := k) (f := f) (rest := rest) (by rw [link, head])
  generalize m.startTransit j k f = v at left sent touched
  obtain ⟨fifos, critical, paused, released, silent, pool, poolLow, others⟩ := left
  have level : m.levelReleases j ↔ s.levelReleases j := by rw [State.levelReleases, link, charged.settings]
  simp only [link, charged.settings, level, charged.poolFree, charged.poolLow] at fifos critical paused released silent pool poolLow
  refine ⟨⟨fifos, critical, paused, released, silent, pool, poolLow, fun i other => ?_⟩, ?_, ?_⟩
  · rw [others i other, charged.elsewhere i other]
  · rw [sent, link]
  · rw [touched, rest'] <;> rfl

end

end

end Sys2Proof.Machine
end

section
/-! PROOFS. The meter paces a replay (R148 to R152, R154): O51. -/

set_option Elab.async false

namespace Sys2Proof.Machine

section
variable {j : LinkId} {s : State}

/-! ### Ticks, transits and steps (R148, R149, R152; logs 3, 4, 9 and 17) -/

theorem exec_tokenTick_still (still : (s.link j).meter.mode ≠ .metered) : exec (.tokenTick j) s = .next s.settle := by
  show execTokenTick j s = _
  unfold execTokenTick
  cases mode : (s.link j).meter.mode
  case metered => exact absurd mode still
  all_goals rfl

theorem exec_tokenTick_metered (metered : (s.link j).meter.mode = .metered) :
    exec (.tokenTick j) s = .next (s.tick j).settle := by
  show execTokenTick j s = _
  unfold execTokenTick
  rw [metered] <;> rfl

theorem exec_moduleEgressTransitEnd_idle (idle : (s.link j).moduleSide.transit = none) :
    exec (.moduleEgressTransitEnd j) s = .next s.settle := by
  show execModuleEgressTransitEnd j s = _
  rw [execModuleEgressTransitEnd, idle, if_neg (by decide)] <;> rfl

/-- A transit ends; what the egress then is, is what waits and the link's state leave it. -/
theorem exec_moduleEgressTransitEnd_busy {f : List Byte} {e : ModuleEgress} (busy : (s.link j).moduleSide.transit = some f)
    (after : (s.link j).moduleSide.afterTransit ((s.link j).engine.recovery.sends = .frames) = e) :
    exec (.moduleEgressTransitEnd j) s = .next
      (State.judge j { s with links := s.links.set j { s.link j with moduleSide := e } }).settle := by
  show execModuleEgressTransitEnd j s = _
  subst after
  rw [execModuleEgressTransitEnd, busy, if_pos (Option.isSome_some)] <;> rfl

theorem RecoveryState.sends_frames_iff (r : RecoveryState) : r.sends = .frames ↔ r = .up := by
  cases r <;> decide

theorem exec_rampTimerExpiry (m : Moment) (runs : (s.link j).meter.rampTimer = some m) :
    exec (.rampTimerExpiry j) s = .next ((s.reach m).rampStep j).settle := by
  show execRampTimerExpiry j s = _
  rw [execRampTimerExpiry, State.onExpiry_some _ _ runs] <;> rfl

/-- A ramp step, by what the meter becomes (R152). -/
theorem State.rampStep_eq {g : Meter} (stepped : (s.link j).meter.ramped (s.inMs (s.linkSet j).rampStep) = g) :
    s.rampStep j = if g.mode = .unmetered then State.judge j { s with links := s.links.set j { s.link j with meter := g } }
      else { s with links := s.links.set j { s.link j with meter := g } } := by
  have link : (s.updMeter j fun m => m.ramped (s.inMs (s.linkSet j).rampStep)).link j = { s.link j with meter := g } := by
    rw [State.updMeter, State.link_updLink_self, stepped]
  subst stepped
  unfold State.rampStep
  simp only [link]
  rfl

theorem Meter.ramped_doubled (m : Meter) (next : Moment) (below : m.rate * 2 < m.rateCeiling) :
    m.ramped next = { m with rate := m.rate * 2, rampTimer := some next } := if_pos below

theorem Meter.ramped_degraded (m : Meter) (next : Moment) (reached : m.rateCeiling ≤ m.rate * 2) (slow : m.degraded = true) :
    m.ramped next = { m with rate := m.rateCeiling, rampTimer := none } := by
  rw [Meter.ramped, if_neg (Nat.not_lt.mpr reached), if_pos slow]

theorem Meter.ramped_full (m : Meter) (next : Moment) (reached : m.rateCeiling ≤ m.rate * 2) (full : m.degraded = false) :
    m.ramped next = { m with mode := .unmetered, rate := m.rateCeiling, rampTimer := none } := by
  rw [Meter.ramped, if_neg (Nat.not_lt.mpr reached), if_neg (by simp [full])]

end

/-- Settles O51: a judgement by the mode of the meter and the candidate's age, then the events that lead to one. -/
theorem meterPacesReplay : Obligations.MeterPacesReplay := by
  unfold Obligations.MeterPacesReplay
  refine ⟨fun j s => ?_, fun j s => ?_⟩
  · intro l u free metered unmetered empty
    have touched := touches_judge (only_self j) s
    refine ⟨State.judge_stopped, fun paced rests => ?_, fun open' busy filled => ?_, fun open' none => ?_,
      touched.elsewhere, touched.engine j, touched.penalty j, fun k f rest idle head highest => ?_⟩
    · have runs : l.meter.mode ≠ .stopped := by rw [paced]; decide
      by_cases idle : free
      · exact (State.judge_empty runs (rests.resolve_left fun busy => busy idle)).trans (State.endReplay_metered paced)
      · exact (State.judge_busy runs idle).trans (State.endReplay_metered paced)
    · have runs : l.meter.mode ≠ .stopped := by rw [open']; decide
      exact (State.judge_busy runs busy).trans (State.endReplay_else fun done => filled done.2)
    · have runs : l.meter.mode ≠ .stopped := by rw [open']; decide
      have ends : u = s.endReplay j := State.judge_empty runs none
      exact ends ▸ replayEnded_endReplay ⟨open', none⟩
    · intro age stale charge
      have runs (h : metered ∨ unmetered) : l.meter.mode ≠ .stopped := by
        rcases h with h | h <;> rw [h] <;> decide
      have young (h : ¬ stale) : s.isStale j f = false := Bool.eq_false_iff.mpr (mt State.isStale_iff.mp h)
      refine ⟨fun paced fresh poor => ?_, fun fresh pays => ?_, fun old paced => ?_⟩
      · have poor : ¬ (s.link j).meter.charge f ≤ (s.link j).meter.tokens := Nat.not_le.mpr poor
        exact (State.judge_fresh (runs (.inl paced)) idle head highest (young fresh)).trans (by
          rw [show (s.link j).meter.mode = .metered from paced]
          exact if_neg poor)
      · have judged := State.judge_fresh (runs (pays.imp_left And.left)) idle head highest (young fresh)
        have begins : ∃ v, TransitBegun (if metered then charge else 0) j k f rest s v ∧ u = v.endReplay j := by
          rcases pays with ⟨paced, covers⟩ | open'
          · rw [show (s.link j).meter.mode = .metered from paced] at judged
            exact ⟨_, if_pos paced ▸ transitBegun_charged head _, judged.trans (if_pos covers)⟩
          · have unpaced : ¬ metered := fun h => absurd (h.symm.trans open') (by decide)
            rw [show (s.link j).meter.mode = .unmetered from open'] at judged
            exact ⟨_, if_neg unpaced ▸ transitBegun_startTransit head, judged⟩
        obtain ⟨v, begun, ends⟩ := begins
        refine ⟨v, begun.left, ?_, begun.rest, fun goes => ends.trans (State.endReplay_else goes),
          fun done => ends ▸ replayEnded_endReplay done⟩
        rw [begun.link, show (s.link j).moduleSide = ⟨none, []⟩ from idle]
        split <;> rfl
      · obtain ⟨v, left, gone, discarded, link, kept⟩ := discardHead_left (s := s) (j := j) head .stale
        exact ⟨v, gone, discarded, link, kept,
          (State.judge_stale (runs paced) idle head highest (State.isStale_iff.mpr old)).trans (by rw [left])⟩
  · intro l g tick
    refine ⟨exec_tokenTick_still, exec_tokenTick_metered, exec_moduleEgressTransitEnd_idle, fun f waiting busy lower => ?_,
      fun f next rest busy up => ?_, fun f busy => ?_, fun stopped => ?_, fun m runs paced => ?_⟩
    · refine exec_moduleEgressTransitEnd_busy (f := f) (by rw [busy]) ?_
      rw [ModuleEgress.afterTransit, if_neg (by simpa [RecoveryState.sends_frames_iff] using lower)]
    · refine exec_moduleEgressTransitEnd_busy (f := f) (by rw [busy]) ?_
      rw [show (s.link j).moduleSide = _ from busy, show (s.link j).engine.recovery = .up from up]
      rfl
    · refine exec_moduleEgressTransitEnd_busy (f := f) (by rw [busy]) ?_
      rw [show (s.link j).moduleSide = _ from busy, ModuleEgress.afterTransit]
      split <;> rfl
    · show execRampTimerExpiry j s = _
      rw [execRampTimerExpiry, State.onExpiry_none _ _ stopped] <;> rfl
    · intro now stepped
      have step {g' : Meter} (is : g.ramped (now + (s.linkSet j).rampStep * 3125000) = g') :
          exec (.rampTimerExpiry j) s
            = .next (if g'.mode = .unmetered then State.judge j (stepped g') else stepped g').settle :=
        (exec_rampTimerExpiry m runs).trans (congrArg (fun t : State => (.next t.settle : Result))
          (State.rampStep_eq (s := s.reach m) (j := j) is))
      have slow : g.mode ≠ .unmetered := by rw [paced]; decide
      refine ⟨fun below => ?_, fun reached degraded => ?_, fun reached full => ?_⟩
      · rw [step (g.ramped_doubled _ below), if_neg slow]
      · rw [step (g.ramped_degraded _ reached degraded), if_neg slow]
      · rw [step (g.ramped_full _ reached full), if_pos rfl]

end Sys2Proof.Machine
end

section
/-! PROOFS. The oldest frames of a class displaced by an arrival (R133, R136, R143). -/

set_option Elab.async false

namespace Sys2Proof.Machine

/-! ### The condition and the discards, by the number of frames displaced -/

/-- The first condition that keeps `n` blocks from joining once the `d` oldest frames of the class have left (R136). -/
def State.barAt (s : State) (j : LinkId) (k : ClassId) (n d : Nat) : Option DiscardReason :=
  let fifo := (s.link j).park.fifos.get k
  if s.settings.classLimit < blocksIn (fifo.drop d) + n then some .classFull
  else if s.settings.linkLimit + blocksIn (fifo.take d) < (s.link j).park.occupancy + n then some .linkFull
  else if s.poolFree + blocksIn (fifo.take d) < n then some .poolFull
  else none

/-- The records of the `d` oldest frames of the class, each with the condition it met (R136, R143). -/
def State.displacedRecords (s : State) (j : LinkId) (k : ClassId) (n d : Nat) : List DiscardRecord :=
  (((s.link j).park.fifos.get k).take d).zipIdx.filterMap fun f =>
    (s.barAt j k n f.2).map fun reason => ⟨reason, j, some k, f.1.length, BitVec.ofNat 32 (s.now / 3125)⟩

section
variable {j : LinkId} {k : ClassId} {s : State}

theorem State.barAt_zero (n : Nat) : s.barAt j k n 0 = s.parkBar j k n := by
  rfl

theorem State.displacedRecords_link {n d : Nat} : ∀ x ∈ s.displacedRecords j k n d, x.link = j := by
  intro x hx
  obtain ⟨f, _, made⟩ := List.mem_filterMap.mp hx
  obtain ⟨reason, _, rfl⟩ := Option.map_eq_some_iff.mp made
  rfl

/-! ### One head displaced -/

/-- The head of a class has been displaced, from `s` to `t`. -/
structure HeadDisplaced (reason : DiscardReason) (j : LinkId) (k : ClassId) (f : ParkedFrame) (rest : List ParkedFrame)
    (s t : State) : Prop where
  link : t.link j = { s.link j with
    park := { (s.link j).park with fifos := (s.link j).park.fifos.set k rest }
    counters := { (s.link j).counters with discards := (t.link j).counters.discards } }
  pool : t.poolFree = s.poolFree + f.blocks
  handed : ∀ n, Drained [⟨reason, j, some k, f.length, BitVec.ofNat 32 (s.now / 3125)⟩] [.discard j] 0 false
    { s with poolFree := n } { t with poolFree := n }
  touched : Touches (Only j) storeParts s t

theorem headDisplaced_discardHead {f : ParkedFrame} {rest : List ParkedFrame} (reason : DiscardReason)
    (head : (s.link j).park.fifos.get k = f :: rest) :
    HeadDisplaced reason j k f rest s (s.discardHead j k f reason) := by
  have touched := touches_discardHead (only_self j) k f reason s
  have link := State.removeHead_link head
  have taken := touches_removeHead (only_self j) k s
  have pool : (s.removeHead j k).poolFree = s.poolFree + f.blocks := by rw [State.removeHead_eq head]
  unfold State.discardHead at touched ⊢
  generalize s.removeHead j k = r at link taken pool touched
  have counted := r.discard_link reason j (some k) f.length
  refine ⟨?_, pool, fun n => ?_, touched.mono⟩
  · rw [counted, link]
  · have left : Drained [] [] 0 false { s with poolFree := n } { r with poolFree := n } :=
      .of_same (fun i => congrArg Counters.discards (taken.counters i)) taken.slotA taken.slotB taken.raised rfl
        taken.poolLow taken.settings
    have told := drained_discard reason j (some k) f.length { r with poolFree := n }
    have record : State.discardRecord reason j (some k) f.length { r with poolFree := n }
        = ⟨reason, j, some k, f.length, BitVec.ofNat 32 (s.now / 3125)⟩ := by rw [← taken.now] <;> rfl
    rw [record] at told
    exact left.trans told

theorem HeadDisplaced.barAt {reason : DiscardReason} {f : ParkedFrame} {rest : List ParkedFrame} {t : State}
    (h : HeadDisplaced reason j k f rest s t) (head : (s.link j).park.fifos.get k = f :: rest) (n d : Nat) :
    t.barAt j k n d = s.barAt j k n (d + 1) := by
  have fifo : (t.link j).park.fifos.get k = rest := by rw [h.link]; exact Bank.get_set_self ..
  have fifos : (t.link j).park.fifos = (s.link j).park.fifos.set k rest := by rw [h.link]
  have occupancy := ParkState.occupancy_set k rest fifos
  have blocks (l : List ParkedFrame) : blocksIn (f :: l) = f.blocks + blocksIn l := rfl
  rw [head, blocks] at occupancy
  have full : s.settings.linkLimit + blocksIn (rest.take d) < (t.link j).park.occupancy + n
      ↔ s.settings.linkLimit + (f.blocks + blocksIn (rest.take d)) < (s.link j).park.occupancy + n := by omega
  have scarce : s.poolFree + f.blocks + blocksIn (rest.take d) < n
      ↔ s.poolFree + (f.blocks + blocksIn (rest.take d)) < n := by omega
  simp only [State.barAt, fifo, head, h.touched.settings, h.pool, List.drop_succ_cons, List.take_succ_cons, blocks, full, scarce]

theorem HeadDisplaced.records {reason : DiscardReason} {f : ParkedFrame} {rest : List ParkedFrame} {t : State} {n : Nat}
    (h : HeadDisplaced reason j k f rest s t) (head : (s.link j).park.fifos.get k = f :: rest)
    (bar : s.barAt j k n 0 = some reason) (d : Nat) :
    s.displacedRecords j k n (d + 1)
      = ⟨reason, j, some k, f.length, BitVec.ofNat 32 (s.now / 3125)⟩ :: t.displacedRecords j k n d := by
  have fifo : (t.link j).park.fifos.get k = rest := by rw [h.link]; exact Bank.get_set_self ..
  simp only [State.displacedRecords, head, fifo, h.barAt head, h.touched.now, List.take_succ_cons, List.zipIdx_cons,
    List.filterMap_cons, bar, Option.map_some, Nat.zero_add]
  rw [List.zipIdx_succ, List.filterMap_map]
  rfl

/-! ### One head after another -/

/-- The `d` oldest frames of the class have been displaced for `n` blocks, from `s` to `t`. -/
structure Displaced (j : LinkId) (k : ClassId) (n d : Nat) (s t : State) : Prop where
  link : t.link j = { s.link j with
    park := { (s.link j).park with fifos := (s.link j).park.fifos.set k (((s.link j).park.fifos.get k).drop d) }
    counters := { (s.link j).counters with discards := (t.link j).counters.discards } }
  pool : t.poolFree = s.poolFree + blocksIn (((s.link j).park.fifos.get k).take d)
  handed : ∀ m, Drained (s.displacedRecords j k n d) (discardsOf (s.displacedRecords j k n d)) 0 false
    { s with poolFree := m } { t with poolFree := m }
  touched : Touches (Only j) storeParts s t

theorem Displaced.refl (s : State) (j : LinkId) (k : ClassId) (n : Nat) : Displaced j k n 0 s s :=
  ⟨by rw [List.drop_zero, Bank.set_get_self _ _ _ rfl], rfl, fun _ => .refl _,
    .refl ..⟩

theorem Displaced.cons {reason : DiscardReason} {f : ParkedFrame} {rest : List ParkedFrame} {n d : Nat} {t u : State}
    (first : HeadDisplaced reason j k f rest s t) (head : (s.link j).park.fifos.get k = f :: rest)
    (bar : s.barAt j k n 0 = some reason) (later : Displaced j k n d t u) : Displaced j k n (d + 1) s u := by
  have fifo : (t.link j).park.fifos.get k = rest := by rw [first.link]; exact Bank.get_set_self ..
  have link := later.link
  have pool := later.pool
  rw [fifo] at link pool
  refine ⟨?_, ?_, fun m => ?_, first.touched.trans later.touched⟩
  · rw [link, first.link, head, List.drop_succ_cons, Bank.set_set]
  · rw [pool, first.pool, head, List.take_succ_cons, Nat.add_assoc] <;> rfl
  · rw [first.records head bar]
    exact (first.handed m).trans (later.handed m)

/-- Displacement takes as many of the oldest frames as it needs (R136). -/
theorem displaced_displace {l : List ParkedFrame} (fifo : (s.link j).park.fifos.get k = l) (n : Nat) :
    ∃ d t, s.displace j k n l.length = (t, s.barAt j k n d) ∧ d ≤ l.length ∧ (∀ c < d, s.barAt j k n c ≠ none)
      ∧ (s.barAt j k n d ≠ none → d = l.length) ∧ Displaced j k n d s t := by
  induction l generalizing s with
  | nil => exact ⟨0, s, rfl, Nat.le_refl _, by simp, fun _ => rfl, .refl ..⟩
  | cons f rest ih =>
    rw [List.length_cons, State.displace, show s.fifo j k = f :: rest from fifo, ← s.barAt_zero]
    cases bar : s.barAt j k n 0 with
    | none => exact ⟨0, s, by rw [bar], Nat.zero_le _, by simp, fun h => absurd bar h, .refl ..⟩
    | some reason =>
      have first := headDisplaced_discardHead reason fifo
      simp only
      generalize s.discardHead j k f reason = v at first
      obtain ⟨d, t, result, short, bars, full, later⟩ := ih (s := v) (by rw [first.link]; exact Bank.get_set_self ..)
      simp only [first.barAt fifo] at result bars full
      refine ⟨d + 1, t, result, by omega, fun c hc => ?_, fun h => by rw [full h], .cons first fifo bar later⟩
      cases c with
      | zero => rw [bar]; exact Option.some_ne_none _
      | succ c => exact bars c (by omega)

end

end Sys2Proof.Machine
end

section
/-! PROOFS. The pauses, the marks and the pool after an arrival (R124, R126, R137, R139, R140). -/

set_option Elab.async false

namespace Sys2Proof.Machine

/-! ### The judgement of a class by its occupancy -/

/-- Whether a class above the critical level is to be paused (R124). -/
abbrev State.pausesBy (s : State) (j : LinkId) (k : ClassId) (above : Prop) : Prop :=
  above ∧ ((s.link j).hold.service = .hold ∨ (s.link j).hold.service = .replay) ∧ s.settings.pausable.get k = true
    ∧ (s.link j).hold.paused.get k = none

/-- Whether a class at or below the resume level is to be released (R126). -/
abbrev State.releasesBy (s : State) (j : LinkId) (k : ClassId) (low : Prop) : Prop :=
  low ∧ s.levelReleases j ∧ ((s.link j).hold.paused.get k).isSome

/-- A class found above the critical level, at or below the resume level, or neither, has been judged, from `s` to `t`. -/
structure ClassJudged (above low : Prop) [Decidable above] [Decidable low] (j : LinkId) (k : ClassId) (s t : State) :
    Prop where
  link : t.link j = { s.link j with
    hold := { (s.link j).hold with
      paused := (s.link j).hold.paused.set k
        (if s.pausesBy j k above then some (s.refreshEnd j) else if s.releasesBy j k low then none
          else (s.link j).hold.paused.get k) }
    park := { (s.link j).park with
      critical := (s.link j).park.critical.set k
        (if above then true else if low then false else (s.link j).park.critical.get k) }
    fabricSide := (t.link j).fabricSide }
  pausing : s.pausesBy j k above → prioritiesOf s.settings k ≠ 0 →
    (t.link j).fabricSide.holdsPause ⟨prioritiesOf s.settings k, s.settings.pauseTime⟩
  releasing : s.releasesBy j k low → prioritiesOf s.settings k ≠ 0 →
    (t.link j).fabricSide.holdsPause ⟨prioritiesOf s.settings k, 0⟩
  silent : (¬ s.pausesBy j k above ∧ ¬ s.releasesBy j k low) ∨ prioritiesOf s.settings k = 0 →
    (t.link j).fabricSide = (s.link j).fabricSide

section
variable (j : LinkId) (k : ClassId) (s : State)

/-- A class that is neither above nor low. -/
theorem ClassJudged.refl : ClassJudged False False j k s s where
  link := by
    rw [if_neg And.left, if_neg And.left, if_neg id, if_neg id, Bank.set_get_self _ _ _ rfl, Bank.set_get_self _ _ _ rfl]
  pausing h := absurd h.1 id
  releasing h := absurd h.1 id
  silent _ := rfl

theorem ClassJudged.of_iff {a b c d : Prop} [p : Decidable a] [q : Decidable b] [r : Decidable c] [o : Decidable d] {j : LinkId} {k : ClassId}
    {s t : State} (h : ClassJudged a b j k s t) (first : c ↔ a) (second : d ↔ b) : ClassJudged c d j k s t := by
  obtain rfl : c = a := propext first
  obtain rfl : d = b := propext second
  obtain rfl : r = p := Subsingleton.elim ..
  obtain rfl : o = q := Subsingleton.elim ..
  exact h

theorem classJudged_occupancyFell :
    ClassJudged False (s.occupancy j k ≤ s.settings.resumeLevel) j k s (s.occupancyFell j k) := by
  have link := s.occupancyFell_link j k
  have released := s.occupancyFell_released j k
  generalize s.occupancyFell j k = t at link released
  have marks : (if s.occupancy j k ≤ s.settings.resumeLevel then (s.link j).park.critical.set k false
      else (s.link j).park.critical) = (s.link j).park.critical.set k (if False then true
        else if s.occupancy j k ≤ s.settings.resumeLevel then false else (s.link j).park.critical.get k) := by
    rw [if_neg id]
    split
    · rfl
    · rw [Bank.set_get_self _ _ _ rfl]
  have paused : (if s.levelReleases j ∧ s.occupancy j k ≤ s.settings.resumeLevel then (s.link j).hold.paused.set k none
      else (s.link j).hold.paused) = (s.link j).hold.paused.set k
        (if s.pausesBy j k False then some (s.refreshEnd j)
          else if s.releasesBy j k (s.occupancy j k ≤ s.settings.resumeLevel) then none
          else (s.link j).hold.paused.get k) := by
    rw [if_neg (c := s.pausesBy j k False) And.left]
    by_cases due : s.levelReleases j ∧ s.occupancy j k ≤ s.settings.resumeLevel
    · rw [if_pos due]
      by_cases held : ((s.link j).hold.paused.get k).isSome
      · rw [if_pos ⟨due.2, due.1, held⟩]
      · rw [if_neg fun h => held h.2.2, Option.not_isSome_iff_eq_none.mp held]
    · rw [if_neg due, if_neg fun h => due ⟨h.2.1, h.1⟩, Bank.set_get_self _ _ _ rfl]
  refine ⟨by rw [← marks, ← paused]; exact link, fun h => absurd h.1 id, fun ⟨low, level, isSome⟩ mapped => ?_,
    fun stays => ?_⟩
  · refine released.told k isSome ?_ mapped
    rw [link, if_pos ⟨level, low⟩, Bank.get_set_self]
  · refine released.silent fun c => ?_
    by_cases due : s.levelReleases j ∧ s.occupancy j k ≤ s.settings.resumeLevel
    · rw [link, if_pos due]
      by_cases e : k = c
      · subst e
        rcases stays with ⟨_, free⟩ | unmapped
        · refine .inr ?_
          rw [Bank.get_set_self]
          by_contra paused
          exact free ⟨due.2, due.1, Option.isSome_iff_ne_none.mpr (Ne.symm paused)⟩
        · exact .inl unmapped
      · exact .inr (Bank.get_set_ne _ _ _ _ e)
    · rw [link, if_neg due]
      exact .inr rfl

/-! ### A class above the critical level (R124, R139) -/

/-- A class that has risen above the critical level is paused where its link parks and it is pausable (R124). -/
def State.pauseRisen (j : LinkId) (k : ClassId) (s : State) : State :=
  if (s.link j).hold.service.parks then s.pauseIfPausable j k else s

/-- A clear critical mark is set, with CLASS-CRITICAL (R139). -/
def State.markRisen (clear : Bool) (j : LinkId) (k : ClassId) (s : State) : State :=
  if clear then (s.setCritical j k true).raise .classCritical j.val k.val else s

/-- A pool below the mark sets a clear pool-low state, with POOL-LOW (R140). -/
def State.poolFell (s : State) : State :=
  if s.poolFree < s.settings.poolLowMark && !s.poolLow then { s with poolLow := true }.raise .poolLow 0 else s

theorem State.judgeJoined_above (above : s.settings.criticalLevel < s.occupancy j k) :
    s.judgeJoined j k = (State.markRisen (!(s.link j).park.critical.get k) j k (s.pauseRisen j k)).poolFell := by
  simp only [State.judgeJoined, above, decide_true, if_true, Bool.true_and]
  rfl

theorem State.judgeJoined_below (below : ¬ s.settings.criticalLevel < s.occupancy j k) :
    s.judgeJoined j k = (s.occupancyFell j k).poolFell := by
  simp only [State.judgeJoined, below, decide_false, Bool.false_eq_true, if_false, Bool.false_and]
  rfl

theorem State.pauseRisen_eq : s.pauseRisen j k = if s.pausesBy j k True then s.pauseClass j k else s := by
  have parks (v : ServiceState) : v.parks = true ↔ v = .hold ∨ v = .replay := by cases v <;> decide
  unfold State.pauseRisen State.pauseIfPausable State.isPaused
  by_cases open' : (s.link j).hold.service = .hold ∨ (s.link j).hold.service = .replay
  · rw [if_pos ((parks _).mpr open')]
    refine if_congr ?_ rfl rfl
    simp [State.pausesBy, open']
  · rw [if_neg (mt (parks _).mp open'), if_neg fun h => open' h.2.1]

theorem touches_pauseRisen : Touches (Only j) [.hold, .fabricSide] s (s.pauseRisen j k) :=
  .ite (fun _ => touches_pauseIfPausable (only_self j) k s) fun _ => .refl ..

theorem State.link_markRisen (clear : Bool) : (State.markRisen clear j k s).link j = { s.link j with
    park := { (s.link j).park with
      critical := if clear then (s.link j).park.critical.set k true else (s.link j).park.critical } } := by
  unfold State.markRisen
  cases clear with
  | false => rfl
  | true =>
    change (s.setCritical j k true).link j = _
    rw [State.setCritical, State.link_updLink_self]
    rfl

theorem touches_markRisen (clear : Bool) : Touches (Only j) [.critical, .raised] s (State.markRisen clear j k s) :=
  .ite (fun _ => (touches_setCritical (only_self j) k true s).trans (touches_raise ..)) fun _ => .refl ..

theorem State.link_poolFell (i : LinkId) : s.poolFell.link i = s.link i := by
  unfold State.poolFell
  split <;> rfl

theorem touches_poolFell : Touches (Only j) [.poolLow, .raised] s s.poolFell :=
  .ite (fun _ => (touches_poolLow true s).trans (touches_raise ..)) fun _ => .refl ..

theorem classJudged_risen : ClassJudged True False j k s
    (State.markRisen (!(s.link j).park.critical.get k) j k (s.pauseRisen j k)) := by
  have marked := State.link_markRisen j k (s.pauseRisen j k) (!(s.link j).park.critical.get k)
  have marks : (if (!(s.link j).park.critical.get k) = true then (s.link j).park.critical.set k true
      else (s.link j).park.critical) = (s.link j).park.critical.set k true := by
    cases h : (s.link j).park.critical.get k with
    | false => rfl
    | true => exact (Bank.set_get_self _ _ _ h).symm
  generalize State.markRisen (!(s.link j).park.critical.get k) j k (s.pauseRisen j k) = t at marked
  have spec := s.pauseRisen_eq j k
  obtain ⟨link, mapped, unmapped⟩ := State.pauseClass_spec j k s
  by_cases pauses : s.pausesBy j k True
  · rw [spec, if_pos pauses, link] at marked
    refine ⟨?_, fun _ has => ?_, fun h => absurd h.1 id, fun stays => ?_⟩
    · rw [marked, marks, if_pos pauses, if_pos trivial]
    · rw [marked]
      exact mapped has
    · rw [marked]
      exact unmapped (stays.resolve_left fun h => h.1 pauses)
  · rw [spec, if_neg pauses] at marked
    refine ⟨?_, fun h => absurd h pauses, fun h => absurd h.1 id, fun _ => by rw [marked]⟩
    rw [marked, marks, if_neg pauses, if_neg And.left, if_pos trivial, Bank.set_get_self _ _ _ rfl]

/-! ### The judgements that follow a join (R137) -/

/-- An arrival that has joined its FIFO has been judged, from `s` to `t`. -/
structure JoinJudged (j : LinkId) (k : ClassId) (s t : State) : Prop where
  judged : ClassJudged (s.settings.criticalLevel < s.occupancy j k)
    (¬ s.settings.criticalLevel < s.occupancy j k ∧ s.occupancy j k ≤ s.settings.resumeLevel) j k s t
  poolLow : t.poolLow = (s.poolLow || decide (s.poolFree < s.settings.poolLowMark))
  raised : t.raised = s.raised
    ++ (if s.settings.criticalLevel < s.occupancy j k ∧ (s.link j).park.critical.get k = false
        then [.event ⟨.classCritical, j.val, k.val⟩] else [])
    ++ (if s.poolFree < s.settings.poolLowMark ∧ s.poolLow = false then [.event ⟨.poolLow, 0, 0⟩] else [])

theorem State.poolFell_poolLow : s.poolFell.poolLow = (s.poolLow || decide (s.poolFree < s.settings.poolLowMark)) := by
  unfold State.poolFell
  by_cases scarce : s.poolFree < s.settings.poolLowMark <;> cases h : s.poolLow <;> simp [scarce, h, State.raise, State.signal]

theorem State.poolFell_raised : s.poolFell.raised = s.raised
    ++ (if s.poolFree < s.settings.poolLowMark ∧ s.poolLow = false then [.event ⟨.poolLow, 0, 0⟩] else []) := by
  unfold State.poolFell
  by_cases scarce : s.poolFree < s.settings.poolLowMark <;> cases h : s.poolLow <;> simp [scarce, State.raise, State.signal]

theorem State.markRisen_raised (clear : Bool) : (State.markRisen clear j k s).raised = s.raised
    ++ (if clear = true then [.event ⟨.classCritical, j.val, k.val⟩] else []) := by
  unfold State.markRisen
  cases clear with
  | false => exact (List.append_nil _).symm
  | true => rfl

theorem ClassJudged.of_link {a b : Prop} [Decidable a] [Decidable b] {j : LinkId} {k : ClassId} {s t u : State}
    (h : ClassJudged a b j k s t) (link : u.link j = t.link j) : ClassJudged a b j k s u :=
  ⟨by rw [link]; exact h.link, by rw [link]; exact h.pausing, by rw [link]; exact h.releasing, by rw [link]; exact h.silent⟩

theorem joinJudged_judgeJoined : JoinJudged j k s (s.judgeJoined j k) := by
  by_cases above : s.settings.criticalLevel < s.occupancy j k
  · rw [State.judgeJoined_above j k s above]
    have judged := classJudged_risen j k s
    have paused := touches_pauseRisen j k s
    have touched := paused.trans (touches_markRisen j k (s.pauseRisen j k) (!(s.link j).park.critical.get k))
      (rs := [.hold, .fabricSide, .critical, .raised])
    have told := State.markRisen_raised j k (s.pauseRisen j k) (!(s.link j).park.critical.get k)
    rw [paused.raised] at told
    generalize State.markRisen (!(s.link j).park.critical.get k) j k (s.pauseRisen j k) = t at judged touched told
    refine ⟨(judged.of_iff (iff_true_intro above) (by simp [above])).of_link (t.link_poolFell j), ?_, ?_⟩
    · rw [State.poolFell_poolLow, touched.poolLow, touched.poolFree, touched.settings]
    · rw [State.poolFell_raised, told, touched.poolLow, touched.poolFree, touched.settings]
      simp only [above, true_and, Bool.not_eq_true']
  · rw [State.judgeJoined_below j k s above]
    have judged := classJudged_occupancyFell j k s
    have touched := touches_occupancyFell (only_self j) k s
    generalize s.occupancyFell j k = t at judged touched
    refine ⟨(judged.of_iff (by simp [above]) (by simp [above])).of_link (t.link_poolFell j), ?_, ?_⟩
    · rw [State.poolFell_poolLow, touched.poolLow, touched.poolFree, touched.settings]
    · rw [State.poolFell_raised, touched.raised, touched.poolLow, touched.poolFree, touched.settings]
      simp only [above, false_and, if_false, List.append_nil]

end

end Sys2Proof.Machine
end

section
/-! PROOFS. The admission procedure of the park store (R136, R137): O48. -/

set_option Elab.async false

namespace Sys2Proof.Machine

section
variable {j : LinkId} {k : ClassId} {s : State}

/-- Every discard of an arrival for `n` blocks that displaces `d` frames: theirs, and its own where a condition still holds
(R136, R143). -/
def State.arrivalRecords (s : State) (j : LinkId) (k : ClassId) (n d length : Nat) : List DiscardRecord :=
  s.displacedRecords j k n d ++ ((s.barAt j k n d).map fun reason =>
    (⟨reason, j, some k, length, BitVec.ofNat 32 (s.now / 3125)⟩ : DiscardRecord)).toList

theorem State.arrivalRecords_link {n d length : Nat} : ∀ x ∈ s.arrivalRecords j k n d length, x.link = j := by
  intro x hx
  rcases List.mem_append.mp hx with h | h
  · exact State.displacedRecords_link x h
  · obtain ⟨reason, _, rfl⟩ := Option.map_eq_some_iff.mp (Option.mem_toList.mp h)
    rfl

theorem discardsOf_own {r : List DiscardRecord} (own : ∀ x ∈ r, x.link = j) : discardsOf r = r.map fun _ => .discard j :=
  List.map_congr_left fun x hx => congrArg _ (own x hx)

/-- An arrival of `n` blocks that displaces `d` frames has joined its FIFO or been discarded, from `s` to `x`, and nothing
is judged yet (R136, R137). -/
structure ArrivalMet (j : LinkId) (k : ClassId) (n d : Nat) (arrival : ParkedFrame) (s x : State) : Prop where
  link : x.link j = { s.link j with
    park := { (s.link j).park with fifos := (s.link j).park.fifos.set k (((s.link j).park.fifos.get k).drop d
      ++ if s.barAt j k n d = none then [arrival] else []) }
    counters := { (s.link j).counters with
      parked := if s.barAt j k n d = none then min 4294967295 ((s.link j).counters.parked + 1)
        else (s.link j).counters.parked
      discards := (x.link j).counters.discards } }
  pool : x.poolFree + (if s.barAt j k n d = none then n else 0)
    = s.poolFree + blocksIn (((s.link j).park.fifos.get k).take d)
  handed : ∀ m, Drained (s.arrivalRecords j k n d arrival.length) (discardsOf (s.arrivalRecords j k n d arrival.length)) 0
    false { s with poolFree := m } { x with poolFree := m }
  touched : Touches (Only j) storeParts s x

/-- An arrival that displaces `d` frames has been judged, from `x` to `u` (R124, R126, R137, R139, R140). -/
structure ArrivalJudged (joined : Prop) [Decidable joined] (j : LinkId) (k : ClassId) (d : Nat) (x u : State) : Prop where
  judged : ClassJudged (joined ∧ x.settings.criticalLevel < x.occupancy j k)
    ((joined ∨ 0 < d) ∧ ¬ (joined ∧ x.settings.criticalLevel < x.occupancy j k)
      ∧ x.occupancy j k ≤ x.settings.resumeLevel) j k x u
  pool : u.poolFree = x.poolFree
  poolLow : u.poolLow = if 0 < d ∧ x.settings.poolLowMark ≤ x.poolFree then false
    else (x.poolLow || decide (joined ∧ x.poolFree < x.settings.poolLowMark))
  raised : u.raised = x.raised
    ++ (if (joined ∧ x.settings.criticalLevel < x.occupancy j k) ∧ (x.link j).park.critical.get k = false
        then [.event ⟨.classCritical, j.val, k.val⟩] else [])
    ++ (if (joined ∧ x.poolFree < x.settings.poolLowMark) ∧ x.poolLow = false then [.event ⟨.poolLow, 0, 0⟩] else [])
  slots : u.slotA = x.slotA ∧ u.slotB = x.slotB

/-- What an arrival was told of the pool, and what displaced frames then tell it. -/
theorem State.poolRose_told {b : Bool} {d : Nat} {v : State} (low : v.poolLow = b) :
    (if 0 < d then v.poolRose else v).poolLow = if 0 < d ∧ v.settings.poolLowMark ≤ v.poolFree then false else b := by
  by_cases some : 0 < d
  · rw [if_pos some, State.poolRose_poolLow, low]
    simp [some]
  · rw [if_neg some, low, if_neg fun h => some h.1]

theorem touches_poolRoseIf (d : Nat) (v : State) : Touches (Only j) [.poolLow] v (if 0 < d then v.poolRose else v) :=
  .ite (fun _ => touches_poolRose v) fun _ => .refl ..

theorem State.link_poolRoseIf (d : Nat) (v : State) (i : LinkId) :
    (if 0 < d then v.poolRose else v).link i = v.link i := by
  split
  · exact State.link_poolRose ..
  · rfl

/-- A joined arrival judged. -/
theorem arrivalJudged_joined {joined : Prop} [Decidable joined] (yes : joined) (d : Nat) (x : State) :
    ArrivalJudged joined j k d x (if 0 < d then (x.judgeJoined j k).poolRose else x.judgeJoined j k) := by
  obtain ⟨judged, low, raised⟩ := joinJudged_judgeJoined j k x
  have touched := touches_judgeJoined (only_self j) k x
  generalize x.judgeJoined j k = w at judged low raised touched
  have rose := touches_poolRoseIf (j := j) d w
  refine ⟨(judged.of_iff (by simp [yes]) (by simp [yes])).of_link (State.link_poolRoseIf d w j), ?_, ?_, ?_, ?_, ?_⟩
  · rw [rose.poolFree, touched.poolFree]
  · rw [State.poolRose_told low, touched.settings, touched.poolFree]
    simp [yes]
  · rw [rose.raised, raised]
    simp only [yes, true_and]
  · rw [rose.slotA, touched.slotA]
  · rw [rose.slotB, touched.slotB]

/-- A discarded arrival's displacements judged. -/
theorem arrivalJudged_refused {joined : Prop} [Decidable joined] (no : ¬ joined) (d : Nat) (x : State) :
    ArrivalJudged joined j k d x (if 0 < d then (x.occupancyFell j k).poolRose else x) := by
  by_cases some : 0 < d
  · rw [if_pos some]
    have judged := classJudged_occupancyFell j k x
    have touched := touches_occupancyFell (only_self j) k x
    generalize x.occupancyFell j k = w at judged touched
    have rose := touches_poolRose (W := Only j) w
    refine ⟨(judged.of_iff (by simp [no]) (by simp [no, some])).of_link (State.link_poolRose w j), ?_, ?_, ?_, ?_, ?_⟩
    · rw [rose.poolFree, touched.poolFree]
    · rw [State.poolRose_poolLow, touched.settings, touched.poolFree, touched.poolLow]
      simp [no, some]
    · rw [rose.raised, touched.raised]
      simp [no]
    · rw [rose.slotA, touched.slotA]
    · rw [rose.slotB, touched.slotB]
  · rw [if_neg some]
    exact ⟨(ClassJudged.refl j k x).of_iff (by simp [no]) (by simp [no, some]), rfl, by simp [no, some], by simp [no],
      rfl, rfl⟩

/-! ### The arrival (R136, R137) -/

section
variable {n d : Nat} {t : State} (displaced : Displaced j k n d s t)
include displaced

/-- An arrival that a condition still keeps out. -/
theorem Displaced.refused {reason : DiscardReason} (bar : s.barAt j k n d = some reason)
    (arrival : ParkedFrame) : ArrivalMet j k n d arrival s (t.discard reason j (some k) arrival.length) := by
  have kept : ¬ s.barAt j k n d = none := by rw [bar]; exact Option.some_ne_none _
  have link := t.discard_link reason j (some k) arrival.length
  refine ⟨?_, ?_, fun m => ?_, displaced.touched.trans (touches_discard (only_self j) reason _ _ t)⟩
  · rw [link, displaced.link, if_neg kept, if_neg kept, List.append_nil]
  · rw [if_neg kept]
    exact displaced.pool
  · have told := drained_discard reason j (some k) arrival.length { t with poolFree := m }
    have record : State.discardRecord reason j (some k) arrival.length { t with poolFree := m }
        = ⟨reason, j, some k, arrival.length, BitVec.ofNat 32 (s.now / 3125)⟩ := by rw [← displaced.touched.now] <;> rfl
    rw [record] at told
    have all := (displaced.handed m).trans told
    have records : s.arrivalRecords j k n d arrival.length = s.displacedRecords j k n d
        ++ [⟨reason, j, some k, arrival.length, BitVec.ofNat 32 (s.now / 3125)⟩] := by simp [State.arrivalRecords, bar]
    rw [records, discardsOf, List.map_append]
    exact all

/-- An arrival that joins its FIFO. -/
theorem Displaced.joined (bar : s.barAt j k n d = none) (arrival : ParkedFrame) (blocks : arrival.blocks = n)
    (fits : n ≤ t.poolFree) : ArrivalMet j k n d arrival s (t.joinFifo j k arrival) := by
  have fifo : t.fifo j k = ((s.link j).park.fifos.get k).drop d := by
    rw [State.fifo, displaced.link]
    exact Bank.get_set_self ..
  have link : (t.joinFifo j k arrival).link j = { t.link j with
      park := { (t.link j).park with fifos := (t.link j).park.fifos.set k (t.fifo j k ++ [arrival]) }
      counters := { (t.link j).counters with parked := min 4294967295 ((t.link j).counters.parked + 1) } } := by
    have joins : (t.setFifo j k (t.fifo j k ++ [arrival])).link j = { t.link j with
        park := { (t.link j).park with fifos := (t.link j).park.fifos.set k (t.fifo j k ++ [arrival]) } } := by
      rw [State.setFifo, State.link_updLink_self]
    have counts := State.link_updLink_self j
      (fun l => { l with counters := { l.counters with parked := saturate (l.counters.parked + 1) } })
      { t.setFifo j k (t.fifo j k ++ [arrival]) with poolFree := t.poolFree - arrival.blocks }
    refine counts.trans ?_
    change (fun l : Link => { l with counters := { l.counters with parked := saturate (l.counters.parked + 1) } })
      ((t.setFifo j k (t.fifo j k ++ [arrival])).link j) = _
    rw [joins] <;> rfl
  refine ⟨?_, ?_, fun m => ?_, displaced.touched.trans (touches_joinFifo (only_self j) k arrival t)⟩
  · rw [link, fifo, displaced.link, if_pos bar, if_pos bar, Bank.set_set]
  · rw [if_pos bar, ← displaced.pool]
    change t.poolFree - arrival.blocks + n = _
    omega
  · have joins := touches_joinFifo (only_self j) k arrival t
    have discards i : ((t.joinFifo j k arrival).link i).counters.discards = (t.link i).counters.discards := by
      by_cases e : i = j
      · rw [e, link]
      · rw [joins.elsewhere i e]
    have quiet : Drained [] [] 0 false { t with poolFree := m } { t.joinFifo j k arrival with poolFree := m } :=
      .of_same discards rfl rfl rfl rfl rfl rfl
    have all := (displaced.handed m).trans quiet
    simpa [State.arrivalRecords, bar] using all

end

/-- An arrival within the class limit (R136, R137). -/
theorem State.park_admissible (priority : Fin 8) (frame : List Byte) (admissible : blocksOf frame.length ≤ s.settings.classLimit) :
    ∃ d x, d ≤ ((s.link j).park.fifos.get k).length ∧ (∀ c < d, s.barAt j k (blocksOf frame.length) c ≠ none)
      ∧ (s.barAt j k (blocksOf frame.length) d ≠ none → d = ((s.link j).park.fifos.get k).length)
      ∧ ArrivalMet j k (blocksOf frame.length) d (s.parkRecord k priority frame) s x
      ∧ ArrivalJudged (s.barAt j k (blocksOf frame.length) d = none) j k d x (s.park j k priority frame) := by
  obtain ⟨d, t, result, short, bars, full, displaced⟩ :=
    displaced_displace (s := s) (j := j) (k := k) rfl (blocksOf frame.length)
  have fifo : t.fifo j k = ((s.link j).park.fifos.get k).drop d := by
    rw [State.fifo, displaced.link]
    exact Bank.get_set_self ..
  unfold State.park
  rw [if_neg (Nat.not_lt.mpr admissible)]
  simp only
  rw [show s.displace j k (blocksOf frame.length) (s.fifo j k).length = _ from result]
  cases bar : s.barAt j k (blocksOf frame.length) d with
  | some reason =>
    have refused : s.barAt j k (blocksOf frame.length) d ≠ none := by rw [bar]; exact Option.some_ne_none _
    have empties : (s.fifo j k).isEmpty = decide ¬ 0 < d := by
      rw [full refused, State.fifo]
      cases (s.link j).park.fifos.get k <;> simp
    refine ⟨d, _, short, bars, full, displaced.refused bar _, ?_⟩
    have judged := arrivalJudged_refused (j := j) (k := k) refused d
      (t.discard reason j (some k) frame.length)
    simp only [empties, decide_eq_true_eq, ite_not]
    exact judged
  | none =>
    have fits := le_poolFree_of_parkBar (parkBar_of_displace (bar ▸ result))
    have shorter : (t.fifo j k).length < (s.fifo j k).length ↔ 0 < d := by
      rw [fifo, List.length_drop, State.fifo]
      omega
    have record : t.parkRecord k priority frame = s.parkRecord k priority frame := by
      rw [State.parkRecord, State.stamp, State.microseconds, displaced.touched.now] <;> rfl
    refine ⟨d, _, short, bars, full, displaced.joined bar (s.parkRecord k priority frame) rfl fits, ?_⟩
    have judged := arrivalJudged_joined (j := j) (k := k) bar d (t.joinFifo j k (s.parkRecord k priority frame))
    simp only [shorter, record]
    exact judged

end

end Sys2Proof.Machine
end

section
/-! PROOFS. Parking displaces the oldest first (R136, R137): O48. -/

set_option Elab.async false

namespace Sys2Proof.Machine

section
variable {j : LinkId} {k : ClassId} {n d : Nat} {arrival : ParkedFrame} {s x : State}

theorem ArrivalMet.settings (h : ArrivalMet j k n d arrival s x) : x.settings = s.settings := (h.handed 0).settings

theorem ArrivalMet.poolLow (h : ArrivalMet j k n d arrival s x) : x.poolLow = s.poolLow := by
  have low := (h.handed 0).poolLow
  simpa using low

/-- The occupancy that an arrival leaves (R134). -/
theorem ArrivalMet.occupancy (h : ArrivalMet j k n d arrival s x) (blocks : arrival.blocks = n) :
    x.occupancy j k = blocksIn (((s.link j).park.fifos.get k).drop d) + if s.barAt j k n d = none then n else 0 := by
  rw [State.occupancy, h.link, Bank.get_set_self]
  split
  · simp [blocksIn, blocks]
  · simp

theorem ArrivalMet.levelReleases (h : ArrivalMet j k n d arrival s x) : x.levelReleases j ↔ s.levelReleases j := by
  rw [State.levelReleases, h.link, h.settings]

theorem ArrivalMet.pausesBy (h : ArrivalMet j k n d arrival s x) (above : Prop) :
    x.pausesBy j k above ↔ s.pausesBy j k above := by
  rw [State.pausesBy, h.link, h.settings]

theorem ArrivalMet.releasesBy (h : ArrivalMet j k n d arrival s x) (low : Prop) :
    x.releasesBy j k low ↔ s.releasesBy j k low := by
  rw [State.releasesBy, h.levelReleases, h.link]

theorem ArrivalMet.refreshEnd (h : ArrivalMet j k n d arrival s x) : x.refreshEnd j = s.refreshEnd j := by
  rw [State.refreshEnd, State.refreshEnd, State.linkLayout, State.linkLayout, State.cage, State.cage, h.touched.now,
    h.settings, h.touched.cages]

/-- The class judged, told from before the arrival. -/
theorem ClassJudged.met {above low : Prop} [Decidable above] [Decidable low] {u : State} (h : ClassJudged above low j k x u)
    (met : ArrivalMet j k n d arrival s x) :
    u.link j = { s.link j with
      hold := { (s.link j).hold with
        paused := (s.link j).hold.paused.set k
          (if s.pausesBy j k above then some (s.refreshEnd j) else if s.releasesBy j k low then none
            else (s.link j).hold.paused.get k) }
      park := ⟨(s.link j).park.fifos.set k (((s.link j).park.fifos.get k).drop d
          ++ if s.barAt j k n d = none then [arrival] else []),
        (s.link j).park.critical.set k
          (if above then true else if low then false else (s.link j).park.critical.get k)⟩
      counters := { (s.link j).counters with
        parked := if s.barAt j k n d = none then min 4294967295 ((s.link j).counters.parked + 1)
          else (s.link j).counters.parked
        discards := (u.link j).counters.discards }
      fabricSide := (u.link j).fabricSide } := by
  have link := h.link
  simp only [met.pausesBy, met.releasesBy, met.refreshEnd] at link
  have discards : (u.link j).counters.discards = (x.link j).counters.discards := by rw [link]
  rw [link, met.link]

end

/-- Settles O48: what is displaced is found head by head, and what is left is judged by its occupancy. -/
theorem parkingDisplacesOldestFirst : Obligations.ParkingDisplacesOldestFirst := by
  unfold Obligations.ParkingDisplacesOldestFirst
  intro j k priority frame s n l fifo u returned barAt record
  refine ⟨fun long => if_pos long, fun admissible => ?_⟩
  obtain ⟨d, x, short, bars, full, met, judged⟩ := State.park_admissible (s := s) (j := j) (k := k) priority frame admissible
  refine ⟨d, short, bars, full, ?_⟩
  intro joined left above low pauses releases dropped critical scarce
  have touched : Touches (Only j) storeParts s u := touches_park (only_self j) k priority frame s
  have settings := met.settings
  have occupancy : x.occupancy j k = left := met.occupancy rfl
  have records : s.arrivalRecords j k n d frame.length = dropped := rfl
  have own : ∀ r ∈ dropped, r.link = j := records ▸ State.arrivalRecords_link
  obtain ⟨judged, pool, poolLow, raised, slotA, slotB⟩ := judged
  rw [settings, occupancy] at judged raised
  have handed : Drained dropped (discardsOf dropped) 0 false { s with poolFree := 0 } { x with poolFree := 0 } := met.handed 0
  have counters : (u.link j).counters = (x.link j).counters := by rw [judged.link]
  refine ⟨judged.met met, ?_, ?_, ?_, ?_, ?_, ?_, ?_, touched.elsewhere, touched.eq⟩
  · rw [← settings]
    exact fun due => judged.pausing ((met.pausesBy _).mpr due)
  · rw [← settings]
    exact fun due => judged.releasing ((met.releasesBy _).mpr due)
  · intro quiet
    have same : (x.link j).fabricSide = l.fabricSide := by rw [met.link]
    rw [← same]
    refine judged.silent ?_
    rw [met.pausesBy, met.releasesBy, settings]
    exact quiet
  · rw [pool]
    exact met.pool
  · rw [poolLow, settings, ← pool, met.poolLow]
    by_cases rose : 0 < d ∧ s.settings.poolLowMark ≤ u.poolFree
    · rw [if_pos rose]
      have ample : ¬ scarce := fun h => absurd h.2 (Nat.not_lt.mpr rose.2)
      simp [rose, ample]
    · rw [if_neg rose, Bool.or_eq_true, decide_eq_true_eq]
      exact or_comm.trans (or_congr_right (and_iff_left rose).symm)
  · refine ⟨fun reason => ?_, ?_, ?_⟩
    · rw [counters]
      exact (handed.discarded own).counted reason
    · rw [slotA]
      exact handed.slotA
    · rw [slotB]
      exact handed.slotB
  · have mark : (x.link j).park.critical = l.park.critical := by rw [met.link]
    rw [raised, ← pool, met.poolLow, mark, handed.raised, discardsOf_own own]
    rfl

end Sys2Proof.Machine
end

section
/-! PROOFS. Frames from the switch on their link's path (R129, R132, R149, R154, R158): O47. -/

set_option Elab.async false

namespace Sys2Proof.Machine

section
variable {j : LinkId} {s : State} {frame : List Byte}

/-! ### What a judgement leaves of the service state -/

theorem State.endReplay_service : ((s.endReplay j).link j).hold.service = (s.link j).hold.service
    ∨ ((s.endReplay j).link j).hold.service = .pass := by
  by_cases done : s.replayDone j
  · exact .inr (by rw [(State.endReplay_link done).1])
  · exact .inl (by rw [State.endReplay_else done])

theorem touches_judgeFrom_serving (fuel : Nat) : ((s.judgeFrom j fuel).link j).hold.service = (s.link j).hold.service :=
  ((touches_judgeFrom (only_self j) fuel s).same .serving (by decide) j).1

theorem State.judge_service : ((s.judge j).link j).hold.service = (s.link j).hold.service
    ∨ ((s.judge j).link j).hold.service = .pass := by
  unfold State.judge
  split
  · exact .inl rfl
  split
  · rw [← touches_judgeFrom_serving (s := s) (s.link j).park.frames]
    exact State.endReplay_service
  · exact State.endReplay_service

/-! ### A discard (R143, R167) -/

theorem State.discard_eq (reason : DiscardReason) (cls : Option ClassId) (length : Nat) :
    s.discard reason j cls length = { s with
      links := s.links.set j { s.link j with counters := { (s.link j).counters with
        discards := (s.link j).counters.discards.set reason.place
          (min 4294967295 ((s.link j).counters.discards.get reason.place + 1)) } }
      slotA := if s.slotA = none then some ⟨reason, j, cls, length, BitVec.ofNat 32 (s.now / 3125)⟩ else s.slotA
      slotB := if s.slotA ≠ none ∧ s.slotB = none then some ⟨reason, j, cls, length, BitVec.ofNat 32 (s.now / 3125)⟩
        else s.slotB
      raised := s.raised ++ [Signal.discard j] } := by
  have first : (if s.slotA = none then some (⟨reason, j, cls, length, BitVec.ofNat 32 (s.now / 3125)⟩ : DiscardRecord)
      else s.slotA) = if s.slotA.isNone then some ⟨reason, j, cls, length, s.stamp⟩ else s.slotA :=
    if_congr Option.isNone_iff_eq_none.symm rfl rfl
  have second : (if s.slotA ≠ none ∧ s.slotB = none then
      some (⟨reason, j, cls, length, BitVec.ofNat 32 (s.now / 3125)⟩ : DiscardRecord) else s.slotB)
      = if s.slotA.isSome && s.slotB.isNone then some ⟨reason, j, cls, length, s.stamp⟩ else s.slotB :=
    if_congr (by simp [Option.isSome_iff_ne_none]) rfl rfl
  rw [first, second]
  rfl

/-! ### A data frame (R132) -/

theorem State.dataFrame_shed (closed : (s.link j).hold.service = .shed ∨ (s.link j).hold.service = .off) :
    s.dataFrame j frame
      = s.discard .shed j (some (s.settings.classMap.get (priorityOf s.settings frame))) frame.length := by
  unfold State.dataFrame
  rcases closed with h | h <;> rw [h]

theorem State.dataFrame_pass (open' : (s.link j).hold.service = .pass) : s.dataFrame j frame = s.passFrame j frame := by
  unfold State.dataFrame
  rw [open']

theorem State.dataFrame_parks (parks : (s.link j).hold.service = .hold ∨ (s.link j).hold.service = .replay) :
    s.dataFrame j frame = (s.park j (s.settings.classMap.get (priorityOf s.settings frame)) (priorityOf s.settings frame)
      frame).judgeArrival j (s.settings.classMap.get (priorityOf s.settings frame)) ((s.candidate j).map (·.1))
      (s.fifo j (s.settings.classMap.get (priorityOf s.settings frame))).length
      (blocksOf frame.length ≤ s.settings.classLimit) := by
  unfold State.dataFrame
  rcases parks with h | h <;> rw [h]

/-- A store is empty or has a highest class that holds a frame. -/
theorem ParkState.highest (p : ParkState) : (∀ k, p.fifos.get k = [])
    ∨ ∃ k f rest, p.fifos.get k = f :: rest ∧ ∀ h, k < h → p.fifos.get h = [] := by
  by_contra none
  obtain ⟨some, unbounded⟩ := not_or.mp none
  obtain ⟨k, filled⟩ := not_forall.mp some
  have top : ∃ k, p.fifos.get k ≠ [] ∧ ∀ h, k < h → p.fifos.get h = [] := by
    obtain ⟨k, filled, highest⟩ := Finset.exists_maximal (s := Finset.univ.filter fun k => p.fifos.get k ≠ [])
      ⟨k, by simp [filled]⟩
    refine ⟨k, (Finset.mem_filter.mp filled).2, fun h above => ?_⟩
    by_contra held
    exact absurd (highest (Finset.mem_filter.mpr ⟨Finset.mem_univ h, held⟩) (le_of_lt above)) (not_le.mpr above)
  obtain ⟨k, filled, highest⟩ := top
  obtain ⟨f, rest, head⟩ := List.exists_cons_of_ne_nil filled
  exact unbounded ⟨k, f, rest, head, highest⟩

theorem State.candidate_none (empty : ∀ k, (s.link j).park.fifos.get k = []) : s.candidate j = none := by
  simp [State.candidate, State.fifo, empty]

/-- An egress with a frame in transit begins none. -/
theorem ModuleEgress.begin_busy {e : ModuleEgress} {f : List Byte} (busy : e.transit = some f) : e.begin = e := by
  unfold ModuleEgress.begin
  rw [busy]

theorem State.passFrame_eq {e : ModuleEgress}
    (egress : { (s.link j).moduleSide with waiting := (s.link j).moduleSide.waiting ++ [frame] }.begin = e) :
    s.passFrame j frame = { s with links := s.links.set j { s.link j with moduleSide := e } } := by
  subst egress
  rfl

/-- A class holds the candidate where it holds a frame and no higher class does (R149). -/
theorem State.candidate_class (k : ClassId) : (s.candidate j).map (·.1) = some k
    ↔ (s.link j).park.fifos.get k ≠ [] ∧ ∀ h, k < h → (s.link j).park.fifos.get h = [] := by
  refine ⟨fun found => ?_, fun ⟨filled, highest⟩ => ?_⟩
  · rcases (s.link j).park.highest with empty | ⟨c, f, rest, head, highest⟩
    · rw [State.candidate_none empty] at found
      cases found
    · rw [State.candidate_some head highest] at found
      obtain rfl : c = k := Option.some.inj found
      exact ⟨by rw [head]; exact List.cons_ne_nil f rest, highest⟩
  · obtain ⟨f, rest, head⟩ := List.exists_cons_of_ne_nil filled
    rw [State.candidate_some head highest] <;> rfl

/-! ### The meter after an arrival (R149, R154) -/

/-- Whether an arrival makes the meter judge its candidate, told from before it, `s`, and after it, `v` (R149). -/
abbrev State.arrivalJudges (s v : State) (j : LinkId) (k : ClassId) (length : Nat) : Prop :=
  (blocksOf length ≤ s.settings.classLimit ∧ ((v.link j).park.fifos.get k).length = 1)
    ∨ (blocksOf length ≤ s.settings.classLimit ∧ (s.link j).park.fifos.get k ≠ []
      ∧ (∀ h, k < h → (s.link j).park.fifos.get h = [])
      ∧ ((v.link j).park.fifos.get k).length ≤ ((s.link j).park.fifos.get k).length)

theorem State.judgeArrival_eq (v : State) (k : ClassId) (length : Nat) :
    v.judgeArrival j k ((s.candidate j).map (·.1)) (s.fifo j k).length (blocksOf length ≤ s.settings.classLimit)
      = if s.arrivalJudges v j k length then v.judge j else v.endReplay j := by
  unfold State.judgeArrival
  refine if_congr ?_ rfl rfl
  simp only [Bool.or_eq_true, Bool.and_eq_true, decide_eq_true_eq, and_assoc]
  simp only [State.candidate_class, State.fifo, and_assoc]

theorem touches_judgeArrival (k : ClassId) (candidate : Option ClassId) (length : Nat) (admissible : Bool) :
    Touches (Only j) (storeParts ++ [.moduleSide, .meter, .serving]) s (s.judgeArrival j k candidate length admissible) :=
  .ite (fun _ => touches_judge (only_self j) s) fun _ => (touches_endReplay (only_self j) s).mono

end

/-- Settles O47, by the branches of the classifier and of the service state. -/
theorem switchFramesFollowService : Obligations.SwitchFramesFollowService := by
  unfold Obligations.SwitchFramesFollowService
  intro j frame s l priority k command discarded
  have gone (reason : DiscardReason) (cls : Option ClassId) (length : Nat) :
      s.discard reason j cls length = discarded reason cls length := State.discard_eq ..
  refine ⟨fun void => ?_, fun short used => ?_⟩
  · show execFrameFromSwitch j frame s = _
    exact if_pos (by
      rw [Bool.or_eq_true, decide_eq_true_eq, decide_eq_true_eq]
      exact void)
  have step := exec_frameFromSwitch j short used
  refine ⟨fun long => ?_, fun long address down => ?_, fun long address => ?_⟩
  · exact step.trans (by rw [State.classify_oversize long, gone])
  · exact step.trans (by rw [State.classify_management long address, if_neg (by rw [show (s.link j).hold.service.lanesUp = false from down]; decide), gone])
  rw [State.classify_data long address] at step
  have parked := touches_park (only_self j) k priority frame s
  refine ⟨fun closed => ?_, fun passes free => ?_, fun f passes busy => ?_, fun holds stopped => ?_, fun replays => ?_,
    fun replays => ?_⟩
  · exact step.trans (by rw [State.dataFrame_shed closed]; exact congrArg (fun t : State => (.next t.settle : Result)) (gone ..))
  · rw [State.dataFrame_pass passes, State.passFrame_eq (e := ⟨some frame, []⟩)] at step
    · exact step
    · rw [show (s.link j).moduleSide = ⟨none, []⟩ from free] <;> rfl
  · rw [State.dataFrame_pass passes, State.passFrame_eq (e := ⟨some f, l.moduleSide.waiting ++ [frame]⟩)] at step
    · exact step
    · exact (ModuleEgress.begin_busy (e := { l.moduleSide with waiting := l.moduleSide.waiting ++ [frame] }) busy).trans
        (congrArg (ModuleEgress.mk · (l.moduleSide.waiting ++ [frame])) busy)
  · rw [State.dataFrame_parks (.inl holds)] at step
    have mode : ((s.park j k priority frame).link j).meter.mode = .stopped := by
      rw [parked.meter]
      exact stopped
    refine step.trans ?_
    rw [State.judgeArrival_eq, State.judge_stopped mode,
      State.endReplay_else fun done => absurd (mode.symm.trans done.1) (by decide), ite_self]
  · rw [State.dataFrame_parks (.inr replays), State.judgeArrival_eq] at step
    intro v before joinsEmpty displaces
    have becomes {t : State} (h : (if s.arrivalJudges v j k frame.length then v.judge j else v.endReplay j) = t) :
        exec command s = .next t.settle := step.trans (congrArg (fun u : State => (.next u.settle : Result)) h)
    refine ⟨fun judges => becomes (if_pos judges), fun joins displaced goes => ?_, fun joins displaced done => ?_⟩
    · exact becomes ((if_neg (not_or.mpr ⟨joins, displaced⟩)).trans (State.endReplay_else goes))
    · exact ⟨_, becomes (if_neg (not_or.mpr ⟨joins, displaced⟩)), replayEnded_endReplay done⟩
  · rw [State.dataFrame_parks (.inr replays)] at step
    have judged := touches_judgeArrival (j := j) (s := s.park j k priority frame) k ((s.candidate j).map (·.1))
      (s.fifo j k).length (blocksOf frame.length ≤ s.settings.classLimit)
    have touched := parked.trans judged (rs := storeParts ++ [.moduleSide, .meter, .serving])
    refine ⟨_, step, ?_, touched.engine j, touched.penalty j, touched.elsewhere, touched.eq⟩
    have serves := (parked.same .serving (by decide) j).1.trans replays
    rw [State.judgeArrival_eq, ← serves]
    split
    · exact State.judge_service
    · exact State.endReplay_service

end Sys2Proof.Machine
end

section
/-! PROOFS. An admission up to the judgement of its candidate (R69, R105, R119, R126, R147). -/

set_option Elab.async false

namespace Sys2Proof.Machine

/-! ### What a judgement leaves and raises (R149 to R151, R154) -/

section
variable {j : LinkId} {s t u : State}

/-- From `s` to `t` nothing is raised but discards. -/
def RaisesDiscards (s t : State) : Prop :=
  ∃ rest : List Signal, (∀ x ∈ rest, ∃ i, x = .discard i) ∧ t.raised = s.raised ++ rest

theorem RaisesDiscards.of_same (h : t.raised = s.raised) : RaisesDiscards s t :=
  ⟨[], fun _ hx => absurd hx List.not_mem_nil, by rw [h, List.append_nil]⟩

theorem RaisesDiscards.trans (h : RaisesDiscards s t) (k : RaisesDiscards t u) : RaisesDiscards s u := by
  obtain ⟨l, hl, first⟩ := h
  obtain ⟨m, hm, second⟩ := k
  exact ⟨l ++ m, fun x hx => (List.mem_append.mp hx).elim (hl x) (hm x), by rw [second, first, List.append_assoc]⟩

theorem raisesDiscards_discardHead (k : ClassId) (f : ParkedFrame) (reason : DiscardReason) :
    RaisesDiscards s (s.discardHead j k f reason) :=
  ⟨[.discard j], fun x hx => ⟨j, List.mem_singleton.mp hx⟩, by
    rw [State.discardHead, ← (touches_removeHead (only_self j) k s).raised] <;> rfl⟩

/-- A judgement's search for a candidate: it raises discards alone, and of the meter only tokens may go. -/
structure Judged (j : LinkId) (s t : State) : Prop where
  raises : RaisesDiscards s t
  meter : ∃ n ≤ (s.link j).meter.tokens, (t.link j).meter = { (s.link j).meter with tokens := n }
  holdTimer : (t.link j).hold.holdTimer = (s.link j).hold.holdTimer
  lastLoss : (t.link j).hold.lastLoss = (s.link j).hold.lastLoss
  service : (t.link j).hold.service = (s.link j).hold.service

theorem Judged.refl (j : LinkId) (s : State) : Judged j s s :=
  ⟨.of_same rfl, ⟨_, Nat.le_refl _, rfl⟩, rfl, rfl, rfl⟩

theorem Judged.trans (h : Judged j s t) (k : Judged j t u) : Judged j s u := by
  obtain ⟨n, fewer, meter⟩ := h.meter
  obtain ⟨m, fewer', meter'⟩ := k.meter
  rw [meter] at fewer' meter'
  exact ⟨h.raises.trans k.raises, ⟨m, fewer'.trans fewer, meter'⟩, k.holdTimer.trans h.holdTimer,
    k.lastLoss.trans h.lastLoss, k.service.trans h.service⟩

/-- An operation that touches neither the meter nor the service state. -/
theorem Judged.of_touches {ps : List Part} (h : Touches (Only j) ps s t) (raises : RaisesDiscards s t)
    (meter : .meter ∉ ps := by decide) (serving : .serving ∉ ps := by decide) : Judged j s t := by
  obtain ⟨service, holdTimer, lastLoss⟩ := h.same .serving serving j
  exact ⟨raises, ⟨_, Nat.le_refl _, by rw [h.meter j meter]⟩, holdTimer, lastLoss, service⟩

theorem judged_startTransit (k : ClassId) (f : ParkedFrame) : Judged j s (s.startTransit j k f) :=
  have touched := touches_startTransit (only_self j) k f s
  .of_touches touched (.of_same touched.raised)

theorem judged_stale (k : ClassId) (f : ParkedFrame) :
    Judged j s (((s.discardHead j k f .stale).occupancyFell j k).poolRose) := by
  have told := touches_occupancyFell (only_self j) k (s.discardHead j k f .stale)
  have rose := touches_poolRose (W := Only j) ((s.discardHead j k f .stale).occupancyFell j k)
  exact ((Judged.of_touches (touches_discardHead (only_self j) k f .stale s) (raisesDiscards_discardHead k f .stale)).trans
    (.of_touches told (.of_same told.raised))).trans (.of_touches rose (.of_same rose.raised))

theorem judged_charge (c : Nat) : Judged j s (s.updMeter j fun m => { m with tokens := m.tokens - c }) := by
  have link : (s.updMeter j fun m => { m with tokens := m.tokens - c }).link j
      = { s.link j with meter := { (s.link j).meter with tokens := (s.link j).meter.tokens - c } } :=
    State.link_updLink_self ..
  exact ⟨.of_same rfl, ⟨_, Nat.sub_le .., by rw [link]⟩, by rw [link], by rw [link], by rw [link]⟩

theorem judged_judgeFrom (fuel : Nat) (s : State) : Judged j s (s.judgeFrom j fuel) := by
  induction fuel generalizing s with
  | zero => exact .refl j s
  | succ fuel ih =>
    unfold State.judgeFrom
    split
    · exact .refl j s
    · next k f _ =>
      split
      · exact (judged_stale k f).trans (ih _)
      · split
        · exact .refl j s
        · exact judged_startTransit k f
        · simp only
          split
          · exact (judged_charge _).trans (judged_startTransit k f)
          · exact .refl j s

/-- A judgement leaves the hold timer and the last loss, and raises discards alone. -/
theorem State.judge_rest : ((s.judge j).link j).hold.holdTimer = (s.link j).hold.holdTimer
    ∧ ((s.judge j).link j).hold.lastLoss = (s.link j).hold.lastLoss ∧ RaisesDiscards s (s.judge j) := by
  have ends (t : State) : ((t.endReplay j).link j).hold.holdTimer = (t.link j).hold.holdTimer
      ∧ ((t.endReplay j).link j).hold.lastLoss = (t.link j).hold.lastLoss ∧ RaisesDiscards t (t.endReplay j) := by
    refine ⟨?_, ?_, .of_same (touches_endReplay (only_self j) t).raised⟩
    all_goals
      by_cases done : t.replayDone j
      · rw [(State.endReplay_link done).1]
      · rw [State.endReplay_else done]
  unfold State.judge
  split
  · exact ⟨rfl, rfl, .of_same rfl⟩
  split
  · have judged := judged_judgeFrom (j := j) (s.link j).park.frames s
    obtain ⟨timer, loss, raises⟩ := ends (s.judgeFrom j (s.link j).park.frames)
    exact ⟨timer.trans judged.holdTimer, loss.trans judged.lastLoss, judged.raises.trans raises⟩
  · exact ends s

/-- A METERED meter's judgement spends tokens alone. -/
theorem State.judge_metered (metered : (s.link j).meter.mode = .metered) : Judged j s (s.judge j) := by
  have runs : (s.link j).meter.mode ≠ .stopped := by rw [metered]; decide
  by_cases free : (s.link j).moduleSide = ⟨none, []⟩
  · rw [State.judge_free runs free]
    have judged := judged_judgeFrom (j := j) (s.link j).park.frames s
    generalize s.judgeFrom j (s.link j).park.frames = t at judged
    obtain ⟨n, _, meter⟩ := judged.meter
    rw [State.endReplay_metered (by rw [meter]; exact metered)]
    exact judged
  · rw [State.judge_busy runs free, State.endReplay_metered metered]
    exact .refl j s

/-! ### The record refreshed (R69, R70) -/

theorem State.refresh_link : (s.refresh j).link j = { s.link j with
    engine := { (s.link j).engine with equaliser := s.heldSettings j } } := by
  have read : ((s.updEngine j fun e => { e with equaliser := s.heldSettings j }).spend).link j = { s.link j with
      engine := { (s.link j).engine with equaliser := s.heldSettings j } } := by
    change (s.updEngine j fun e => { e with equaliser := s.heldSettings j }).link j = _
    rw [State.updEngine, State.link_updLink_self]
  unfold State.refresh
  split
  · exact read
  · exact read

theorem State.refresh_freeCount : (s.refresh j).freeCount = s.freeCount + 1 := by
  unfold State.refresh
  split <;> rfl

theorem State.refresh_memory_none (none : s.ownRecord (cageOf j) = none) : (s.refresh j).memory = s.memory := by
  unfold State.refresh
  rw [none] <;> rfl

theorem State.refresh_memory_some {r : CageRecord} (own : s.ownRecord (cageOf j) = some r) :
    (s.refresh j).memory = s.memory.setPosition (cageOf j)
      (some (r.refreshed (s.linkSet j) (slotOf j) (s.heldSettings j) ((s.link j).engine.measuredSkew.getD 0))) := by
  unfold State.refresh
  rw [own] <;> rfl

/-- Settings written lane by lane: the lanes named hold theirs. -/
theorem Bank.foldl_set {n : Nat} {α : Type} (held : Fin n → α) (lanes : List (Fin n)) (b : Bank n α) (i : Fin n) :
    ((lanes.map fun k => (k, held k)).foldl (fun b x => b.set x.1 x.2) b).get i
      = if i ∈ lanes then held i else b.get i := by
  induction lanes generalizing b with
  | nil => rfl
  | cons k rest ih =>
    rw [List.map_cons, List.foldl_cons, ih]
    by_cases later : i ∈ rest
    · simp [later]
    · rw [if_neg later, Bank.get_set]
      by_cases e : k = i
      · simp [e]
      · simp [e, later, Ne.symm e]

section
variable (p : ParameterSet) (k : SlotId) (held : LaneId → LaneSettings) (lanes : List LaneId) (skew : Nat) (r : CageRecord)

theorem CageRecord.fits_iff : r.fits p = true ↔ r.valid = true ∧ r.layout = p.layout ∧ r.laneMap = p.laneMap := by
  simp [CageRecord.fits, and_assoc]

/-- A record that carries the set's layout and lane map: another's seeded marks are gone (R69). -/
theorem CageRecord.carrying_eq :
    (if r.fits p then r
      else { r with layout := p.layout, laneMap := p.laneMap, seeded := Bank.fill 4 false, valid := true })
    = { r with
      valid := true, layout := p.layout, laneMap := p.laneMap, seeded := if r.fits p then r.seeded else Bank.fill 4 false } := by
  by_cases fits : r.fits p = true
  · obtain ⟨valid, layout, map⟩ := (r.fits_iff p).mp fits
    rw [if_pos fits, if_pos fits, ← layout, ← map, ← valid]
  · rw [if_neg fits, if_neg fits]

theorem CageRecord.refreshed_eq : r.refreshed p k (lanes.map fun n => (n, held n)) skew = { r with
    valid := true
    layout := p.layout
    laneMap := p.laneMap
    seeds := (lanes.map fun n => (n, held n)).foldl (fun b x => b.set x.1 x.2) r.seeds
    skews := r.skews.set k skew
    seeded := (if r.fits p then r.seeded else Bank.fill 4 false).set k true } := by
  unfold CageRecord.refreshed
  rw [CageRecord.carrying_eq]

end

end

end Sys2Proof.Machine
end

section
/-! PROOFS. An admission (R69, R105, R119, R126, R147, R154). -/

set_option Elab.async false

namespace Sys2Proof.Machine

section
variable {j : LinkId} {s t u v : State}

/-! ### The link enters UP (R95, R105) -/

/-- The engine's side of an admission, with its events (R105, R111). -/
def State.enterUp (j : LinkId) (grade : Grade) (announced : Bool) (s : State) : State :=
  let t := s.updEngine j fun e =>
    { e with recovery := .up, cleanRun := 0, grade := grade, degraded := decide (grade = .degraded), probeTimer := none }
  let u := if announced then t.raise .linkUp j.val else t
  if announced && decide (grade = .degraded) then u.raise .degraded j.val else u

/-- The hold unit's side of an admission, before the meter starts (R119, R126). -/
def State.openReplay (j : LinkId) (s : State) : State :=
  let t := s.updHold j fun h => { h with holdTimer := none, service := .replay }
  if decide ((s.link j).hold.service = .hold) then t.forEach (State.releaseIfLow j) allClasses else t

/-- An admission whose meter has not judged yet. -/
def State.admitTo (j : LinkId) (grade : Grade) (announced : Bool) (s : State) : State :=
  (((s.enterUp j grade announced).refresh j).openReplay j).startMeter j (decide (grade = .degraded))

theorem State.admitLink_eq (grade : Grade) (announced : Bool) :
    s.admitLink j grade announced = (s.admitTo j grade announced).judge j := rfl

theorem State.raisedIf_eq (b : Bool) (k : EventKind) (n : Nat) (s : State) :
    (if b then s.raise k n else s) = { s with raised := s.raised ++ if b then [.event ⟨k, n, 0⟩] else [] } := by
  cases b with
  | false => simp
  | true => rfl

theorem State.enterUp_eq (grade : Grade) (announced : Bool) : s.enterUp j grade announced = { s with
    links := s.links.set j { s.link j with engine := { (s.link j).engine with
      recovery := .up, cleanRun := 0, grade := grade, degraded := decide (grade = .degraded), probeTimer := none } }
    raised := s.raised ++ (if announced then [.event ⟨.linkUp, j.val, 0⟩] else [])
      ++ (if announced ∧ grade = .degraded then [.event ⟨.degraded, j.val, 0⟩] else []) } := by
  have both : (if announced ∧ grade = .degraded then [Signal.event ⟨.degraded, j.val, 0⟩] else [])
      = if announced && decide (grade = .degraded) then [.event ⟨.degraded, j.val, 0⟩] else [] :=
    if_congr (by simp) rfl rfl
  unfold State.enterUp
  rw [both]
  simp only [State.raisedIf_eq]
  rfl

theorem touches_enterUp (grade : Grade) (announced : Bool) :
    Touches (Only j) [.engine, .attempt, .raised] s (s.enterUp j grade announced) := by
  have told (b : Bool) (k : EventKind) (t : State) : Touches (Only j) [.raised] t (if b then t.raise k j.val else t) :=
    .ite (fun _ => touches_raise ..) fun _ => .refl ..
  exact ((touches_updEngine (only_self j) _ s).trans (told _ _ _) (rs := [.engine, .attempt, .raised])).trans (told _ _ _)

theorem State.enterUp_link (grade : Grade) (announced : Bool) :
    (s.enterUp j grade announced).link j = { s.link j with engine := { (s.link j).engine with
      recovery := .up, cleanRun := 0, grade := grade, degraded := decide (grade = .degraded), probeTimer := none } } := by
  rw [State.enterUp_eq]
  exact Bank.get_set_self ..

/-! ### The hold opens into REPLAY (R119, R126) -/

theorem touches_openReplay : Touches (Only j) [.hold, .serving, .fabricSide] s (s.openReplay j) :=
  (touches_updHold (only_self j) _ s).trans (.ite
    (fun _ => .forEach (ps := [.hold, .fabricSide]) fun k _ u => touches_releaseIfLow (only_self j) k u) fun _ => .refl ..)

theorem touches_releasesIfLow (l : List ClassId) :
    Touches (Only j) [.hold, .fabricSide] s (s.forEach (State.releaseIfLow j) l) :=
  .forEach fun k _ u => touches_releaseIfLow (only_self j) k u

theorem HoldState.eq_of_serving {g h : HoldState} (service : g.service = h.service) (timer : g.holdTimer = h.holdTimer)
    (loss : g.lastLoss = h.lastLoss) : g = { h with paused := g.paused } := by
  obtain ⟨_, _, _, _⟩ := g
  subst service timer loss
  rfl

/-- The classes of a link at or below the resume level released. -/
theorem State.releasesIfLow_link : (s.forEach (State.releaseIfLow j) allClasses).link j = { s.link j with
      hold := { (s.link j).hold with paused := ((s.forEach (State.releaseIfLow j) allClasses).link j).hold.paused }
      fabricSide := ((s.forEach (State.releaseIfLow j) allClasses).link j).fabricSide }
    ∧ (∀ k, ((s.forEach (State.releaseIfLow j) allClasses).link j).hold.paused.get k
        = if s.occupancy j k ≤ s.settings.resumeLevel then none else (s.link j).hold.paused.get k)
    ∧ (s.link j).Released s.settings ((s.forEach (State.releaseIfLow j) allClasses).link j) := by
  refine ⟨?_, fun k => ?_, .forEach (fun k _ t => State.releaseIfLow_released k)
    fun k t => (touches_releaseIfLow (only_self j) k t).settings⟩
  · have touched := touches_releasesIfLow (j := j) (s := s) allClasses
    have link := touched.link_eq j
    obtain ⟨service, timer, loss⟩ := touched.same .serving (by decide) j
    generalize s.forEach (State.releaseIfLow j) allClasses = t at link service timer loss
    rw [← HoldState.eq_of_serving service timer loss]
    exact link
  · have all := State.forEach_paused (j := j) (s := s) (f := State.releaseIfLow j)
      (stays := fun t => (t.link j).park.fifos = (s.link j).park.fifos ∧ t.settings = s.settings)
      (due := fun k => s.occupancy j k ≤ s.settings.resumeLevel)
      (fun k t ⟨fifos, settings⟩ => by
        have touched := touches_releaseIfLow (only_self j) k t
        exact ⟨(touched.fifos j).trans fifos, touched.settings.trans settings⟩)
      (fun k t ⟨fifos, settings⟩ => by
        rw [State.releaseIfLow_paused, State.occupancy_of_fifos fifos, settings]) allClasses ⟨rfl, rfl⟩ k
    rw [all]
    exact if_congr (and_iff_right (mem_allClasses k)) rfl rfl

/-- A link opened into REPLAY. -/
theorem State.openReplay_link : (s.openReplay j).link j = { s.link j with
      hold := { (s.link j).hold with
        service := .replay, holdTimer := none, paused := ((s.openReplay j).link j).hold.paused }
      fabricSide := ((s.openReplay j).link j).fabricSide }
    ∧ (∀ k, ((s.openReplay j).link j).hold.paused.get k
        = if (s.link j).hold.service = .hold ∧ s.occupancy j k ≤ s.settings.resumeLevel then none
          else (s.link j).hold.paused.get k)
    ∧ (s.link j).Released s.settings ((s.openReplay j).link j) := by
  have opened : (s.updHold j fun h => { h with holdTimer := none, service := .replay }).link j
      = { s.link j with hold := { (s.link j).hold with service := .replay, holdTimer := none } } :=
    State.link_updHold_self ..
  have settings : (s.updHold j fun h => { h with holdTimer := none, service := .replay }).settings = s.settings := rfl
  unfold State.openReplay
  simp only
  generalize (s.updHold j fun h => { h with holdTimer := none, service := .replay }) = t at opened settings
  have same : (s.link j).Released s.settings (t.link j) := .of_same (by rw [opened]) (by rw [opened])
  by_cases holds : (s.link j).hold.service = .hold
  · rw [if_pos (decide_eq_true holds)]
    obtain ⟨link, paused, released⟩ := State.releasesIfLow_link (j := j) (s := t)
    rw [settings] at released
    refine ⟨?_, fun k => ?_, same.trans released⟩
    · rw [link, opened]
    · rw [paused, State.occupancy_of_fifos (t := s) (by rw [opened]), settings, opened]
      exact if_congr (and_iff_right holds).symm rfl rfl
  · rw [if_neg (by simpa using holds)]
    refine ⟨?_, fun k => ?_, same⟩
    · rw [opened]
    · rw [opened, if_neg fun h => holds h.1]

/-! ### The meter starts (R147) -/

/-- What a meter starts as. -/
def State.startedMeter (s : State) (j : LinkId) (degraded : Bool) : Meter :=
  { mode := if !degraded && firstRateOf (s.lineRate j) (s.linkSet j).initialRate degraded = s.lineRate j then .unmetered
      else .metered
    burst := (s.linkSet j).burstSize
    tokens := (s.linkSet j).burstSize
    rate := firstRateOf (s.lineRate j) (s.linkSet j).initialRate degraded
    rateCeiling := rateCeilingOf (s.lineRate j) degraded
    degraded := degraded
    rampTimer := if firstRateOf (s.lineRate j) (s.linkSet j).initialRate degraded < rateCeilingOf (s.lineRate j) degraded
      then some (s.inMs (s.linkSet j).rampStep) else none
    lastTick := s.microseconds }

theorem State.startMeter_link (degraded : Bool) :
    (s.startMeter j degraded).link j = { s.link j with meter := s.startedMeter j degraded } := by
  unfold State.startMeter
  simp only
  rw [State.updMeter, State.link_updLink_self] <;> rfl

/-- A started meter, in the words of R147. -/
theorem State.startedMeter_eq (grade : Grade) : s.startedMeter j (decide (grade = .degraded)) =
    (let line := (s.linkLayout j).lanesPerLink * 6250
     let first := if grade = .degraded then max 1 (min (s.linkSet j).initialRate line / 2)
       else min (s.linkSet j).initialRate line
     let top := if grade = .degraded then line / 2 else line
     { mode := if grade ≠ .degraded ∧ first = line then .unmetered else .metered
       burst := (s.linkSet j).burstSize
       tokens := (s.linkSet j).burstSize
       rate := first
       rateCeiling := top
       degraded := decide (grade = .degraded)
       rampTimer := if first < top then some (s.now + (s.linkSet j).rampStep * 3125000) else none
       lastTick := s.now / 3125 }) := by
  unfold State.startedMeter firstRateOf rateCeilingOf
  by_cases slow : grade = .degraded
  · simp only [slow, decide_true, if_true, Bool.not_true, Bool.false_and, Bool.false_eq_true, if_false, ne_eq,
      not_true_eq_false, false_and]
    rfl
  · simp only [slow, decide_false, if_false, Bool.not_false, Bool.true_and, Bool.false_eq_true, decide_eq_true_eq, ne_eq,
      not_false_eq_true, true_and]
    rfl

/-! ### The link before its meter judges -/

/-- An admission depends on its link's cage and set, the time and the settings alone. -/
theorem State.startedMeter_same {degraded : Bool} (now : t.now = s.now) (cages : t.cages = s.cages) :
    t.startedMeter j degraded = s.startedMeter j degraded := by
  have set : t.linkSet j = s.linkSet j := by
    rw [State.linkSet, State.linkSet, State.workingSet, State.workingSet, State.cage, State.cage, cages]
  have rate : t.lineRate j = s.lineRate j := by
    rw [State.lineRate, State.lineRate, State.linkLayout, State.linkLayout, State.cage, State.cage, cages]
  simp only [State.startedMeter, set, rate, State.inMs, State.microseconds, now]

end

end Sys2Proof.Machine
end

section
/-! PROOFS. What an admission leaves (R69, R105, R119, R126, R147, R154). -/

set_option Elab.async false

namespace Sys2Proof.Machine

section
variable {j : LinkId} {s : State} {grade : Grade} {announced : Bool}

/-! ### Before the judgement -/

/-- An admission up to its judgement, part by part. -/
structure AdmissionMade (grade : Grade) (announced : Bool) (j : LinkId) (s v : State) : Prop where
  link : v.link j = { s.link j with
    engine := { (s.link j).engine with
      recovery := .up, cleanRun := 0, grade := grade, degraded := decide (grade = .degraded), probeTimer := none
      equaliser := s.heldSettings j }
    hold := { (s.link j).hold with service := .replay, holdTimer := none, paused := (v.link j).hold.paused }
    meter := s.startedMeter j (decide (grade = .degraded))
    fabricSide := (v.link j).fabricSide }
  paused : ∀ k, (v.link j).hold.paused.get k =
    if (s.link j).hold.service = .hold ∧ s.occupancy j k ≤ s.settings.resumeLevel then none
    else (s.link j).hold.paused.get k
  released : (s.link j).Released s.settings (v.link j)
  memory : v.memory = match s.ownRecord (cageOf j) with
    | none => s.memory
    | some r => s.memory.setPosition (cageOf j) (some (r.refreshed (s.linkSet j) (slotOf j) (s.heldSettings j)
        ((s.link j).engine.measuredSkew.getD 0)))
  raised : v.raised = s.raised ++ (if announced then [.event ⟨.linkUp, j.val, 0⟩] else [])
    ++ (if announced ∧ grade = .degraded then [.event ⟨.degraded, j.val, 0⟩] else [])
  others : ∀ i, i ≠ j → v.link i = s.link i
  touched : v = { s with links := v.links, memory := v.memory, freeCount := s.freeCount + 1, raised := v.raised }

theorem State.refresh_memory (j : LinkId) (s : State) : (s.refresh j).memory = match s.ownRecord (cageOf j) with
    | none => s.memory
    | some r => s.memory.setPosition (cageOf j) (some (r.refreshed (s.linkSet j) (slotOf j) (s.heldSettings j)
        ((s.link j).engine.measuredSkew.getD 0))) := by
  cases own : s.ownRecord (cageOf j) with
  | none => exact State.refresh_memory_none own
  | some r => exact State.refresh_memory_some own

theorem admissionMade_admitTo (grade : Grade) (announced : Bool) (j : LinkId) (s : State) :
    AdmissionMade grade announced j s (s.admitTo j grade announced) := by
  unfold State.admitTo
  have upLink := State.enterUp_link (j := j) (s := s) grade announced
  have upTouched := touches_enterUp (j := j) (s := s) grade announced
  have upRaised : (s.enterUp j grade announced).raised = s.raised
      ++ (if announced then [.event ⟨.linkUp, j.val, 0⟩] else [])
      ++ (if announced ∧ grade = .degraded then [.event ⟨.degraded, j.val, 0⟩] else []) := by rw [State.enterUp_eq]
  have upRest : s.enterUp j grade announced = { s with
      links := (s.enterUp j grade announced).links, raised := (s.enterUp j grade announced).raised } := by
    rw [State.enterUp_eq]
  generalize s.enterUp j grade announced = a at upLink upTouched upRaised upRest
  have set : a.linkSet j = s.linkSet j := by rw [upRest] <;> rfl
  have held : a.heldSettings j = s.heldSettings j := by rw [upRest] <;> rfl
  have own : a.ownRecord (cageOf j) = s.ownRecord (cageOf j) := by rw [upRest] <;> rfl
  have newLink := State.refresh_link (j := j) (s := a)
  have newMemory := State.refresh_memory j a
  have newTouched := touches_refresh (only_self j) a
  have newFree := State.refresh_freeCount (j := j) (s := a)
  rw [held, upLink] at newLink
  rw [own, upTouched.memory, set, held, upLink] at newMemory
  generalize a.refresh j = b at newLink newMemory newTouched newFree
  obtain ⟨openLink, openPaused, openReleased⟩ := State.openReplay_link (j := j) (s := b)
  have openTouched := touches_openReplay (j := j) (s := b)
  have occupancy k : b.occupancy j k = s.occupancy j k := State.occupancy_of_fifos (by rw [newLink]) k
  have settings : b.settings = s.settings := newTouched.settings.trans upTouched.settings
  simp only [occupancy, settings, newLink] at openPaused openReleased
  rw [newLink] at openLink
  generalize b.openReplay j = c at openLink openPaused openReleased openTouched
  have startTouched := touches_startMeter (only_self j) (decide (grade = .degraded)) c
  have startLink := State.startMeter_link (j := j) (s := c) (decide (grade = .degraded))
  have meter : c.startedMeter j (decide (grade = .degraded)) = s.startedMeter j (decide (grade = .degraded)) :=
    State.startedMeter_same ((openTouched.now.trans newTouched.now).trans upTouched.now)
      ((openTouched.cages.trans newTouched.cages).trans upTouched.cages)
  rw [meter] at startLink
  generalize c.startMeter j (decide (grade = .degraded)) = v at startTouched startLink
  have touched := ((upTouched.trans newTouched (rs := [.engine, .attempt, .raised, .freeCount, .memory])).trans openTouched
    (rs := [.engine, .attempt, .raised, .freeCount, .memory, .hold, .serving, .fabricSide])).trans startTouched
    (rs := [.engine, .attempt, .raised, .freeCount, .memory, .hold, .serving, .fabricSide, .meter])
  have free : v.freeCount = s.freeCount + 1 := by
    rw [startTouched.freeCount, openTouched.freeCount, newFree, upTouched.freeCount]
  refine ⟨?_, fun k => ?_, ?_, ?_, ?_, touched.elsewhere, ?_⟩
  · rw [startLink, openLink]
  · rw [startLink]
    exact openPaused k
  · have last : (c.link j).Released s.settings (v.link j) := .of_same (by rw [startLink]) (by rw [startLink])
    refine .trans (.trans (.of_same ?_ ?_) openReleased) last
    · rfl
    · rfl
  · rw [startTouched.memory, openTouched.memory, newMemory]
  · rw [startTouched.raised, openTouched.raised, newTouched.raised, upRaised]
  · rw [← free]
    exact touched.eq

theorem AdmissionMade.admittedTo {v : State} (h : AdmissionMade grade announced j s v) : AdmittedTo grade j s v := by
  have link := h.link
  refine ⟨by rw [link], by rw [link], h.paused, h.released.told, h.released.silent, ?_, by rw [link], h.others, h.touched⟩
  intro line slow first top
  rw [link]
  exact State.startedMeter_eq grade

end

end Sys2Proof.Machine
end

section
/-! PROOFS. A link admitted (R69, R105, R119, R147, R154). -/

set_option Elab.async false

namespace Sys2Proof.Machine

section
variable {j : LinkId} {s : State} {grade : Grade} {announced : Bool}

/-! ### The meter it starts with -/

theorem State.startedMeter_passes (full : grade ≠ .degraded)
    (fast : (s.linkLayout j).lanesPerLink * 6250 ≤ (s.linkSet j).initialRate) :
    (s.startedMeter j (decide (grade = .degraded))).mode = .unmetered := by
  rw [State.startedMeter_eq]
  simp only [if_neg full]
  exact if_pos ⟨full, Nat.min_eq_right fast⟩

theorem State.startedMeter_paced
    (slow : grade = .degraded ∨ (s.linkSet j).initialRate < (s.linkLayout j).lanesPerLink * 6250) :
    (s.startedMeter j (decide (grade = .degraded))).mode = .metered
      ∧ (s.startedMeter j (decide (grade = .degraded))).rateCeiling
        = (if grade = .degraded then (s.linkLayout j).lanesPerLink * 3125 else (s.linkLayout j).lanesPerLink * 6250)
      ∧ (s.startedMeter j (decide (grade = .degraded))).rate
        = (if grade = .degraded then max 1 (min (s.linkSet j).initialRate ((s.linkLayout j).lanesPerLink * 6250) / 2)
          else (s.linkSet j).initialRate) := by
  rw [State.startedMeter_eq]
  by_cases degraded : grade = .degraded
  · simp only [if_pos degraded]
    exact ⟨if_neg fun h => h.1 degraded, by omega, trivial⟩
  · have below := slow.resolve_left degraded
    simp only [if_neg degraded]
    exact ⟨if_neg fun h => by omega, trivial, by omega⟩

/-! ### The record it leaves (R69) -/

/-- The settings the lanes hold as they are read (log 5). -/
def State.heldAt (s : State) (n : LaneId) : LaneSettings := Bank.tabulate (Config.trackedSetting s.freeCount n)

theorem State.heldSettings_eq : s.heldSettings j = (s.moduleLanes j).map fun n => (n, s.heldAt n) := rfl

/-- The record that an admission leaves. -/
def State.refreshedRecord (s : State) (j : LinkId) (r : CageRecord) : CageRecord :=
  r.refreshed (s.linkSet j) (slotOf j) (s.heldSettings j) ((s.link j).engine.measuredSkew.getD 0)

theorem State.refreshedRecord_eq (r : CageRecord) : s.refreshedRecord j r = { r with
    valid := true
    layout := (s.linkSet j).layout
    laneMap := (s.linkSet j).laneMap
    seeds := (s.refreshedRecord j r).seeds
    skews := r.skews.set (slotOf j) ((s.link j).engine.measuredSkew.getD 0)
    seeded := (if r.fits (s.linkSet j) then r.seeded else Bank.fill 4 false).set (slotOf j) true } := by
  rw [State.refreshedRecord, State.heldSettings_eq, CageRecord.refreshed_eq]

theorem State.refreshedRecord_seeds (r : CageRecord) (n : LaneId) : (s.refreshedRecord j r).seeds.get n
    = if n ∈ s.moduleLanes j then s.heldAt n else r.seeds.get n := by
  rw [State.refreshedRecord, State.heldSettings_eq, CageRecord.refreshed_eq]
  exact Bank.foldl_set ..

theorem State.refreshedRecord_equaliser (r : CageRecord) :
    s.heldSettings j = (s.moduleLanes j).map fun n => (n, (s.refreshedRecord j r).seeds.get n) :=
  s.heldSettings_eq.trans (List.map_congr_left fun n hn => by rw [State.refreshedRecord_seeds, if_pos hn])

theorem State.refreshedRecord_seeded (r : CageRecord) (k : SlotId) : (s.refreshedRecord j r).seeded.get k
    = (decide (k = slotOf j) || (decide (r.valid = true ∧ r.layout = (s.linkSet j).layout
        ∧ r.laneMap = (s.linkSet j).laneMap) && r.seeded.get k)) := by
  have fits : (if r.fits (s.linkSet j) then r.seeded else Bank.fill 4 false).get k
      = (decide (r.valid = true ∧ r.layout = (s.linkSet j).layout ∧ r.laneMap = (s.linkSet j).laneMap)
        && r.seeded.get k) := by
    by_cases h : r.fits (s.linkSet j) = true
    · rw [if_pos h, decide_eq_true ((r.fits_iff _).mp h), Bool.true_and]
    · rw [if_neg h, decide_eq_false (mt (r.fits_iff _).mpr h), Bool.false_and, Bank.get_fill]
  rw [State.refreshedRecord_eq, Bank.get_set, fits]
  by_cases e : slotOf j = k
  · simp [e]
  · simp [e, Ne.symm e]

/-! ### The admission -/

section
variable {v : State} (made : AdmissionMade grade announced j s v)
include made

theorem AdmissionMade.service : (v.link j).hold.service = .replay := by rw [made.link]

theorem AdmissionMade.meter : (v.link j).meter = s.startedMeter j (decide (grade = .degraded)) := by rw [made.link]

/-- An admission that nothing paces and that has nothing parked ends in PASS (R154). -/
theorem AdmissionMade.passes (full : grade ≠ .degraded)
    (fast : (s.linkLayout j).lanesPerLink * 6250 ≤ (s.linkSet j).initialRate) (empty : (s.link j).park.isEmpty = true) :
    ((v.judge j).link j).hold.service = .pass ∧ ((v.judge j).link j).meter.mode = .stopped
      ∧ ∀ k, ((v.judge j).link j).hold.paused.get k = none := by
  have mode : (v.link j).meter.mode = .unmetered := by rw [made.meter, State.startedMeter_passes full fast]
  have none : ∀ k, (v.link j).park.fifos.get k = [] := by
    rw [made.link]
    exact (ParkState.isEmpty_iff _).mp empty
  rw [State.judge_empty (by rw [mode]; decide) none, (State.endReplay_link ⟨mode, none⟩).1]
  exact ⟨rfl, rfl, fun k => Bank.get_fill ..⟩

/-- An admission that the meter paces stays in REPLAY (R147). -/
theorem AdmissionMade.paced
    (slow : grade = .degraded ∨ (s.linkSet j).initialRate < (s.linkLayout j).lanesPerLink * 6250) :
    ((v.judge j).link j).hold.service = .replay ∧ ∃ n ≤ (s.linkSet j).burstSize,
      ((v.judge j).link j).meter = { s.startedMeter j (decide (grade = .degraded)) with tokens := n } := by
  have judged := State.judge_metered (s := v) (j := j) (by rw [made.meter, (State.startedMeter_paced slow).1])
  obtain ⟨n, fewer, meter⟩ := judged.meter
  rw [made.meter] at fewer meter
  exact ⟨judged.service.trans made.service, n, fewer, meter⟩

theorem AdmissionMade.admitted : Admitted grade j s (v.judge j) := by
  have touched := touches_judge (only_self j) v
  obtain ⟨timer, loss, _⟩ := State.judge_rest (j := j) (s := v)
  have link := made.link
  refine ⟨⟨v, made.admittedTo, rfl⟩, ?_, ⟨?_, ?_⟩, made.passes, fun slow => ?_, fun none => ⟨?_, s.heldAt, ?_⟩,
    fun r own => ⟨s.refreshedRecord j r, ?_, ?_, fun n away => ?_, fun k => ?_, State.refreshedRecord_seeded r, ?_⟩,
    ?_, ?_, fun i other => ?_, ?_⟩
  · rw [touched.engine j, link]
  · rw [timer, link]
  · rw [loss, link]
  · obtain ⟨service, n, fewer, meter⟩ := made.paced slow
    obtain ⟨mode, ceiling, rate⟩ := State.startedMeter_paced slow
    rw [meter]
    exact ⟨service, mode, rfl, fewer, rfl, ceiling, rate⟩
  · rw [touched.memory, made.memory, none]
  · rw [touched.engine j, link, State.heldSettings_eq]
  · rw [touched.memory, made.memory, own] <;> rfl
  · rw [touched.engine j, link, State.refreshedRecord_equaliser r]
  · rw [State.refreshedRecord_seeds, if_neg away]
  · rw [State.refreshedRecord_eq, Bank.get_set]
    exact if_congr eq_comm rfl rfl
  · rw [State.refreshedRecord_eq]
  · rw [touched.penalty j, link]
  · rw [touched.suppressed j, link]
  · rw [touched.elsewhere i other, made.others i other]
  · have shape := touched.eq
    have first := made.touched
    generalize v.judge j = t at shape
    rw [shape, first] <;> rfl

theorem AdmissionMade.told : s.admissionTold (v.judge j) j grade announced := by
  obtain ⟨_, _, rest, discards, raised⟩ := State.judge_rest (j := j) (s := v)
  exact ⟨rest, discards, by rw [raised, made.raised]⟩

end

/-- An admission does what R105, R119 and R147 say. -/
theorem admitted_admitLink (grade : Grade) (announced : Bool) (j : LinkId) (s : State) :
    Admitted grade j s (s.admitLink j grade announced) := (admissionMade_admitTo grade announced j s).admitted

theorem admissionTold_admitLink (grade : Grade) (announced : Bool) (j : LinkId) (s : State) :
    s.admissionTold (s.admitLink j grade announced) j grade announced :=
  (admissionMade_admitTo grade announced j s).told

end

end Sys2Proof.Machine
end

section
/-! PROOFS. The peer check (R95, R101, R102): O42. -/

set_option Elab.async false

namespace Sys2Proof.Machine

/-! ### The verdict -/

section
variable (mode : PeerMode) (heard stored : Option PeerIdentity)

/-- Whether the peer heard is another than the one recorded. -/
abbrev peerChanged : Prop := heard ≠ none ∧ stored ≠ none ∧ heard ≠ stored

/-- Whether the check holds the link (R102). -/
abbrev peerHolds : Prop := mode = .enforce ∧ (heard = none ∨ peerChanged heard stored)

/-- Whether the check stores the heard peer (R101, R102). -/
abbrev peerStores : Prop :=
  (mode = .learn ∧ heard ≠ none ∧ heard ≠ stored) ∨ (mode = .enforce ∧ heard ≠ none ∧ stored = none)

/-- The event of the check (R101, R102). -/
def peerEvent : Option EventKind :=
  if mode = .off then none
  else if heard = none then some .peerSilent
  else if peerChanged heard stored then some .peerChanged
  else none

theorem peerVerdict_eq : peerVerdict mode heard stored
    = ⟨!decide (peerHolds mode heard stored), if peerStores mode heard stored then heard else none,
      peerEvent mode heard stored⟩ := by
  cases mode with
  | off => simp [peerVerdict, peerEvent]
  | learn =>
    match heard, stored with
    | none, _ => simp [peerVerdict, peerEvent]
    | some h, none => simp [peerVerdict, peerEvent]
    | some h, some p => by_cases e : h = p <;> simp [peerVerdict, peerEvent, e]
  | enforce =>
    match heard, stored with
    | none, _ => simp [peerVerdict, peerEvent]
    | some h, none => simp [peerVerdict, peerEvent]
    | some h, some p => by_cases e : h = p <;> simp [peerVerdict, peerEvent, e]

end

/-! ### The check applied -/

section
variable {j : LinkId} {s : State}

theorem State.tell_eq (k : Option EventKind) (s : State) :
    s.tell j k = { s with raised := s.raised ++ (k.map fun k => Signal.event ⟨k, j.val, 0⟩).toList } := by
  cases k with
  | none => simp [State.tell]
  | some k => rfl

theorem State.storePeer_eq {stores : Prop} [Decidable stores] {heard : Option PeerIdentity} (some : stores → heard ≠ none)
    (s : State) : s.storePeer j (if stores then heard else none)
      = { s with memory := if stores then { s.memory with peers := s.memory.peers.set j heard } else s.memory } := by
  by_cases h : stores
  · obtain ⟨p, rfl⟩ := Option.ne_none_iff_exists'.mp (some h)
    rw [if_pos h, if_pos h] <;> rfl
  · rw [if_neg h, if_neg h] <;> rfl

/-- A link whose qualification is complete has been checked, and is to be in a recovery state. -/
def State.peerChecked (j : LinkId) (recovery : RecoveryState) (s : State) : State :=
  let e := (s.link j).engine
  let mode := (s.linkSet j).peerMode
  let heard := e.heardPeer.map HeardPeer.identity
  let stored := s.memory.peers.get j
  { s with
    links := s.links.set j { s.link j with engine := { e with
      recovery := recovery, probeTimer := none, grade := if e.marginal then .degraded else .full } }
    memory := if peerStores mode heard stored then { s.memory with peers := s.memory.peers.set j heard } else s.memory
    raised := s.raised ++ ((peerEvent mode heard stored).map fun k => Signal.event ⟨k, j.val, 0⟩).toList }

theorem State.peerChecked_link (recovery : RecoveryState) : (s.peerChecked j recovery).link j
    = { s.link j with engine := { (s.link j).engine with
        recovery := recovery, probeTimer := none, grade := if (s.link j).engine.marginal then .degraded else .full } } :=
  Bank.get_set_self ..

theorem State.peerChecked_moved (recovery : RecoveryState) :
    ((s.peerChecked j (s.link j).engine.recovery).updEngine j fun e => { e with recovery := recovery })
      = s.peerChecked j recovery := by
  unfold State.updEngine State.updLink
  rw [show (s.peerChecked j (s.link j).engine.recovery).links.get j = _ from State.peerChecked_link _]
  unfold State.peerChecked
  simp only [Bank.set_set]

/-- The check before it decides (R95, R101, R102). -/
theorem State.peerChecked_eq : s.peerChecked j (s.link j).engine.recovery
    = (((s.updEngine j fun e => { e with probeTimer := none, grade := if e.marginal then .degraded else .full }).storePeer j
      (s.peerCheck j).store).tell j (s.peerCheck j).event) := by
  rw [State.peerCheck, peerVerdict_eq, State.storePeer_eq (fun h => h.elim (·.2.1) (·.2.1)), State.tell_eq] <;> rfl

/-- Completed qualification, by what the check decides (R95, R101, R102). -/
theorem State.completeQualification_holds
    (holds : peerHolds (s.linkSet j).peerMode ((s.link j).engine.heardPeer.map HeardPeer.identity) (s.memory.peers.get j)) :
    s.completeQualification j = s.peerChecked j .peerHold := by
  have stays : (s.peerCheck j).proceeds = false := by
    rw [State.peerCheck, peerVerdict_eq]
    exact congrArg not (decide_eq_true holds)
  rw [State.completeQualification_eq, stays, if_neg (by decide), ← State.peerChecked_eq, State.peerChecked_moved]

theorem State.completeQualification_proceeds
    (goes : ¬ peerHolds (s.linkSet j).peerMode ((s.link j).engine.heardPeer.map HeardPeer.identity) (s.memory.peers.get j)) :
    s.completeQualification j = (s.peerChecked j (s.link j).engine.recovery).proceed j := by
  have proceeds : (s.peerCheck j).proceeds = true := by
    rw [State.peerCheck, peerVerdict_eq]
    exact congrArg not (decide_eq_false goes)
  rw [State.completeQualification_eq, proceeds, if_pos rfl, ← State.peerChecked_eq]

/-- A link that proceeds is DAMPED while it is suppressed (R95). -/
theorem State.proceed_suppressed (suppressed : (s.link j).suppressed = true) :
    s.proceed j = s.updEngine j fun e => { e with recovery := .damped } := if_pos suppressed

theorem State.proceed_clear (clear : (s.link j).suppressed = false) :
    s.proceed j = s.admitLink j (s.link j).engine.grade true := if_neg (by rw [clear]; decide)

end

/-- Settles O42: the check's verdict, then DAMPED or an admission. -/
theorem peerCheckDecides : Obligations.PeerCheckDecides := by
  unfold Obligations.PeerCheckDecides
  intro j s l e mode heard stored changed grade events holds stores checked
  have told : ((peerEvent mode heard stored).map fun k => Signal.event ⟨k, j.val, 0⟩).toList = events := by
    unfold peerEvent
    simp only [events]
    split_ifs <;> rfl
  have is (recovery : RecoveryState) : s.peerChecked j recovery = checked recovery := by
    rw [State.peerChecked]
    simp only
    rw [told] <;> rfl
  refine ⟨fun stays => ?_, fun goes damped => ?_, fun goes clear => ?_⟩
  · rw [State.completeQualification_holds stays, is]
  · rw [State.completeQualification_proceeds goes, State.proceed_suppressed (by rw [State.peerChecked_link]; exact damped),
      State.peerChecked_moved, is]
  · have graded : ((checked e.recovery).link j).engine.grade = grade := by
      rw [← is, State.peerChecked_link]
    rw [State.completeQualification_proceeds goes, State.proceed_clear (by rw [State.peerChecked_link]; exact clear), is,
      graded]
    exact ⟨admitted_admitLink .., admissionTold_admitLink ..⟩

end Sys2Proof.Machine
end

section
/-! PROOFS. The requests on an admission (R87, R104, R110, R111): O44. -/

set_option Elab.async false

namespace Sys2Proof.Machine

section
variable {q : Requester} {link : Byte} {j : LinkId} {s : State} (idle : s.engineIdle)
include idle

/-! ### A link above 63 -/

theorem exec_forceAdmit_high (high : 63 < link.toNat) :
    exec (.forceAdmit q link) s = .next (s.answered q 0x41 .badArgument [] []) :=
  serve_refused .badArgument [] [] rfl idle fun _ => State.onLink_high high ..

theorem exec_acceptPeer_high (high : 63 < link.toNat) :
    exec (.acceptPeer q link) s = .next (s.answered q 0x42 .badArgument [] []) :=
  serve_refused .badArgument [] [] rfl idle fun _ => State.onLink_high high ..

theorem exec_linkRetry_high (high : 63 < link.toNat) :
    exec (.linkRetry q link) s = .next (s.answered q 0x43 .badArgument [] []) :=
  serve_refused .badArgument [] [] rfl idle fun _ => State.onLink_high high ..

theorem exec_clearPenalty_high (high : 63 < link.toNat) :
    exec (.clearPenalty q link) s = .next (s.answered q 0x44 .badArgument [] []) :=
  serve_refused .badArgument [] [] rfl idle fun _ => State.onLink_high high ..

variable (named : j.val = link.toNat)
include named

/-! ### FORCE-ADMIT (R111) -/

theorem exec_forceAdmit_tried (tried : (s.link j).engine.recovery = .qualifying ∨ (s.link j).engine.recovery = .peerHold
    ∨ (s.link j).engine.recovery = .damped) :
    exec (.forceAdmit q link) s = .next ((s.admitLink j .full false).answered q 0x41 .done [] []) := by
  refine serve_answered (fun t => t.admitLink j .full false) .done [] [] rfl idle
    (fun m t => t.admitLink_withEngine m j .full false) fun m => (State.onLink_named named ..).trans ?_
  unfold State.forceAdmit
  rw [State.withEngine_link]
  rcases tried with h | h | h <;> rw [h]

theorem exec_forceAdmit_other (other : ¬ ((s.link j).engine.recovery = .qualifying
    ∨ (s.link j).engine.recovery = .peerHold ∨ (s.link j).engine.recovery = .damped)) :
    exec (.forceAdmit q link) s = .next (s.answered q 0x41 .wrongState [] []) := by
  refine serve_refused .wrongState [] [] rfl idle fun m => (State.onLink_named named ..).trans ?_
  unfold State.forceAdmit
  rw [State.withEngine_link]
  cases h : (s.link j).engine.recovery
  case qualifying => exact absurd (.inl h) other
  case peerHold => exact absurd (.inr (.inl h)) other
  case damped => exact absurd (.inr (.inr h)) other
  all_goals rfl

/-! ### ACCEPT-PEER (R104) -/

theorem exec_acceptPeer_held {heard : Option PeerIdentity}
    (peer : (s.link j).engine.heardPeer.map HeardPeer.identity = heard) (held : (s.link j).engine.recovery = .peerHold) :
    exec (.acceptPeer q link) s
      = .next (((s.setPeer j heard).proceed j).answered q 0x42 .done [] (peerBytes heard)) := by
  refine serve_answered (fun t => (t.setPeer j heard).proceed j) .done [] (peerBytes heard) rfl idle (fun m t => ?_)
    fun m => (State.onLink_named named ..).trans ?_
  · rw [State.setPeer_withEngine, State.proceed_withEngine]
  · unfold State.acceptPeer
    simp only [State.withEngine_link, held, peer, if_true]

theorem exec_acceptPeer_other (other : (s.link j).engine.recovery ≠ .peerHold) :
    exec (.acceptPeer q link) s = .next (s.answered q 0x42 .wrongState [] []) :=
  serve_refused .wrongState [] [] rfl idle fun _ => (State.onLink_named named ..).trans (if_neg other)

/-! ### LINK-RETRY (R87) -/

theorem exec_linkRetry_failed (failed : (s.link j).engine.recovery = .failed) :
    exec (.linkRetry q link) s = .next ((s.enterAdapting j none 0).answered q 0x43 .done [] []) :=
  serve_answered (State.enterAdapting j none 0) .done [] [] rfl idle (fun m t => t.enterAdapting_withEngine m j none 0)
    fun _ => (State.onLink_named named ..).trans (if_pos failed)

theorem exec_linkRetry_other (other : (s.link j).engine.recovery ≠ .failed) :
    exec (.linkRetry q link) s = .next (s.answered q 0x43 .wrongState [] []) :=
  serve_refused .wrongState [] [] rfl idle fun _ => (State.onLink_named named ..).trans (if_neg other)

/-! ### CLEAR-PENALTY (R110) -/

theorem exec_clearPenalty_damped {grade : Grade} (graded : (s.link j).engine.grade = grade)
    (damped : (s.link j).engine.recovery = .damped) :
    exec (.clearPenalty q link) s = .next (((s.updLink j fun l => { l with penalty := 0, suppressed := false }).admitLink j
      grade true).answered q 0x44 .done [] []) := by
  refine serve_answered (fun t => (t.updLink j fun l => { l with penalty := 0, suppressed := false }).admitLink j
    grade true) .done [] [] rfl idle (fun m t => ?_) fun m => (State.onLink_named named ..).trans ?_
  · rw [State.updLink_withEngine, State.admitLink_withEngine]
  · unfold State.clearPenalty
    simp only [State.withEngine_link, damped, graded, if_true]

theorem exec_clearPenalty_other (other : (s.link j).engine.recovery ≠ .damped) :
    exec (.clearPenalty q link) s
      = .next ((s.updLink j fun l => { l with penalty := 0, suppressed := false }).answered q 0x44 .done [] []) := by
  refine serve_answered (State.updLink j fun l => { l with penalty := 0, suppressed := false }) .done [] [] rfl idle
    (fun _ _ => rfl) fun m => (State.onLink_named named ..).trans ?_
  unfold State.clearPenalty
  simp only [State.withEngine_link, if_neg other]

end

/-- Settles O44, request by request. -/
theorem admissionRequests : Obligations.AdmissionRequests := by
  unfold Obligations.AdmissionRequests
  intro q link s idle
  refine ⟨fun high => ⟨exec_forceAdmit_high idle high, exec_acceptPeer_high idle high, exec_linkRetry_high idle high,
    exec_clearPenalty_high idle high⟩, fun j named => ?_⟩
  intro l e heard accepted cleared tried
  refine ⟨fun h => ⟨_, exec_forceAdmit_tried idle named h, admitted_admitLink .., admissionTold_admitLink ..⟩,
    exec_forceAdmit_other idle named, fun held suppressed => ?_, fun held clear => ?_, exec_acceptPeer_other idle named,
    fun failed => ⟨_, exec_linkRetry_failed idle named failed, State.enterAdapting_engine none 0, ?_, ?_,
      State.enterAdapting_rest none 0⟩, exec_linkRetry_other idle named, exec_clearPenalty_other idle named,
    fun damped => ⟨_, exec_clearPenalty_damped idle named rfl damped, admitted_admitLink .., admissionTold_admitLink ..⟩⟩
  · have proceeds : (s.setPeer j heard).proceed j
        = { accepted with links := s.links.set j { l with engine := { e with recovery := .damped } } } :=
      State.proceed_suppressed suppressed
    rw [exec_acceptPeer_held idle named rfl held]
    exact congrArg (fun t : State => (.next (t.answered q 0x42 .done [] (peerBytes heard)) : Result)) proceeds
  · have proceeds : (s.setPeer j heard).proceed j = accepted.admitLink j e.grade true := State.proceed_clear clear
    refine ⟨_, exec_acceptPeer_held idle named rfl held, ?_⟩
    rw [proceeds]
    exact ⟨admitted_admitLink .., admissionTold_admitLink ..⟩
  · exact (touches_enterAdapting (only_self j) none 0 s).eq
  · exact fun i other => (touches_enterAdapting (only_self j) none 0 s).elsewhere i other

end Sys2Proof.Machine
end

section
/-! PROOFS. The damping tick (R107, R108): O43. -/

set_option Elab.async false

namespace Sys2Proof.Machine

section
variable {j : LinkId} {s t u : State}

/-! ### The records that admissions leave (R69, R70) -/

theorem State.ownRecord_congr (memory : t.memory = s.memory) (cages : t.cages = s.cages) (c : CageId) :
    t.ownRecord c = s.ownRecord c := by
  unfold State.ownRecord State.cage
  rw [memory, cages]

theorem State.refreshedRecord_isOf (r : CageRecord) (m : Cage) : (s.refreshedRecord j r).isOf m = r.isOf m := by
  rw [State.refreshedRecord_eq] <;> rfl

theorem State.refreshedRecord_skews (r : CageRecord) (k : SlotId) : (s.refreshedRecord j r).skews.get k
    = if k = slotOf j then (s.link j).engine.measuredSkew.getD 0 else r.skews.get k := by
  rw [State.refreshedRecord_eq, Bank.get_set]
  exact if_congr eq_comm rfl rfl

theorem State.refreshedRecord_fits (r : CageRecord) : (s.refreshedRecord j r).fits (s.linkSet j) = true := by
  rw [CageRecord.fits_iff, State.refreshedRecord_eq]
  exact ⟨rfl, rfl, rfl⟩

/-- An admission refreshes the record of its own cage's module alone. -/
theorem State.ownRecord_admitLink (grade : Grade) (announced : Bool) (c : CageId) :
    (s.admitLink j grade announced).ownRecord c
      = if c = cageOf j then (s.ownRecord c).map (s.refreshedRecord j) else s.ownRecord c := by
  have made := admissionMade_admitTo grade announced j s
  have judged := touches_judge (only_self j) (s.admitTo j grade announced)
  rw [State.admitLink_eq, State.ownRecord_congr judged.memory judged.cages]
  have cages : (s.admitTo j grade announced).cages = s.cages := by rw [made.touched]
  have memory := made.memory
  generalize s.admitTo j grade announced = v at cages memory
  cases own : s.ownRecord (cageOf j) with
  | none =>
    rw [own] at memory
    rw [State.ownRecord_congr memory cages]
    split
    · next e => rw [e, own] <;> rfl
    · rfl
  | some r =>
    have named := (Option.filter_eq_some_iff.mp own).2
    rw [own] at memory
    split
    · next e =>
      subst e
      rw [own, State.ownRecord, memory, State.cage, cages]
      refine (congrArg (Option.filter _) (Bank.get_set_self ..)).trans ?_
      exact Option.filter_eq_some_iff.mpr ⟨rfl, (State.refreshedRecord_isOf r _).trans named⟩
    · next e =>
      rw [State.ownRecord, State.ownRecord, memory, State.cage, cages]
      exact congrArg (Option.filter _) (Bank.get_set_ne _ _ _ _ (Ne.symm e))

/-- A link is named by its cage and its slot. -/
theorem link_eq_of_place {i j : LinkId} (cage : cageOf i = cageOf j) (slot : slotOf i = slotOf j) : i = j := by
  have first : i.val / 4 = j.val / 4 := congrArg Fin.val cage
  have second : i.val % 4 = j.val % 4 := congrArg Fin.val slot
  exact Fin.ext (by omega)

/-! ### A link passed by others' turns -/

/-- What a tick touches of its links and of the device. -/
abbrev reuseParts : List Part := .suppressed :: admitParts

/-- From `s` to `t` link `j` has been passed by: the link is the same, no REUSED of its own is raised, and its cage's record
keeps its skew, and its mark where the record is the working copy's. -/
structure ReusePassed (j : LinkId) (s t : State) : Prop where
  touched : Touches (· ≠ j) reuseParts s t
  raised : ∃ rest, t.raised = s.raised ++ rest ∧ .event ⟨.reused, j.val, 0⟩ ∉ rest
  record : ∀ r, s.ownRecord (cageOf j) = some r → ∃ r', t.ownRecord (cageOf j) = some r'
    ∧ r'.skews.get (slotOf j) = r.skews.get (slotOf j) ∧ (r.fits (s.linkSet j) = true →
      r'.fits (s.linkSet j) = true ∧ (r.seeded.get (slotOf j) = true → r'.seeded.get (slotOf j) = true))
  absent : s.ownRecord (cageOf j) = none → t.ownRecord (cageOf j) = none

theorem ReusePassed.set (h : ReusePassed j s t) : t.linkSet j = s.linkSet j :=
  (SameCourse.of_cages (j := j) h.touched.now h.touched.cages).set

theorem ReusePassed.of_same (touched : Touches (· ≠ j) reuseParts s t) (rest : List Signal)
    (raised : t.raised = s.raised ++ rest) (silent : .event ⟨.reused, j.val, 0⟩ ∉ rest) (memory : t.memory = s.memory) :
    ReusePassed j s t := by
  have same := State.ownRecord_congr memory touched.cages (cageOf j)
  exact ⟨touched, ⟨rest, raised, silent⟩, fun r own => ⟨r, same.trans own, rfl, fun fits => ⟨fits, id⟩⟩,
    fun none => same.trans none⟩

theorem ReusePassed.refl (j : LinkId) (s : State) : ReusePassed j s s :=
  .of_same (.refl ..) [] (List.append_nil _).symm List.not_mem_nil rfl

theorem ReusePassed.trans (h : ReusePassed j s t) (k : ReusePassed j t u) : ReusePassed j s u := by
  obtain ⟨l, first, silent⟩ := h.raised
  obtain ⟨m, second, silent'⟩ := k.raised
  refine ⟨h.touched.trans k.touched, ⟨l ++ m, by rw [second, first, List.append_assoc], ?_⟩, fun r own => ?_,
    fun none => k.absent (h.absent none)⟩
  · rw [List.mem_append]
    exact fun either => either.elim silent silent'
  · obtain ⟨r', own', skew, fits⟩ := h.record r own
    obtain ⟨r'', own'', skew', fits'⟩ := k.record r' own'
    rw [h.set] at fits'
    refine ⟨r'', own'', skew'.trans skew, fun f => ?_⟩
    obtain ⟨f', seeded⟩ := fits f
    obtain ⟨f'', seeded'⟩ := fits' f'
    exact ⟨f'', seeded' ∘ seeded⟩

theorem ReusePassed.isSome (h : ReusePassed j s t) :
    (t.ownRecord (cageOf j)).isSome = (s.ownRecord (cageOf j)).isSome := by
  cases own : s.ownRecord (cageOf j) with
  | none => rw [h.absent own]
  | some r =>
    obtain ⟨r', own', _⟩ := h.record r own
    rw [own'] <;> rfl

/-- The signals of an admission are its own. -/
theorem State.admitLink_raised (grade : Grade) (announced : Bool) : ∃ rest,
    (s.admitLink j grade announced).raised = s.raised ++ rest ∧ ∀ i, .event ⟨.reused, i, 0⟩ ∉ rest := by
  obtain ⟨rest, discards, raised⟩ := admissionTold_admitLink grade announced j s
  refine ⟨_, by rw [raised, List.append_assoc, List.append_assoc], fun i mem => ?_⟩
  rcases List.mem_append.mp mem with h | h
  · split at h <;> simp at h
  · rcases List.mem_append.mp h with h | h
    · split at h <;> simp at h
    · obtain ⟨_, e⟩ := discards _ h
      cases e

/-- Another link's admission passes a link by. -/
theorem reusePassed_admitLink {i : LinkId} (other : i ≠ j) (grade : Grade) (announced : Bool) (s : State) :
    ReusePassed j s (s.admitLink i grade announced) := by
  obtain ⟨rest, raised, silent⟩ := s.admitLink_raised (j := i) grade announced
  refine ⟨((touches_admitLink (only_self i) grade announced s).widen fun k e => e ▸ other).mono, ⟨rest, raised, silent _⟩,
    fun r own => ?_, fun none => ?_⟩
  · rw [State.ownRecord_admitLink]
    by_cases here : cageOf j = cageOf i
    · have set : s.linkSet j = s.linkSet i := by rw [State.linkSet, State.linkSet, here]
      have apart : slotOf j ≠ slotOf i := fun same => other (link_eq_of_place here.symm same.symm)
      rw [if_pos here, own]
      refine ⟨_, rfl, by rw [State.refreshedRecord_skews, if_neg apart], fun fits => ?_⟩
      rw [set] at fits ⊢
      refine ⟨State.refreshedRecord_fits r, fun seeded => ?_⟩
      rw [State.refreshedRecord_seeded, decide_eq_true ((r.fits_iff _).mp fits), seeded, Bool.true_and, Bool.or_true]
    · rw [if_neg here]
      exact ⟨r, own, rfl, fun fits => ⟨fits, id⟩⟩
  · rw [State.ownRecord_admitLink, none]
    split <;> rfl

/-- A link's flag cleared, with REUSED (R108). -/
def State.clearReused (j : LinkId) (s : State) : State :=
  (s.updLink j fun l => { l with suppressed := false }).raise .reused j.val

theorem touches_clearReused (j : LinkId) (s : State) : Touches (Only j) [.suppressed, .raised] s (s.clearReused j) :=
  (touches_setSuppressed (only_self j) false s).trans (touches_raise ..)

theorem State.clearReused_link : (s.clearReused j).link j = { s.link j with suppressed := false } := by
  change (s.updLink j fun l => { l with suppressed := false }).link j = _
  rw [State.link_updLink_self]

/-- A turn of the tick (R108). -/
theorem State.reuse_eq : s.reuse j
    = if (s.link j).suppressed = true ∧ (s.link j).penalty < s.settings.reuseThreshold then
        if (s.link j).engine.recovery = .damped then (s.clearReused j).admitLink j (s.link j).engine.grade true
        else s.clearReused j
      else s :=
  if_congr (by simp) rfl rfl

theorem reusePassed_reuse {i : LinkId} (other : i ≠ j) (s : State) : ReusePassed j s (s.reuse i) := by
  have cleared : ReusePassed j s (s.clearReused i) := by
    refine .of_same ((touches_clearReused i s).widen fun k e => e ▸ other).mono [.event ⟨.reused, i.val, 0⟩] rfl ?_ rfl
    intro mem
    have same : j.val = i.val := by simpa using mem
    exact other (Fin.ext same.symm)
  rw [State.reuse_eq]
  split
  · split
    · exact cleared.trans (reusePassed_admitLink other _ _ _)
    · exact cleared
  · exact .refl j s

end

end Sys2Proof.Machine
end

section
/-! PROOFS. Every penalty decays, and what falls below the threshold is reused (R108): O43. -/

set_option Elab.async false

namespace Sys2Proof.Machine

section
variable {j : LinkId} {s u : State}

/-! ### Every penalty decays (R108) -/

theorem touches_decayTurn (g : Nat) (i : LinkId) (t : State) :
    Touches (Only i) [.penalty] t (t.updLink i fun l => { l with penalty := decayed g l.penalty }) :=
  touches_updLink t rfl fun l p => by cases p <;> simp [Part.SameLink]

theorem touches_decayAll (s : State) : Touches Anywhere [.penalty] s s.decayAll :=
  .forEach fun i _ t => (touches_decayTurn _ i t).widen fun _ _ => trivial

theorem State.decayAll_link (s : State) (j : LinkId) : s.decayAll.link j
    = { s.link j with penalty := (s.link j).penalty * s.settings.decayFactor / 65536 } := by
  unfold State.decayAll
  obtain ⟨t, passed, result⟩ := State.forEach_at (fun i t => touches_decayTurn s.settings.decayFactor i t)
    allLinks_nodup (mem_allLinks j) s
  rw [result, State.link_updLink_self, passed.elsewhere j (by simp)] <;> rfl

theorem State.decayAll_spec (s : State) : ∃ t, s.decayAll = t ∧ Touches Anywhere [.penalty] s t
    ∧ ∀ j, t.link j = { s.link j with penalty := (s.link j).penalty * s.settings.decayFactor / 65536 } :=
  ⟨_, rfl, touches_decayAll s, s.decayAll_link⟩

/-! ### A tick up to the judgement of its links -/

/-- A tick whose penalties have decayed and whose links are not judged yet (R108). -/
def State.tickDecayed (s : State) : State :=
  State.decayAll { s.reach s.tickTimer with tickTimer := (s.reach s.tickTimer).inMs s.settings.decayTick }

/-- What a tick leaves before its links are judged, from `s` to `t`. -/
structure TickDecayed (s t : State) : Prop where
  link : ∀ j, t.link j = { s.link j with penalty := (s.link j).penalty * s.settings.decayFactor / 65536 }
  now : t.now = max s.now s.tickTimer
  timer : t.tickTimer = max s.now s.tickTimer + s.settings.decayTick * 3125000
  rest : t = { s with now := t.now, tickTimer := t.tickTimer, links := t.links }

/-- A tick whose timer runs again. -/
def State.tickStarted (s : State) : State :=
  { s.reach s.tickTimer with tickTimer := (s.reach s.tickTimer).inMs s.settings.decayTick }

theorem State.tickDecayed_eq (s : State) : s.tickDecayed = s.tickStarted.decayAll := rfl

theorem State.tickStarted_eq (s : State) : s.tickStarted = { s with
    now := max s.now s.tickTimer, tickTimer := max s.now s.tickTimer + s.settings.decayTick * 3125000 } := rfl

theorem touches_timed {s t : State} {n m : Moment}
    (touched : Touches Anywhere [.penalty] { s with now := n, tickTimer := m } t) :
    t = { s with now := t.now, tickTimer := t.tickTimer, links := t.links } := by
  have rest := touched.eq
  rw [touched.now, touched.tickTimer]
  exact rest

theorem tickDecayed_tickDecayed (s : State) : ∃ t, s.tickDecayed = t ∧ TickDecayed s t := by
  obtain ⟨t, result, touched, link⟩ := s.tickStarted.decayAll_spec
  rw [State.tickStarted_eq] at touched link
  exact ⟨t, s.tickDecayed_eq.trans result, link, touched.now, touched.tickTimer, touches_timed touched⟩

theorem exec_decayTickExpiry (s : State) :
    exec .decayTickExpiry s = .next ((s.tickDecayed).forEach State.reuse allLinks).settle := rfl

/-- The links of a tick, as one of them is passed by and has its turn. -/
theorem State.forEach_reuse (j : LinkId) (s : State) : ∃ t, ReusePassed j s t
    ∧ ReusePassed j (t.reuse j) (s.forEach State.reuse allLinks) :=
  State.forEach_turn (ReusePassed.refl j) (fun _ _ _ h k => h.trans k) (fun _ t other => reusePassed_reuse other t)
    allLinks_nodup (mem_allLinks j) s

theorem touches_reuse (i : LinkId) (t : State) : Touches (Only i) reuseParts t (t.reuse i) := by
  rw [State.reuse_eq]
  exact .ite (fun _ => .ite (fun _ => (touches_clearReused i t).trans (touches_admitLink (only_self i) _ _ _))
    fun _ => (touches_clearReused i t).mono) fun _ => .refl ..

/-! ### One link's turn -/

theorem ReusePassed.link (h : ReusePassed j s u) : u.link j = s.link j := h.touched.elsewhere j (by simp)

theorem ReusePassed.count (h : ReusePassed j s u) :
    u.raised.count (.event ⟨.reused, j.val, 0⟩) = s.raised.count (.event ⟨.reused, j.val, 0⟩) := by
  obtain ⟨rest, raised, silent⟩ := h.raised
  rw [raised, List.count_append, List.count_eq_zero.mpr silent, Nat.add_zero]

theorem ReusePassed.mem (h : ReusePassed j s u) {x : Signal} (mem : x ∈ s.raised) : x ∈ u.raised := by
  obtain ⟨rest, raised, _⟩ := h.raised
  rw [raised]
  exact List.mem_append_left _ mem

/-- A link judged by a tick, from `t`, where its penalty has decayed, to `b` (R108). -/
structure LinkReused (j : LinkId) (t b : State) : Prop where
  count : b.raised.count (.event ⟨.reused, j.val, 0⟩) = t.raised.count (.event ⟨.reused, j.val, 0⟩)
    + if (t.link j).suppressed = true ∧ (t.link j).penalty < t.settings.reuseThreshold then 1 else 0
  plain : (t.link j).engine.recovery ≠ .damped
    ∨ ¬ ((t.link j).suppressed = true ∧ (t.link j).penalty < t.settings.reuseThreshold) →
    b.link j = { t.link j with
      suppressed := (t.link j).suppressed && !decide ((t.link j).penalty < t.settings.reuseThreshold) }
  penalty : (b.link j).penalty = (t.link j).penalty
  admitted : (t.link j).suppressed = true ∧ (t.link j).penalty < t.settings.reuseThreshold →
    (t.link j).engine.recovery = .damped → b = (t.clearReused j).admitLink j (t.link j).engine.grade true

theorem linkReused_reuse (j : LinkId) (t : State) : LinkReused j t (t.reuse j) := by
  rw [State.reuse_eq]
  have cleared : (t.clearReused j).raised = t.raised ++ [.event ⟨.reused, j.val, 0⟩] := rfl
  by_cases reused : (t.link j).suppressed = true ∧ (t.link j).penalty < t.settings.reuseThreshold
  · rw [if_pos reused]
    by_cases damped : (t.link j).engine.recovery = .damped
    · rw [if_pos damped]
      obtain ⟨rest, raised, silent⟩ := (t.clearReused j).admitLink_raised (j := j) (t.link j).engine.grade true
      have touched := touches_admitLink (only_self j) (t.link j).engine.grade true (t.clearReused j)
      refine ⟨?_, fun h => (h.elim (· damped) (· reused)).elim, ?_, fun _ _ => rfl⟩
      · rw [raised, cleared, List.count_append, List.count_append, List.count_eq_zero.mpr (silent _),
          List.count_singleton_self, if_pos reused]
      · rw [touched.penalty, State.clearReused_link]
    · rw [if_neg damped]
      refine ⟨?_, fun _ => ?_, ?_, fun _ h => absurd h damped⟩
      · rw [cleared, List.count_append, List.count_singleton_self, if_pos reused]
      · rw [State.clearReused_link, decide_eq_true reused.2, Bool.not_true, Bool.and_false]
      · rw [State.clearReused_link]
  · rw [if_neg reused]
    refine ⟨by rw [if_neg reused] <;> rfl, fun _ => ?_, rfl, fun h => absurd h reused⟩
    have stays : ((t.link j).suppressed && !decide ((t.link j).penalty < t.settings.reuseThreshold))
        = (t.link j).suppressed := by
      cases suppressed : (t.link j).suppressed with
      | false => rfl
      | true => simpa [suppressed] using reused
    rw [stays]

end

end Sys2Proof.Machine
end

section
/-! PROOFS. The damping tick settled (R108): O43. -/

set_option Elab.async false

namespace Sys2Proof.Machine

section
variable {j : LinkId} {s t b u : State}

/-- What the tick leaves of the record of an admitted link's cage (R69). -/
theorem ReusePassed.seeded {a : State} {grade : Grade} (later : ReusePassed j (a.admitLink j grade true) u) :
    ∀ r, (a.admitLink j grade true).ownRecord (cageOf j) = some r → ∃ r', u.ownRecord (cageOf j) = some r'
      ∧ r'.skews.get (slotOf j) = r.skews.get (slotOf j) ∧ r'.seeded.get (slotOf j) = true := by
  intro r own
  obtain ⟨r', own', skew, fits⟩ := later.record r own
  have touched := touches_admitLink (only_self j) grade true a
  have set : (a.admitLink j grade true).linkSet j = a.linkSet j :=
    (SameCourse.of_cages (j := j) touched.now touched.cages).set
  rw [State.ownRecord_admitLink, if_pos rfl] at own
  obtain ⟨q, _, rfl⟩ := Option.map_eq_some_iff.mp own
  rw [set] at fits
  refine ⟨r', own', skew, (fits (State.refreshedRecord_fits q)).2 ?_⟩
  rw [State.refreshedRecord_seeded, decide_eq_true rfl, Bool.true_or]

/-- An admitted link's service state. -/
theorem State.admitLink_service (grade : Grade) (announced : Bool) (a : State) :
    ((a.admitLink j grade announced).link j).hold.service = .replay
      ∨ ((a.admitLink j grade announced).link j).hold.service = .pass := by
  have made := admissionMade_admitTo grade announced j a
  rw [State.admitLink_eq, ← made.service]
  exact State.judge_service

theorem State.admitLink_linkUp (grade : Grade) (a : State) :
    .event ⟨.linkUp, j.val, 0⟩ ∈ (a.admitLink j grade true).raised := by
  obtain ⟨rest, _, raised⟩ := admissionTold_admitLink grade true j a
  rw [raised]
  simp

/-- What a tick leaves of the device. -/
theorem Touches.ticked {n m : Moment} {l : Bank 64 Link}
    (h : Touches Anywhere reuseParts { s with now := n, tickTimer := m, links := l } u) : u = { s with
      now := u.now, tickTimer := u.tickTimer, links := u.links, memory := u.memory, freeCount := u.freeCount,
      poolFree := u.poolFree, poolLow := u.poolLow, slotA := u.slotA, slotB := u.slotB, raised := u.raised } := by
  have shape := h.eq
  rw [h.now, h.tickTimer]
  exact shape

end

/-- Settles O43: link by link, what came before its turn and what comes after pass it by. -/
theorem dampingTickDecaysAndReuses : Obligations.DampingTickDecaysAndReuses := by
  unfold Obligations.DampingTickDecaysAndReuses
  intro s
  obtain ⟨d, start, decayed⟩ := tickDecayed_tickDecayed s
  have step := exec_decayTickExpiry s
  rw [start] at step
  have all : Touches Anywhere reuseParts d (d.forEach State.reuse allLinks) :=
    .forEach fun i _ t => (touches_reuse i t).widen fun _ _ => trivial
  have turn (j : LinkId) := State.forEach_reuse j d
  generalize d.forEach State.reuse allLinks = u at step all turn
  have settings : d.settings = s.settings := by rw [decayed.rest]
  have raised : d.raised = s.raised := by rw [decayed.rest]
  refine ⟨u, step, all.tickTimer.trans decayed.timer, all.now.trans decayed.now, fun j => ?_⟩
  intro p reused
  obtain ⟨t, before, after⟩ := turn j
  have link : t.link j = { s.link j with penalty := p } := before.link.trans (decayed.link j)
  have threshold : t.settings.reuseThreshold = s.settings.reuseThreshold := by rw [before.touched.settings, settings]
  have turned := linkReused_reuse j t
  have is : (t.link j).suppressed = true ∧ (t.link j).penalty < t.settings.reuseThreshold ↔ reused := by
    rw [link, threshold]
  have rest : u = _ := Touches.ticked (decayed.rest ▸ all)
  refine ⟨?_, ?_, fun plain => ?_, fun yes damped => ?_, rest⟩
  · rw [after.link, turned.penalty, link]
  · rw [after.count, turned.count, before.count, raised]
    exact congrArg _ (if_congr is rfl rfl)
  · rw [after.link, turned.plain (plain.imp (by rw [link]; exact id) (mt is.mp)), link, threshold]
  · have admits := turned.admitted (is.mpr yes) (by rw [link]; exact damped)
    have cleared := State.clearReused_link (j := j) (s := t)
    have touched := touches_clearReused j t
    have graded : (t.link j).engine.grade = (s.link j).engine.grade := by rw [link]
    rw [admits, graded] at after
    rw [link] at cleared
    generalize t.clearReused j = a at after cleared touched
    have admitted := admitted_admitLink (s.link j).engine.grade true j a
    refine ⟨?_, ?_, ?_, ?_, after.mem (State.admitLink_linkUp ..), a, _, admitted, admissionTold_admitLink .., ?_, cleared,
      after.link, ?_, after.seeded⟩
    · rw [after.link, admitted.touched.2.1, cleared]
    · rw [after.link, admitted.engine]
    · rw [after.link, admitted.engine]
    · rw [after.link]
      exact State.admitLink_service ..
    · have known : Touches Anywhere reuseParts d a :=
        (before.touched.widen fun _ _ => trivial).trans (touched.widen fun _ _ => trivial)
      have shape : a = _ := Touches.ticked (decayed.rest ▸ known)
      rw [all.now, all.tickTimer, ← known.now, ← known.tickTimer]
      exact shape
    · have same : a.ownRecord (cageOf j) = t.ownRecord (cageOf j) :=
        State.ownRecord_congr touched.memory touched.cages _
      have first : d.ownRecord (cageOf j) = s.ownRecord (cageOf j) := by rw [decayed.rest] <;> rfl
      rw [same, before.isSome, first]

end Sys2Proof.Machine
end

section
/-! PROOFS. The end of a step and a restart, whatever the management engine holds (R159 to R161, R165). -/

set_option Elab.async false

namespace Sys2Proof.Machine

section
variable (m : ManagementEngine) (s : State)

/-! ### The end of a step -/

@[simp] theorem State.noticeEvent_withEngine (e : Event) :
    (s.withEngine m).noticeEvent e = (s.noticeEvent e).withEngine m := by
  unfold State.noticeEvent
  rw [show (s.withEngine m).notices = s.notices from rfl]
  split
  · rfl
  split
  · rfl
  dsimp only
  split <;> rfl

@[simp] theorem State.offer_withEngine (fuel : Nat) (e : Event) :
    (s.withEngine m).offer fuel e = (s.offer fuel e).withEngine m := by
  induction fuel generalizing s e with
  | zero => exact s.noticeEvent_withEngine m e
  | succ fuel ih =>
    unfold State.offer
    rw [show (s.withEngine m).claimant e.kind e.source = s.claimant e.kind e.source from rfl]
    cases s.claimant e.kind e.source with
    | none => exact s.noticeEvent_withEngine m e
    | some h =>
      simp only
      rw [State.claim_withEngine]
      rcases s.claim h e.kind e.source with ⟨t, _ | done⟩
      · rfl
      · exact ih t done

@[simp] theorem State.seriesCapture_withEngine (j : LinkId) (h : ChannelId) :
    (s.withEngine m).seriesCapture j h = (s.seriesCapture j h).withEngine m := by
  unfold State.seriesCapture
  rw [State.withEngine_channel]
  cases (s.channel h).seriesLink with
  | none => rfl
  | some i =>
    cases (s.channel h).trigger with
    | none => rfl
    | some t =>
      simp only
      rw [State.capture_withEngine]
      rcases s.capture h t.kind j.val with ⟨u, _ | done⟩
      · exact State.ite_withEngine ..
      · simp only [State.offerEvent, State.offer_withEngine]
        exact State.ite_withEngine ..

@[simp] theorem State.offerSignal_withEngine (x : Signal) :
    (s.withEngine m).offerSignal x = (s.offerSignal x).withEngine m := by
  cases x with
  | event e => exact s.offer_withEngine m 4 e
  | discard j =>
    unfold State.offerSignal
    simp only [State.offerEvent, State.offer_withEngine, State.withEngine_link]
    exact State.ite_withEngine ..
  | windowEnd j => exact State.forEach_withEngine (fun h t => t.seriesCapture_withEngine m j h) _ s

@[simp] theorem State.serveOut_withEngine : (s.withEngine m).serveOut = s.serveOut.withEngine m := by
  unfold State.serveOut
  rw [State.withEngine_service]
  split
  · rfl
  cases s.service.replies with
  | cons r rest => rfl
  | nil =>
    simp only
    rw [show (s.withEngine m).notices = s.notices from rfl,
      show (s.withEngine m).snapshotWaiting = s.snapshotWaiting from rfl]
    split
    · rfl
    cases s.snapshotWaiting with
    | some x => rfl
    | none =>
      cases s.notices.choice with
      | none => rfl
      | some e =>
        simp only
        unfold State.sendNotice
        dsimp only
        split <;> rfl

/-- The end of a step leaves the engine, whatever it holds. -/
@[simp] theorem State.settle_withEngine : (s.withEngine m).settle = s.settle.withEngine m := by
  unfold State.settle
  have offered := State.forEach_withEngine (fun x t => State.offerSignal_withEngine m t x) s.raised { s with raised := [] }
  exact (congrArg State.serveOut offered).trans (State.serveOut_withEngine m _)

/-! ### DEVICE-RESTART (R165) -/

@[simp] theorem State.restartTraffic_withEngine :
    (s.withEngine m).restartTraffic = s.restartTraffic.withEngine m := by
  have emptied : ({ s.withEngine m with slotA := none, slotB := none } : State)
      = ({ s with slotA := none, slotB := none } : State).withEngine m := rfl
  unfold State.restartTraffic
  dsimp only
  rw [emptied, State.forEach_withEngine fun j s => s.updCounters_withEngine m j _,
    State.forEach_withEngine fun j s => s.releaseLink_withEngine m j,
    State.forEach_withEngine fun j s => s.makeOff_withEngine m j,
    State.forEach_withEngine fun j s => s.flushLink_withEngine m .flushed j]

/-- A restart empties the engine (R165). -/
theorem State.restart_withEngine : (s.withEngine m).restart = s.restart := by
  have forgotten : ∀ t : State, (t.withEngine m).restartedFrom = t.restartedFrom := fun _ => rfl
  rw [State.restart_eq, State.restart_eq, State.restartTraffic_withEngine, forgotten]

/-- The reply that goes first reads of the engine the request in execution alone. -/
theorem State.replyFirst_withEngine {x : ManagementEngine} (same : x.executing = m.executing) :
    (s.withEngine x).replyFirst = (s.withEngine m).replyFirst.withEngine x := by
  unfold State.replyFirst
  rw [State.withEngine_management, State.withEngine_management, same]
  cases m.executing with
  | none => rfl
  | some e =>
    simp only
    cases e.request.port with
    | service =>
      simp only [State.sendReply_withEngine, State.serveOut_withEngine, State.withEngine_withEngine]
    | fabric j =>
      simp only [State.withEngine_link]
      split <;> rfl

end

/-! ### What a request does, whatever waits behind it -/

/-- From `s` a request, executed by `f`, either answers after one change, or holds the engine; the engine's queue is neither
read nor changed. -/
inductive RequestDoes (f : State → State) (s : State) : Prop
  | answers (u : State) (o : RequestOutcome) (fields : List Nat) (data : List Byte) (kept : u.management = s.management)
      (does : ∀ m, f (s.withEngine m) = (u.withEngine m).respond o fields data)
  | holds (u : State) (g : ManagementEngine → ManagementEngine)
      (held : ∀ m, (g m).executing = m.executing.map fun e => { e with holding := true })
      (blind : ∀ m l, g { m with queue := l } = { g m with queue := l })
      (does : ∀ m, f (s.withEngine m) = u.withEngine (g m))

namespace RequestDoes

variable {f g : State → State} {s : State}

/-- One change and an answer, told of the state before it. -/
theorem of_change (change : State → State) {o : RequestOutcome} {fields : List Nat} {data : List Byte}
    (blind : ∀ m s, change (State.withEngine m s) = (change s).withEngine m)
    (does : ∀ m, f (s.withEngine m) = (change (s.withEngine m)).respond o fields data) : RequestDoes f s :=
  .answers (change s) o fields data (management_of_blind blind s) fun m => (does m).trans (by rw [blind])

/-- An answer and nothing else. -/
theorem of_answer {o : RequestOutcome} {fields : List Nat} {data : List Byte}
    (does : ∀ m, f (s.withEngine m) = (s.withEngine m).respond o fields data) : RequestDoes f s :=
  .answers s o fields data rfl does

/-- Another function that does the same from here. -/
theorem congr (h : RequestDoes g s) (same : ∀ m, f (s.withEngine m) = g (s.withEngine m)) : RequestDoes f s := by
  cases h with
  | answers u o fields data kept does => exact .answers u o fields data kept fun m => (same m).trans (does m)
  | holds u g held blind does => exact .holds u g held blind fun m => (same m).trans (does m)

/-- A check that does not read the engine. -/
theorem ite {c : State → Prop} [DecidablePred c] (h : c s → RequestDoes f s) (k : ¬ c s → RequestDoes g s)
    (blind : ∀ m, c (s.withEngine m) = c s := by exact fun _ => rfl) :
    RequestDoes (fun t => if c t then f t else g t) s := by
  by_cases holds : c s
  · exact (h holds).congr fun m => if_pos (blind m ▸ holds)
  · exact (k holds).congr fun m => if_neg (blind m ▸ holds)

/-- A change before what a request does. -/
theorem comp {change : State → State} (h : RequestDoes f (change s)) (kept : (change s).management = s.management)
    (blind : ∀ m, change (s.withEngine m) = (change s).withEngine m) : RequestDoes (fun t => f (change t)) s := by
  cases h with
  | answers u o fields data same does =>
    exact .answers u o fields data (same.trans kept) fun m => (congrArg f (blind m)).trans (does m)
  | holds u g held still does => exact .holds u g held still fun m => (congrArg f (blind m)).trans (does m)

theorem takeItem (g : Settings → Settings) (s : State) : RequestDoes (State.takeItem g) s :=
  of_change (State.updSettings g) (fun _ _ => rfl) fun _ => rfl

theorem respondTaken (clamped : Bool) (n : Nat) (s : State) : RequestDoes (State.respondTaken clamped n) s := by
  cases clamped with
  | false => exact of_answer fun _ => rfl
  | true => exact of_answer fun _ => rfl

theorem takeClamped (low high n : Nat) (g : Nat → Settings → Settings) (s : State) :
    RequestDoes (State.takeClamped low high n g) s :=
  comp (f := State.respondTaken _ _) (change := State.updSettings _) (respondTaken ..) rfl fun _ => rfl

theorem refuse (s : State) : RequestDoes State.refuse s := of_answer fun _ => rfl

theorem respond (o : RequestOutcome) (fields : List Nat) (data : List Byte) (s : State) :
    RequestDoes (State.respond o fields data) s := of_answer fun _ => rfl

/-- A change, then an answer. -/
theorem done {change : State → State} (o : RequestOutcome)
    (blind : ∀ m s, change (State.withEngine m s) = (change s).withEngine m)
    (s : State) : RequestDoes (fun t => (change t).respond o) s := of_change change blind fun _ => rfl

end RequestDoes

end Sys2Proof.Machine
end

section
/-! PROOFS. Every request but READ-STATE DEVICE and DEVICE-RESTART does the same whatever waits behind it (R160, R161). -/

set_option Elab.async false

namespace Sys2Proof.Machine

namespace RequestDoes

variable {s : State}

/-! ### Requests on a cage or a link -/

theorem onCage {cage : Byte} {f : CageId → State → State} (h : ∀ c, RequestDoes (f c) s) :
    RequestDoes (State.onCage cage f) s :=
  ite (c := fun _ => 15 < cage.toNat) (fun _ => respond ..) fun _ => h _

theorem onLink {link : Byte} {f : LinkId → State → State} (h : ∀ j, RequestDoes (f j) s) :
    RequestDoes (State.onLink link f) s :=
  ite (c := fun _ => 63 < link.toNat) (fun _ => respond ..) fun _ => h _

theorem forceGateOff (c : CageId) (s : State) : RequestDoes (State.forceGateOff c) s := by
  cases mode : (s.cage c).mode
  case powering | serving =>
    exact (done .done (fun m s => s.closeGate_withEngine m c .forcedOff none) s).congr fun m => by
      rw [State.forceGateOff, State.withEngine_cage, mode]
  case tripped =>
    exact (done .done (fun m s => s.updCage_withEngine m c fun x => { x with mode := .forcedOff }) s).congr fun m => by
      rw [State.forceGateOff, State.withEngine_cage, mode]
  all_goals exact (respond .wrongState [] [] s).congr fun m => by rw [State.forceGateOff, State.withEngine_cage, mode]

theorem reArmGate (c : CageId) (s : State) : RequestDoes (State.reArmGate c) s := by
  cases mode : (s.cage c).mode
  case tripped | forcedOff =>
    exact (done .done (fun m s => s.enterPowering_withEngine m c) s).congr fun m => by
      rw [State.reArmGate, State.withEngine_cage, mode]
  all_goals exact (respond .wrongState [] [] s).congr fun m => by rw [State.reArmGate, State.withEngine_cage, mode]

theorem lengthenBy (j : LinkId) (longest : Moment) (clamped : Bool) (time : Nat) (s : State) :
    RequestDoes (State.lengthenBy j longest clamped time) s := by
  let longer (h : HoldState) : HoldState := { h with holdTimer := h.holdTimer.map fun m => min longest (m + time) }
  let limited := (s.link j).hold.holdTimer.any fun m => decide (longest < m + time)
  exact .answers (s.updHold j longer) (if clamped || limited then .adjusted else .done) (if clamped then [1] else [])
    (s.timerBytes ((s.updHold j longer).link j).hold.holdTimer) rfl fun _ => rfl

theorem extendHold (n : Nat) (j : LinkId) (s : State) : RequestDoes (State.extendHold n j) s := by
  cases service : (s.link j).hold.service
  case hold =>
    refine (lengthenBy j (s.inMs holdLimit) (!inRange 1 holdLimit n) (clamp 1 holdLimit n * millisecond) s).congr fun m => ?_
    rw [State.extendHold, State.withEngine_link, service, State.lengthenHold_eq, State.withEngine_inMs]
  all_goals exact (respond _ [] [] s).congr fun m => by rw [State.extendHold, State.withEngine_link, service]

theorem forceAdmit (j : LinkId) (s : State) : RequestDoes (State.forceAdmit j) s := by
  cases recovery : (s.link j).engine.recovery
  case qualifying | peerHold | damped =>
    exact (done .done (fun m s => s.admitLink_withEngine m j .full false) s).congr fun m => by
      rw [State.forceAdmit, State.withEngine_link, recovery]
  all_goals exact (respond .wrongState [] [] s).congr fun m => by rw [State.forceAdmit, State.withEngine_link, recovery]

theorem acceptPeer (j : LinkId) (s : State) : RequestDoes (State.acceptPeer j) s :=
  have accepted (p : Option PeerIdentity) : ∀ (m : ManagementEngine) (t : State),
      ((t.withEngine m).setPeer j p).proceed j = ((t.setPeer j p).proceed j).withEngine m := fun m t => by
    rw [State.setPeer_withEngine, State.proceed_withEngine]
  ite (c := fun t => (t.link j).engine.recovery = .peerHold)
    (f := fun t => ((t.setPeer j ((t.link j).engine.heardPeer.map HeardPeer.identity)).proceed j).respond .done []
      (peerBytes ((t.link j).engine.heardPeer.map HeardPeer.identity)))
    (fun _ => .answers _ _ _ _ (management_of_blind (change := fun t => (t.setPeer j _).proceed j) (accepted _) s) fun m => by
      rw [State.withEngine_link, accepted])
    fun _ => respond ..

theorem retryLink (j : LinkId) (s : State) : RequestDoes (State.retryLink j) s :=
  ite (c := fun t => (t.link j).engine.recovery = .failed)
    (fun _ => done .done (fun m t => t.enterAdapting_withEngine m j none 0) s) fun _ => respond ..

theorem clearPenalty (j : LinkId) (s : State) : RequestDoes (State.clearPenalty j) s :=
  done .done (change := fun t =>
    if (t.link j).engine.recovery = .damped
    then (t.updLink j fun l => { l with penalty := 0, suppressed := false }).admitLink j (t.link j).engine.grade true
    else t.updLink j fun l => { l with penalty := 0, suppressed := false })
    (fun m t => by
      rw [State.withEngine_link, State.updLink_withEngine, State.admitLink_withEngine, State.ite_withEngine]) s

theorem flushPark (j : LinkId) (s : State) : RequestDoes (State.flushPark j) s :=
  have flushed : ∀ (m : ManagementEngine) (t : State),
      ((t.withEngine m).flushLink .flushed j).endReplay j = ((t.flushLink .flushed j).endReplay j).withEngine m := fun m t => by
    rw [State.flushLink_withEngine, State.endReplay_withEngine]
  .answers _ _ _ _ (management_of_blind (change := fun t => (t.flushLink .flushed j).endReplay j) flushed s) fun m => by
    unfold State.flushPark
    dsimp only
    rw [State.withEngine_link, flushed]

/-! ### Configuration -/

theorem setLayout (c : CageId) (l : Layout) (s : State) :
    RequestDoes (fun t => if (t.cage c).mode.takesLayout then (t.setLayout c l).respond .done else t.respond .wrongState) s :=
  ite (c := fun t => (t.cage c).mode.takesLayout = true) (fun _ => done .done (fun m t => t.setLayout_withEngine m c l) s)
    fun _ => respond ..

theorem changeThenTake {change : State → State} (g : Settings → Settings)
    (blind : ∀ m s, change (State.withEngine m s) = (change s).withEngine m) (s : State) :
    RequestDoes (fun t => (change t).takeItem g) s :=
  comp (f := State.takeItem g) (takeItem ..) (management_of_blind blind s) fun m => blind m s

/-- A level taken, with the silence of its kind at 0 (R169, R174). -/
def levelled (k : EventKind) (n : Nat) (t : State) : State :=
  if n = 0 then (t.updNotices fun u => { u with levels := u.levels.set k.place n }).silence k
  else t.updNotices fun u => { u with levels := u.levels.set k.place n }

theorem levelled_withEngine (k : EventKind) (n : Nat) (m : ManagementEngine) (t : State) :
    levelled k n (t.withEngine m) = (levelled k n t).withEngine m := by
  unfold levelled
  rw [State.updNotices_withEngine, State.silence_withEngine, State.ite_withEngine]

theorem noticeLevel (k : EventKind) (n : Nat) (clamped : Bool) (s : State) :
    RequestDoes (fun t => (levelled k n t).respondTaken clamped valueOffset) s :=
  comp (f := State.respondTaken clamped valueOffset) (respondTaken ..)
    (management_of_blind (levelled_withEngine k n) s) fun m => levelled_withEngine k n m s

/-! ### Snapshot channels -/

theorem snapArm (h : ChannelId) (high : Prop) [Decidable high] (g : Trigger) (mode : ChannelMode) (count : Nat) (zero : Bool)
    (s : State) :
    RequestDoes (fun t =>
      if high then t.respond .badArgument
      else if (t.channel h).armed then t.respond .wrongState
      else (t.updChannel h (Channel.armedWith g mode count)).respondTaken zero countOffset) s :=
  ite (c := fun _ => high) (fun _ => respond ..) fun _ =>
    ite (c := fun t => (t.channel h).armed = true) (fun _ => respond ..) fun _ =>
      comp (f := State.respondTaken zero countOffset) (change := State.updChannel h _) (respondTaken ..) rfl fun _ => rfl

theorem snapStart (h : ChannelId) (source : Nat) (s : State) :
    RequestDoes (fun t => match (t.channel h).trigger with
      | none => t.respond .badArgument
      | some g => if g.admits source then (t.startChannel h g.kind source).respond .done else t.respond .badArgument) s := by
  cases trigger : (s.channel h).trigger with
  | none => exact (respond .badArgument [] [] s).congr fun m => by rw [State.withEngine_channel, trigger]
  | some g =>
    have does : RequestDoes (fun t : State =>
        if g.admits source then (t.startChannel h g.kind source).respond .done else t.respond .badArgument) s :=
      ite (c := fun _ => g.admits source = true)
        (fun _ => done .done (fun m t => t.startChannel_withEngine m h g.kind source) s) fun _ => respond ..
    exact does.congr fun m => by rw [State.withEngine_channel, trigger]

/-! ### The table and the module buses -/

theorem tableEdit (s : State) :
    RequestDoes (fun t => match t.table.mode with
      | .edit => t.respond .done
      | .active =>
        if t.search.inFlight.isSome then (t.updSearch fun u => { u with editPending := true }).holdEngine
        else t.enterEdit.respond .done) s := by
  cases mode : s.table.mode with
  | edit => exact (respond .done [] [] s).congr fun m => by rw [State.withEngine_table, mode]
  | active =>
    have does : RequestDoes (fun t : State =>
        if t.search.inFlight.isSome then (t.updSearch fun u => { u with editPending := true }).holdEngine
        else t.enterEdit.respond .done) s :=
      ite (c := fun t => t.search.inFlight.isSome = true)
        (fun _ => .holds (s.updSearch fun u => { u with editPending := true })
          (fun m => { m with executing := m.executing.map fun e => { e with holding := true } })
          (fun _ => rfl) (fun _ _ => rfl) fun _ => rfl)
        fun _ => done .done (fun m t => (t.enterEdit_withEngine m).symm) s
    exact does.congr fun m => by rw [State.withEngine_table, mode]

theorem tableCommit (s : State) :
    RequestDoes (fun t =>
      if t.table.mode = .active then t.respond .wrongState
      else (t.updManagement fun m => { m with commitView := some t.table.entries }).holdEngine) s :=
  ite (c := fun t => t.table.mode = .active) (fun _ => respond ..) fun _ =>
    .holds s (fun m => { m with
        commitView := some s.table.entries, executing := m.executing.map fun e => { e with holding := true } })
      (fun _ => rfl) (fun _ _ => rfl) fun _ => rfl

theorem passThrough (cage page offset length : Byte) (limit : Nat) (kind : BusKind) (data : List Byte) (s : State) :
    RequestDoes (State.passThrough cage page offset length limit kind data) s := by
  refine ite (c := fun _ => (15 < cage.toNat || !inRange 1 limit length.toNat || 256 < offset.toNat + length.toNat) = true)
    (f := State.respond .badArgument)
    (g := fun t => match (t.cage (indexOf 16 cage.toNat)).mode.passThrough with
      | some o => t.respond o
      | none => t.holdEngine.placePassThrough
        { requester := .passThrough, cage := indexOf 16 cage.toNat, kind := kind, page := page, offset := offset,
          length := length.toNat, data := data.take length.toNat })
    (fun _ => respond ..) fun _ => ?_
  cases answer : (s.cage (indexOf 16 cage.toNat)).mode.passThrough with
  | some o => exact (respond o [] [] s).congr fun m => by rw [State.withEngine_cage, answer]
  | none =>
    refine .holds (s.placePassThrough
        { requester := .passThrough, cage := indexOf 16 cage.toNat, kind := kind, page := page, offset := offset,
          length := length.toNat, data := data.take length.toNat })
      (fun m => { m with executing := m.executing.map fun e => { e with holding := true } })
      (fun _ => rfl) (fun _ _ => rfl) fun m => ?_
    rw [State.withEngine_cage, answer]
    exact State.placePassThrough_withEngine _ s _

/-! ### Reads -/

/-- An answer that carries what the state shows, where it shows nothing of the engine. -/
theorem answering (o : RequestOutcome) (fields : List Nat) (data : State → List Byte)
    (blind : ∀ m, data (s.withEngine m) = data s := by exact fun _ => rfl) :
    RequestDoes (fun t => t.respond o fields (data t)) s :=
  of_answer (data := data s) fun m => by rw [blind]

theorem readCounters (js : List LinkId) (s : State) :
    RequestDoes (fun t =>
      (t.forEach (fun j => State.updCounters j fun _ => zeroCounters) js).respond .done [] (t.counterBytes js)) s :=
  of_change (fun t => t.forEach (fun j => State.updCounters j fun _ => zeroCounters) js) (data := s.counterBytes js)
    (fun m t => State.forEach_withEngine (fun j t => t.updCounters_withEngine m j _) js t) fun _ => rfl

theorem forget (f : RecoveryMemory → RecoveryMemory) (removed : RecoveryMemory → Nat) (s : State) :
    RequestDoes (fun t => t.forget f (removed t.memory)) s :=
  of_change (State.updMemory f) (data := [byteOf (removed s.memory)]) (fun _ _ => rfl) fun _ => rfl

end RequestDoes

end Sys2Proof.Machine
end

section
/-! PROOFS. How each request command is served (R158 to R161, R168). -/

set_option Elab.async false

namespace Sys2Proof.Machine

/-- A request command's step is the serving of some function, and but for READ-STATE DEVICE and DEVICE-RESTART that function
does the same whatever waits behind the request. -/
def IsServed (i : Instr) : Prop :=
  ∃ f : State → State, (∀ s, exec i s = serve i f s)
    ∧ ((∀ q, i ≠ .deviceRestart q) → (∀ q, i ≠ .readStateDevice q) → ∀ s, RequestDoes f s)

theorem IsServed.of_exec {i : Instr} {f : State → State} (served : ∀ s, exec i s = serve i f s)
    (does : ∀ s, RequestDoes f s) : IsServed i := ⟨f, served, fun _ _ => does⟩

theorem IsServed.of {i : Instr} (run : State → Result) (arm : ∀ s, exec i s = run s)
    (served : ∃ f, (∀ s, run s = serve i f s) ∧ ∀ s, RequestDoes f s) : IsServed i :=
  match served with
  | ⟨_, serves, does⟩ => .of_exec (fun s => (arm s).trans (serves s)) does

/-! ### Reads -/

theorem isServed_readStateCage (q : Requester) (cage : Byte) : IsServed (.readStateCage q cage) := by
  refine .of (execReadStateCage q cage) (fun _ => rfl) ?_
  unfold execReadStateCage
  exact ⟨_, fun _ => rfl, fun s => .ite (c := fun _ => 15 < cage.toNat) (fun _ => .respond ..)
    fun _ => .answering .done [] fun t => t.cageBytes _⟩

theorem isServed_readStateLink (q : Requester) (link : Byte) : IsServed (.readStateLink q link) := by
  refine .of (execReadStateLink q link) (fun _ => rfl) ?_
  unfold execReadStateLink
  exact ⟨_, fun _ => rfl, fun s => .ite (c := fun _ => 63 < link.toNat) (fun _ => .respond ..)
    fun _ => .answering .done [] fun t => t.linkBytes _⟩

theorem isServed_readCounters (q : Requester) (link : Byte) : IsServed (.readCounters q link) := by
  refine .of (execReadCounters q link) (fun _ => rfl) ?_
  unfold execReadCounters
  refine ⟨_, fun _ => rfl, fun s => ?_⟩
  cases linksNamed link with
  | none => exact .respond ..
  | some js => exact .readCounters js s

theorem isServed_readDiscards (q : Requester) : IsServed (.readDiscards q) := by
  refine .of (execReadDiscards q) (fun _ => rfl) ?_
  unfold execReadDiscards
  exact ⟨_, fun _ => rfl, fun s => .answers { s with slotA := none, slotB := none } .done []
    (discardBytes s.slotA ++ discardBytes s.slotB) rfl fun _ => rfl⟩

theorem isServed_setRead (q : Requester) (set : Byte) : IsServed (.setRead q set) := by
  refine .of (execSetRead q set) (fun _ => rfl) ?_
  unfold execSetRead
  exact ⟨_, fun _ => rfl, fun s => .ite (c := fun _ => 31 < set.toNat) (fun _ => .respond ..)
    fun _ => .answering .done [] fun t => (t.sets.get _).bytes⟩

theorem isServed_readMemoryCageRecords (q : Requester) : IsServed (.readMemoryCageRecords q) := by
  refine .of (execReadMemoryCageRecords q) (fun _ => rfl) ?_
  unfold execReadMemoryCageRecords
  exact ⟨_, fun _ => rfl, fun s => .answering .done [] fun t => t.memory.positionsBytes⟩

theorem isServed_readMemoryCache (q : Requester) : IsServed (.readMemoryCache q) := by
  refine .of (execReadMemoryCache q) (fun _ => rfl) ?_
  unfold execReadMemoryCache
  exact ⟨_, fun _ => rfl, fun s => .answering .done [] fun t => t.memory.cacheBytes⟩

theorem isServed_readMemoryPeerRecords (q : Requester) : IsServed (.readMemoryPeerRecords q) := by
  refine .of (execReadMemoryPeerRecords q) (fun _ => rfl) ?_
  unfold execReadMemoryPeerRecords
  exact ⟨_, fun _ => rfl, fun s => .answering .done [] fun t => t.memory.peersBytes⟩

theorem isServed_tableRead (q : Requester) (start : BitVec 16) (number : Byte) :
    IsServed (.tableRead q start number) := by
  refine .of (execTableRead q start number) (fun _ => rfl) ?_
  unfold execTableRead
  exact ⟨_, fun _ => rfl, fun s =>
    .ite (c := fun t => t.table.entries.length < start.toNat) (fun _ => .respond ..) fun _ =>
    .ite (c := fun t => (readLimit < number.toNat || t.table.entries.length < start.toNat + number.toNat) = true)
      (fun _ => .answering .adjusted [numberOffset] fun t =>
        t.table.readBytes start.toNat (min readLimit (t.table.entries.length - start.toNat)))
      fun _ => .answering .done [] fun t => t.table.readBytes start.toNat number.toNat⟩

/-! ### FORGET -/

theorem isServed_forgetCage (q : Requester) (number : BitVec 32) : IsServed (.forgetCage q number) := by
  refine .of (execForgetCage q number) (fun _ => rfl) ?_
  unfold execForgetCage
  exact ⟨_, fun _ => rfl, fun s => .ite (c := fun _ => 15 < number.toNat) (fun _ => .respond ..)
    fun _ => .forget _ (fun m => m.inPosition _) s⟩

theorem isServed_forgetDigest (q : Requester) (digest : BitVec 32) : IsServed (.forgetDigest q digest) := by
  refine .of (execForgetDigest q digest) (fun _ => rfl) ?_
  unfold execForgetDigest
  exact ⟨_, fun _ => rfl, fun s => .forget _ (fun m => m.countDigest digest) s⟩

theorem isServed_forgetPeer (q : Requester) (number : BitVec 32) : IsServed (.forgetPeer q number) := by
  refine .of (execForgetPeer q number) (fun _ => rfl) ?_
  unfold execForgetPeer
  exact ⟨_, fun _ => rfl, fun s => .ite (c := fun _ => 63 < number.toNat) (fun _ => .respond ..)
    fun _ => .forget _ (fun m => (m.peers.get _).isSome.toNat) s⟩

theorem isServed_forgetAll (q : Requester) : IsServed (.forgetAll q) := by
  refine .of (execForgetAll q) (fun _ => rfl) ?_
  unfold execForgetAll
  exact ⟨_, fun _ => rfl, fun s => .forget _ RecoveryMemory.countAll s⟩

/-! ### Configuration items -/

theorem isServed_serialLocation (q : Requester) (page offset : Byte) : IsServed (.serialLocation q page offset) := by
  refine .of (execSerialLocation q page offset) (fun _ => rfl) ?_
  unfold execSerialLocation
  exact ⟨_, fun _ => rfl, fun s => .ite (c := fun _ => serialOffsetLimit < offset.toNat) (fun _ => .refuse s)
    fun _ => .takeItem _ s⟩

theorem isServed_pageSelectLocation (q : Requester) (value : Byte) : IsServed (.pageSelectLocation q value) := by
  refine .of (execPageSelectLocation q value) (fun _ => rfl) ?_
  unfold execPageSelectLocation
  exact ⟨_, fun _ => rfl, fun s => .changeThenTake (change := fun t => t.forEach State.forgetLocation allCages) _
    (fun m t => State.forEach_withEngine (fun c t => t.forgetLocation_withEngine m c) _ t) s⟩

theorem isServed_fabricLayout (q : Requester) (cage value : Byte) : IsServed (.fabricLayout q cage value) := by
  refine .of (execFabricLayout q cage value) (fun _ => rfl) ?_
  unfold execFabricLayout
  refine ⟨_, fun _ => rfl, fun s => ?_⟩
  cases layoutOfCode value.toNat with
  | none => exact .refuse s
  | some l => exact .ite (c := fun _ => 15 < cage.toNat) (fun _ => .refuse s) fun _ => .setLayout _ l s

theorem isServed_alertEnable (q : Requester) (cage value : Byte) : IsServed (.alertEnable q cage value) := by
  refine .of (execAlertEnable q cage value) (fun _ => rfl) ?_
  unfold execAlertEnable
  exact ⟨_, fun _ => rfl, fun s => .ite (c := fun _ => 15 < cage.toNat) (fun _ => .refuse s)
    fun _ => .done (change := State.updCage _ _) .done (fun _ _ => rfl) s⟩

theorem isServed_ceiling (q : Requester) (value : BitVec 16) : IsServed (.ceiling q value) := by
  refine .of (execCeiling q value) (fun _ => rfl) ?_
  unfold execCeiling
  exact ⟨_, fun _ => rfl, fun s => .changeThenTake (change := State.lowerPenalties value.toNat) _
    (fun m t => t.lowerPenalties_withEngine m _) s⟩

theorem isServed_suppressThreshold (q : Requester) (value : BitVec 16) : IsServed (.suppressThreshold q value) := by
  refine .of (execSuppressThreshold q value) (fun _ => rfl) ?_
  unfold execSuppressThreshold
  exact ⟨_, fun _ => rfl, fun s =>
    .ite (c := fun t => (value.toNat = 0 || value.toNat ≤ t.settings.reuseThreshold) = true) (fun _ => .refuse s)
      fun _ => .takeItem _ s⟩

theorem isServed_reuseThreshold (q : Requester) (value : BitVec 16) : IsServed (.reuseThreshold q value) := by
  refine .of (execReuseThreshold q value) (fun _ => rfl) ?_
  unfold execReuseThreshold
  exact ⟨_, fun _ => rfl, fun s =>
    .ite (c := fun t => (value.toNat = 0 || t.settings.suppressThreshold ≤ value.toNat) = true) (fun _ => .refuse s)
      fun _ => .takeItem _ s⟩

theorem isServed_pausable (q : Requester) (cls value : Byte) : IsServed (.pausable q cls value) := by
  refine .of (execPausable q cls value) (fun _ => rfl) ?_
  unfold execPausable
  exact ⟨_, fun _ => rfl, fun s => .ite (c := fun _ => 3 < cls.toNat) (fun _ => .refuse s) fun _ =>
    .done (change := State.setPausable _ (bitZero value)) .done (State.setPausable_withEngine _ _) s⟩

theorem isServed_pauseOnHold (q : Requester) (value : Byte) : IsServed (.pauseOnHold q value) := by
  refine .of (execPauseOnHold q value) (fun _ => rfl) ?_
  unfold execPauseOnHold
  exact ⟨_, fun _ => rfl, fun s =>
    .done (change := State.setPauseOnHold (bitZero value)) .done (State.setPauseOnHold_withEngine _) s⟩

theorem isServed_criticalLevel (q : Requester) (value : BitVec 16) : IsServed (.criticalLevel q value) := by
  refine .of (execCriticalLevel q value) (fun _ => rfl) ?_
  unfold execCriticalLevel
  exact ⟨_, fun _ => rfl, fun s => .ite (c := fun t => clamp 1 8192 value.toNat ≤ t.settings.resumeLevel)
    (fun _ => .refuse s) fun _ => .takeClamped _ _ _ _ s⟩

theorem isServed_resumeLevel (q : Requester) (value : BitVec 16) : IsServed (.resumeLevel q value) := by
  refine .of (execResumeLevel q value) (fun _ => rfl) ?_
  unfold execResumeLevel
  exact ⟨_, fun _ => rfl, fun s => .ite (c := fun t => t.settings.criticalLevel ≤ clamp 0 8191 value.toNat)
    (fun _ => .refuse s) fun _ => .takeClamped _ _ _ _ s⟩

theorem isServed_managementAddress (q : Requester) (value : MacAddress) : IsServed (.managementAddress q value) := by
  refine .of (execManagementAddress q value) (fun _ => rfl) ?_
  unfold execManagementAddress
  exact ⟨_, fun _ => rfl, fun s => .ite (c := fun _ => isGroup value = true) (fun _ => .refuse s) fun _ => .takeItem _ s⟩

theorem isServed_managementTypeValue (q : Requester) (value : BitVec 16) : IsServed (.managementTypeValue q value) := by
  refine .of (execManagementTypeValue q value) (fun _ => rfl) ?_
  unfold execManagementTypeValue
  exact ⟨_, fun _ => rfl, fun s => .ite (c := fun _ => typeRefused value = true) (fun _ => .refuse s)
    fun _ => .takeItem _ s⟩

theorem isServed_noticeLevel (q : Requester) (kind value : Byte) : IsServed (.noticeLevel q kind value) := by
  refine .of (execNoticeLevel q kind value) (fun _ => rfl) ?_
  unfold execNoticeLevel
  refine ⟨_, fun _ => rfl, fun s => ?_⟩
  cases eventKindOfCode kind.toNat with
  | none => exact .refuse s
  | some k => exact .noticeLevel k _ _ s

/-! ### Cages and the device -/

theorem isServed_engage (q : Requester) : IsServed (.engage q) := by
  refine .of (execEngage q) (fun _ => rfl) ?_
  unfold execEngage
  exact ⟨_, fun _ => rfl, fun s => .done (change := fun t => if t.engaged then t else t.engage) .done
    (fun m t => by rw [State.withEngine_engaged, State.engage_withEngine, State.ite_withEngine]) s⟩

theorem isServed_disengage (q : Requester) : IsServed (.disengage q) := by
  refine .of (execDisengage q) (fun _ => rfl) ?_
  unfold execDisengage
  exact ⟨_, fun _ => rfl, fun s => .done (change := fun t => if t.engaged then t.disengage else t) .done
    (fun m t => by rw [State.withEngine_engaged, State.disengage_withEngine, State.ite_withEngine]) s⟩

/-! ### Links -/

/-! ### Snapshot channels -/

theorem isServed_snapArm (q : Requester) (channel kind source count mode : Byte) :
    IsServed (.snapArm q channel kind source count mode) := by
  refine .of (execSnapArm q channel kind source count mode) (fun _ => rfl) ?_
  unfold execSnapArm
  refine ⟨_, fun _ => rfl, fun s => ?_⟩
  cases triggerOf kind source with
  | none => exact .respond ..
  | some g =>
    cases channelModeOf mode with
    | none => exact .respond ..
    | some m => exact .snapArm _ _ g m _ _ s

theorem isServed_snapStart (q : Requester) (channel source : Byte) : IsServed (.snapStart q channel source) := by
  refine .of (execSnapStart q channel source) (fun _ => rfl) ?_
  unfold execSnapStart
  exact ⟨_, fun _ => rfl, fun s => .ite (c := fun _ => 3 < channel.toNat) (fun _ => .respond ..) fun _ =>
    .ite (c := fun t => (!(t.channel _).armed) = true) (fun _ => .respond ..) fun _ => .snapStart _ _ s⟩

theorem isServed_snapDisarm (q : Requester) (channel : Byte) : IsServed (.snapDisarm q channel) := by
  refine .of (execSnapDisarm q channel) (fun _ => rfl) ?_
  unfold execSnapDisarm
  exact ⟨_, fun _ => rfl, fun s => .ite (c := fun _ => 3 < channel.toNat) (fun _ => .respond ..)
    fun _ => .done (change := State.updChannel _ Channel.disarmed) .done (fun _ _ => rfl) s⟩

/-! ### The table, the sets and the module buses -/

theorem isServed_tableEdit (q : Requester) : IsServed (.tableEdit q) := by
  refine .of (execTableEdit q) (fun _ => rfl) ?_
  unfold execTableEdit
  exact ⟨_, fun _ => rfl, fun s => .tableEdit s⟩

theorem isServed_tableCommit (q : Requester) (checksum : BitVec 32) : IsServed (.tableCommit q checksum) := by
  refine .of (execTableCommit q checksum) (fun _ => rfl) ?_
  unfold execTableCommit
  exact ⟨_, fun _ => rfl, fun s => .tableCommit s⟩

theorem isServed_tableAppend (q : Requester) (key attr : BitVec 32) : IsServed (.tableAppend q key attr) := by
  refine .of (execTableAppend q key attr) (fun _ => rfl) ?_
  unfold execTableAppend
  exact ⟨_, fun _ => rfl, fun s => .ite (c := fun t => t.table.mode = .active) (fun _ => .respond ..) fun _ =>
    .ite (c := fun _ => (!(entryOf key attr true).fieldsGood) = true) (fun _ => .respond ..) fun _ =>
    .ite (c := fun t => entryLimit ≤ t.table.entries.length) (fun _ => .respond ..) fun _ =>
    .ite (c := fun t => (!isAbove key t.table.entries.getLast?) = true) (fun _ => .respond ..) fun _ =>
    .answers (s.setEntries (s.table.entries ++ [entryOf key attr true])) .done [] [] rfl fun _ => rfl⟩

theorem isServed_tableReplace (q : Requester) (index : Byte) (key attr : BitVec 32) :
    IsServed (.tableReplace q index key attr) := by
  refine .of (execTableReplace q index key attr) (fun _ => rfl) ?_
  unfold execTableReplace
  exact ⟨_, fun _ => rfl, fun s => .ite (c := fun t => t.table.mode = .active) (fun _ => .respond ..) fun _ =>
    .ite (c := fun t => (t.table.entries.length ≤ index.toNat || !(entryOf key attr true).fieldsGood) = true)
      (fun _ => .respond ..) fun _ =>
    .ite (c := fun t => (!(isAbove key (entryBefore t.table.entries index.toNat)
      && isBelow key t.table.entries[index.toNat + 1]?)) = true) (fun _ => .respond ..) fun _ =>
    .answers (s.setEntries (s.table.entries.set index.toNat (entryOf key attr true))) .done [] [] rfl fun _ => rfl⟩

theorem isServed_tableTruncate (q : Requester) (count : BitVec 16) : IsServed (.tableTruncate q count) := by
  refine .of (execTableTruncate q count) (fun _ => rfl) ?_
  unfold execTableTruncate
  exact ⟨_, fun _ => rfl, fun s => .ite (c := fun t => t.table.mode = .active) (fun _ => .respond ..) fun _ =>
    .ite (c := fun t => t.table.entries.length < count.toNat) (fun _ => .respond ..) fun _ =>
    .answers (s.setEntries (s.table.entries.take count.toNat)) .done [] [] rfl fun _ => rfl⟩

theorem isServed_setWrite (q : Requester) (set : Byte) (contents : List Byte) : IsServed (.setWrite q set contents) := by
  refine .of (execSetWrite q set contents) (fun _ => rfl) ?_
  unfold execSetWrite
  exact ⟨_, fun _ => rfl, fun s =>
    .ite (c := fun _ => (!(setFaults set (rawSetOf contents)).isEmpty) = true) (fun _ => .respond ..) fun _ =>
    .answers { s with sets := s.sets.set (indexOf 32 set.toNat) (rawSetOf contents).toSet } _ _ [] rfl fun _ => rfl⟩

/-! ### All of them -/

theorem exec_deviceRestart_serve (q : Requester) (s : State) :
    exec (.deviceRestart q) s = serve (.deviceRestart q) (fun t => t.replyFirst.restart) s :=
  show execDeviceRestart q s = _ from rfl

theorem exec_readStateDevice_serve (q : Requester) (s : State) :
    exec (.readStateDevice q) s = serve (.readStateDevice q) (fun t => t.respond .done [] t.deviceBytes) s :=
  show execReadStateDevice q s = _ from rfl

/-- Every command that is laid out as a request is served. -/
theorem isServed_of_encode {i : Instr} {r : Request} (encodes : encodeRequest i = some r) : IsServed i := by
  obtain ⟨q, code, body, parts, -⟩ := encodeRequest_eq_some encodes
  cases i
  case powerOnReset | presentAssertion | presentDeassertionInSeating | removal | alertAssertion | seatingTimerExpiry
      | readyTimerExpiry | moduleBusAttemptFailure | busStretchTimeout | moduleBusTransactionEnd | searchEnd
      | guardTimerExpiry | pollTimerExpiry | powerUpTimerExpiry | laneConverged | adaptationTimerExpiry | markerLock
      | fecLock | alignmentTimerExpiry | lossOfLock | lockLossTimerExpiry | windowTimerExpiry | probeIntervalExpiry
      | decayTickExpiry | holdTimerExpiry | pauseRefreshExpiry | frameFromSwitch | frameFromModule | fabricEgressFree
      | tokenTick | moduleEgressTransitEnd | rampTimerExpiry | servicePortFrame | commitChecksumDone | gapTimerExpiry
      | servicePortFree | entryDamage | codewordDecoded | alertDeassertion => cases parts
  case deviceRestart q => exact ⟨_, exec_deviceRestart_serve q, fun h => absurd rfl (h q)⟩
  case readStateDevice q => exact ⟨_, exec_readStateDevice_serve q, fun _ h => absurd rfl (h q)⟩
  case readStateCage q cage => exact isServed_readStateCage q cage
  case readStateLink q link => exact isServed_readStateLink q link
  case readCounters q link => exact isServed_readCounters q link
  case readDiscards q => exact isServed_readDiscards q
  case setRead q set => exact isServed_setRead q set
  case readMemoryCageRecords q => exact isServed_readMemoryCageRecords q
  case readMemoryCache q => exact isServed_readMemoryCache q
  case readMemoryPeerRecords q => exact isServed_readMemoryPeerRecords q
  case tableRead q start number => exact isServed_tableRead q start number
  case forgetCage q number => exact isServed_forgetCage q number
  case forgetDigest q digest => exact isServed_forgetDigest q digest
  case forgetPeer q number => exact isServed_forgetPeer q number
  case forgetAll q => exact isServed_forgetAll q
  case seatingTime | managementReadyTime | lockLossConfirmTime | decayTick | pauseTime | classLimit | linkLimit | poolLowMark =>
    exact .of_exec (fun _ => rfl) fun s => .takeClamped _ _ _ _ s
  case identityReadList | lossIncrement | removalIncrement | decayFactor | dscpMapEnable | dscpMap | defaultPriority | classMap
      | noticeGap =>
    exact .of_exec (fun _ => rfl) fun s => .takeItem _ s
  case serialLocation q page offset => exact isServed_serialLocation q page offset
  case pageSelectLocation q value => exact isServed_pageSelectLocation q value
  case fabricLayout q cage value => exact isServed_fabricLayout q cage value
  case alertEnable q cage value => exact isServed_alertEnable q cage value
  case ceiling q value => exact isServed_ceiling q value
  case suppressThreshold q value => exact isServed_suppressThreshold q value
  case reuseThreshold q value => exact isServed_reuseThreshold q value
  case pausable q cls value => exact isServed_pausable q cls value
  case pauseOnHold q value => exact isServed_pauseOnHold q value
  case criticalLevel q value => exact isServed_criticalLevel q value
  case resumeLevel q value => exact isServed_resumeLevel q value
  case managementAddress q value => exact isServed_managementAddress q value
  case managementTypeValue q value => exact isServed_managementTypeValue q value
  case noticeLevel q kind value => exact isServed_noticeLevel q kind value
  case engage q => exact isServed_engage q
  case disengage q => exact isServed_disengage q
  case cageRestart q cage =>
    exact .of_exec (fun _ => rfl) fun s => .onCage fun c => .done .done (fun m t => t.restartCage_withEngine m c) s
  case forceGateOff q cage =>
    exact .of_exec (fun _ => rfl) fun s => .onCage fun c => .forceGateOff c s
  case reArmGate q cage =>
    exact .of_exec (fun _ => rfl) fun s => .onCage fun c => .reArmGate c s
  case extendHold q link extension =>
    exact .of_exec (fun _ => rfl) fun s => .onLink fun j => .extendHold _ j s
  case forceAdmit q link =>
    exact .of_exec (fun _ => rfl) fun s => .onLink fun j => .forceAdmit j s
  case acceptPeer q link =>
    exact .of_exec (fun _ => rfl) fun s => .onLink fun j => .acceptPeer j s
  case linkRetry q link =>
    exact .of_exec (fun _ => rfl) fun s => .onLink fun j => .retryLink j s
  case clearPenalty q link =>
    exact .of_exec (fun _ => rfl) fun s => .onLink fun j => .clearPenalty j s
  case flushPark q link =>
    exact .of_exec (fun _ => rfl) fun s => .onLink fun j => .flushPark j s
  case snapArm q channel kind source count mode => exact isServed_snapArm q channel kind source count mode
  case snapStart q channel source => exact isServed_snapStart q channel source
  case snapDisarm q channel => exact isServed_snapDisarm q channel
  case tableEdit q => exact isServed_tableEdit q
  case tableCommit q checksum => exact isServed_tableCommit q checksum
  case tableAppend q key attr => exact isServed_tableAppend q key attr
  case tableReplace q index key attr => exact isServed_tableReplace q index key attr
  case tableTruncate q count => exact isServed_tableTruncate q count
  case setWrite q set contents => exact isServed_setWrite q set contents
  case moduleRead | moduleWrite =>
    exact .of_exec (fun _ => rfl) fun s => .passThrough _ _ _ _ _ _ _ s

end Sys2Proof.Machine
end

section
/-! PROOFS. The engine serves one request after another (R159 to R162, R165). -/

set_option Elab.async false

namespace Sys2Proof.Machine

section
variable {i : Instr} {r : Request} {s : State} {f : State → State}

/-! ### A request that reaches a busy engine (R160) -/

theorem State.isExecuting_of_management {t : State} (kept : t.management = s.management) :
    t.isExecuting i = s.isExecuting i := by
  rw [State.isExecuting, State.isExecuting, kept]

theorem serve_arrives {t : State} (encodes : encodeRequest i = some r) (other : s.isExecuting i = false)
    (arrives : s.arrive r = t) (kept : t.isExecuting i = false) : serve i f s = .next t.settle := by
  have received : s.receive i = t := by
    rw [State.receive, if_neg (by rw [other]; exact Bool.false_ne_true), encodes]
    exact arrives
  rw [serve, received]
  rw [if_neg (by rw [kept]; exact Bool.false_ne_true), State.answer]

theorem serve_busy {e : Execution} (encodes : encodeRequest i = some r) (busy : s.management.executing = some e)
    (other : s.isExecuting i = false) : serve i f s = .next
      (if s.management.queue.length < 8 then
        { s with management := { s.management with queue := s.management.queue ++ [r] } }.settle
      else s.answered (requesterOf r) r.code .busy [] []) := by
  split
  · next room => exact serve_arrives encodes other (State.arrive_waits busy room) other
  · next full =>
    refine serve_arrives encodes other (State.arrive_full (Nat.not_lt.mp full)) ?_
    exact (State.isExecuting_of_management (State.sendReply_management ..)).trans other

/-! ### A request in execution (R161; log 16) -/

theorem serve_taken (reads : decodeRequest r = .ok i) (waiting : List Request) :
    serve i f (s.havingTaken r waiting) = .next (f (s.havingTaken r waiting)).settle := by
  have its : (s.havingTaken r waiting).isExecuting i = true := by
    simp [State.isExecuting, State.havingTaken, reads]
  rw [serve, State.receive, if_pos its]
  rw [if_pos its, State.answer]

/-- A request that reaches an idle engine has the effect it has when it is taken and nothing waits. -/
theorem serve_idle_taken (encodes : encodeRequest i = some r) (reads : decodeRequest r = .ok i) (idle : s.engineIdle) :
    serve i f s = .next (f (s.havingTaken r [])).settle := serve_idle i f r s idle encodes reads

theorem State.settle_management : s.settle.management = s.management :=
  management_of_blind (change := State.settle) (fun m t => t.settle_withEngine m) s

/-- The end of a step with another engine. -/
theorem State.settle_engine (m : ManagementEngine) : { s with management := m }.settle = { s.settle with management := m } :=
  s.settle_withEngine m

/-! ### The answer (R161) -/

/-- The engine takes the head of its queue where that passes the header check. -/
theorem State.takeFrom_head {l : List Request} (free : s.management.executing = none)
    (heads : ∀ x ∈ l.head?, (decodeRequest x).isOk) : State.takeFrom l s
      = { s with management := { s.management with executing := l.head?.map (⟨·, false⟩), queue := l.drop 1 } } := by
  cases l with
  | nil =>
    rw [List.head?_nil, Option.map_none, ← free]
    rfl
  | cons x rest =>
    have passes := heads x rfl
    cases reads : decodeRequest x with
    | ok c => exact State.takeFrom_ok reads
    | error o =>
      rw [reads] at passes
      cases passes

/-- The answer to the request in execution, with the requests that wait. -/
theorem State.respond_waiting {u : State} (waiting : List Request)
    (heads : ∀ x ∈ waiting.head?, (decodeRequest x).isOk) (o : RequestOutcome) (fields : List Nat) (data : List Byte) :
    (u.havingTaken r waiting).respond o fields data = { u.sendReply r o fields data with
      management := { u.management with executing := waiting.head?.map (⟨·, false⟩), queue := waiting.drop 1 } } := by
  have sent := State.sendReply_withEngine (s := u) (r := r) (u.havingTaken r waiting).management o fields data
  rw [State.respond_eq rfl]
  refine (congrArg (fun t => State.takeFrom waiting (t.updManagement fun m => { m with executing := none })) sent).trans ?_
  exact State.takeFrom_head rfl heads

/-- The answer to the request in execution, where nothing waits. -/
theorem State.respond_alone {u : State} (idle : u.engineIdle) (o : RequestOutcome) (fields : List Nat) (data : List Byte) :
    (u.havingTaken r []).respond o fields data = u.sendReply r o fields data := by
  have none_waits : ∀ x ∈ ([] : List Request).head?, (decodeRequest x).isOk := nofun
  rw [State.respond_waiting [] none_waits]
  have back : ({ u.management with executing := none, queue := [] } : ManagementEngine)
      = (u.sendReply r o fields data).management := by
    rw [State.sendReply_management, ← idle.1, ← idle.2]
  exact congrArg (fun m => State.withEngine m (u.sendReply r o fields data)) back

end

/-! ### The same effect, whatever waits (R160, R161; logs 16 and 28) -/

section
variable {i : Instr} {r : Request} {s : State} {f : State → State}

/-- A request that does the same whatever waits behind it is answered after its change, or holds the engine. -/
theorem RequestDoes.told (does : RequestDoes f s) (idle : s.engineIdle) (waiting : List Request) :
    (∃ (u : State) (o : RequestOutcome) (fields : List Nat) (data : List Byte), u.management = s.management
      ∧ f (s.havingTaken r []) = u.sendReply r o fields data
      ∧ f (s.havingTaken r waiting) = (u.havingTaken r waiting).respond o fields data)
    ∨ ∃ u : State, u.management.executing = some ⟨r, true⟩ ∧ f (s.havingTaken r []) = u
      ∧ f (s.havingTaken r waiting) = { u with management := { u.management with queue := waiting } } := by
  cases does with
  | answers u o fields data kept does =>
    have there (l : List Request) : f (s.havingTaken r l) = (u.havingTaken r l).respond o fields data := by
      refine (does (s.havingTaken r l).management).trans ?_
      have same : (s.havingTaken r l).management = (u.havingTaken r l).management := by
        rw [State.havingTaken, State.havingTaken, kept]
      rw [same]
      rfl
    have still : u.engineIdle := by rw [State.engineIdle, kept]; exact idle
    exact .inl ⟨u, o, fields, data, kept, (there []).trans (State.respond_alone still o fields data), there waiting⟩
  | holds u g held blind does =>
    have there (l : List Request) : f (s.havingTaken r l)
        = u.withEngine { g (s.havingTaken r []).management with queue := l } :=
      (does _).trans (congrArg (fun m => State.withEngine m u) (blind (s.havingTaken r []).management l))
    refine .inr ⟨u.withEngine (g (s.havingTaken r []).management), held _, does _, there waiting⟩

/-- The step of a request on an idle engine, and its step where it has been taken and others wait. -/
theorem RequestDoes.effect (does : RequestDoes f s) (idle : s.engineIdle) (waiting : List Request)
    (alone : exec i s = .next (f (s.havingTaken r [])).settle)
    (taken : exec i (s.havingTaken r waiting) = .next (f (s.havingTaken r waiting)).settle) :
    ((∃ (u : State) (o : RequestOutcome) (fields : List Nat) (data : List Byte), u.management = s.management
        ∧ exec i s = .next (u.answered (requesterOf r) r.code o fields data)
        ∧ exec i (s.havingTaken r waiting)
          = .next (State.respond o fields data { u with management := (s.havingTaken r waiting).management }).settle)
      ∨ ∃ u : State, u.management.executing = some ⟨r, true⟩ ∧ exec i s = .next u.settle
        ∧ exec i (s.havingTaken r waiting) = .next { u with management := { u.management with queue := waiting } }.settle)
    ∧ ∀ t : State, exec i s = .next t → (∀ x ∈ waiting.head?, (decodeRequest x).isOk) →
      (t.management.executing = none → exec i (s.havingTaken r waiting) = .next { t with
        management := { t.management with
          executing := waiting.head?.map (⟨·, false⟩), queue := waiting.drop 1 } })
      ∧ (t.management.executing ≠ none → exec i (s.havingTaken r waiting) = .next { t with
        management := { t.management with queue := waiting } }) := by
  rcases does.told idle waiting with ⟨u, o, fields, data, kept, answered, waited⟩ | ⟨u, held, holds, waited⟩
  · rw [answered] at alone
    have engine : (s.havingTaken r waiting).management = (u.havingTaken r waiting).management := by
      rw [State.havingTaken, State.havingTaken, kept]
    refine ⟨.inl ⟨u, o, fields, data, kept, alone, ?_⟩, fun t run heads => ?_⟩
    · rw [taken, waited, engine]
      rfl
    · have final : t = (u.sendReply r o fields data).settle := Host.Outcome.next.inj (run.symm.trans alone)
      have same : t.management = u.management := by rw [final, State.settle_management, State.sendReply_management]
      refine ⟨fun _ => ?_, fun runs => absurd (by rw [same, kept]; exact idle.1) runs⟩
      rw [taken, waited, State.respond_waiting waiting heads, State.settle_engine, ← final, same]
  · rw [holds] at alone
    rw [waited] at taken
    refine ⟨.inr ⟨u, held, alone, taken⟩, fun t run heads => ?_⟩
    have final : t = u.settle := Host.Outcome.next.inj (run.symm.trans alone)
    have same : t.management = u.management := by rw [final, State.settle_management]
    refine ⟨fun free => ?_, fun _ => ?_⟩
    · rw [same, held] at free
      cases free
    · rw [taken, State.settle_engine, ← final, same]

/-- A restart goes as it goes on an idle engine: the reply comes first, and no request waits after it (R165). -/
theorem State.restartFirst_havingTaken (waiting : List Request) :
    (s.havingTaken r waiting).replyFirst.restart = (s.havingTaken r []).replyFirst.restart := by
  have first : (s.havingTaken r waiting).replyFirst
      = (s.havingTaken r []).replyFirst.withEngine (s.havingTaken r waiting).management :=
    State.replyFirst_withEngine (s.havingTaken r []).management s rfl
  rw [first, State.restart_withEngine]

/-- The answer to a request touches the engine's requests, the service port and the egresses toward the switch alone. -/
theorem respond_leaves {e : Execution} (runs : s.management.executing = some e) (o : RequestOutcome) (fields : List Nat)
    (data : List Byte) :
    let t := s.respond o fields data
    t.management.executing = (takenNext s.management.queue).map (⟨·, false⟩)
    ∧ t.management.queue = afterTaken s.management.queue
    ∧ t = { s with management := t.management, service := t.service, links := t.links }
    ∧ t.management.commitView = s.management.commitView
    ∧ ∀ j, t.link j = { s.link j with fabricSide := (t.link j).fabricSide } := by
  have told := replyTold_respond runs o fields data
  have touched := touches_respond o fields data s
  refine ⟨?_, ?_, touched.eq, ?_, fun j => touched.link_eq j⟩
  · rw [told.management]
  · rw [told.management]
  · rw [told.management]

end

/-- Settles O3: a request's function is blind to the queue behind it, told once by `RequestDoes`. -/
theorem engineServesRequestsInOrder : Obligations.EngineServesRequestsInOrder := by
  refine ⟨fun i r s e encodes busy other => ?_, fun i r s wf encodes idle => ?_, fun i r waiting s wf encodes idle => ?_,
    fun s e o fields data runs => respond_leaves runs o fields data⟩
  · obtain ⟨f, served, -⟩ := isServed_of_encode encodes
    rw [served, serve_busy encodes busy other]
  · obtain ⟨f, served, -⟩ := isServed_of_encode encodes
    have reads := requestsReadBackAsSent i r wf encodes
    have taken : ({ s with management := { s.management with executing := some ⟨r, false⟩ } } : State) = s.havingTaken r [] := by
      rw [State.havingTaken, ← idle.2]
    rw [taken, served, served, serve_taken reads, serve_idle_taken encodes reads idle]
  · have reads := requestsReadBackAsSent i r wf encodes
    refine ⟨fun q restart => ?_, fun q state => ?_, fun other_restart other_state => ?_⟩
    · subst restart
      rw [exec_deviceRestart_serve, exec_deviceRestart_serve, serve_taken reads, serve_idle_taken encodes reads idle,
        State.restartFirst_havingTaken]
    · subst state
      rw [exec_readStateDevice_serve, serve_taken reads]
    · obtain ⟨f, served, does⟩ := isServed_of_encode encodes
      refine (does other_restart other_state s).effect idle waiting ?_ ?_
      · rw [served, serve_idle_taken encodes reads idle]
      · rw [served, serve_taken reads]

end Sys2Proof.Machine
end
